-- ==== Sys2Proof/Word.lean ====
section
/-!
DEFINITION. The word types of the ZX-128 and the plainest helpers over them.
A byte is 8 bits, a register word 64, a vector register 1,024 (R52); a table is a list keyed by a number.
-/
namespace Sys2Proof

/-- One byte of memory. -/
abbrev Byte := BitVec 8
/-- A 64-bit scalar register value (R52). -/
abbrev Word := BitVec 64
/-- A 32-bit value: a script word, a literal, a coordinate. -/
abbrev Word32 := BitVec 32
/-- A 1,024-bit vector register value: 128 bytes, two granules (R36, R52). -/
abbrev Vec := BitVec 1024
/-- The 64 data bytes of one granule (R97). -/
abbrev Gran := BitVec 512
/-- The 16-bit sideband of one granule (R97). -/
abbrev Side := BitVec 16

/-- A sparse table: entries keyed by a number, keys strictly rising. -/
abbrev Tab (α : Type) := List (Nat × α)

/-- Bits `lo` to `lo + len - 1` of `w`, as a number. -/
def fld {n : Nat} (w : BitVec n) (lo len : Nat) : Nat := w.toNat / 2 ^ lo % 2 ^ len

/-- `a` reduced modulo `2 ^ 64`. -/
def w64 (a : Nat) : Word := BitVec.ofNat 64 a

end Sys2Proof
end

