-- ==== Sys2Proof/Config.lean ====
section
/-!
DEFINITION. What the part fixes outside the spec's words: free values that nothing in Lean can evaluate.
Each is an opaque constant, so a claim that holds in the model holds whatever its value (log 5, 7, 8).
-/
namespace Sys2Proof.Config

/-- A byte that the spec leaves open: answers whose layout it does not give (log 5). -/
opaque freeByte : Nat → Byte

/-- A temperature, draw or voltage that only the physical part knows (log 5). -/
opaque freeMeasure : Nat → Nat

/-- The set of a translation cache that a page of a job maps to, 0 to 63 (R336 gives no index function; log 7). -/
opaque tlbSet : Nat → Nat → Nat → Nat

/-- The set of a slice's memory-side cache that a line maps to, and the way that a line occupies (R210 and R390 give
neither; log 7). -/
opaque cacheSet : Nat → Nat → Nat
opaque cacheWay : Nat → Nat → Nat

/-- The entry of a slice's stash directory that leaves to make room for a line, by its place among those listed (R207 gives
neither the number of entries nor which is chosen; log 7). -/
opaque dirVictim : Nat → Nat → Nat → Nat

/-- SHAKE256 with a 64-byte output (R371, R372; log 8). -/
opaque shake256 : List Byte → BitVec 512

/-- A Falcon-1024 signature by the identity key: at most 1,280 bytes (R372; log 8). -/
opaque falconSign : List Byte → List Byte

/-- SIGLEN of that signature, from the report's bytes before the field (R372; log 8). -/
opaque falconLen : List Byte → Nat

/-- The identity public key, 1,793 bytes (R367; log 8). -/
opaque identityKey : List Byte

/-- The Colduwald certificate of the identity key (R367; log 8). -/
opaque certificate : List Byte

end Sys2Proof.Config
end

