-- ==== Sys2Proof/Syntax.lean ====
section
/-!
DEFINITION. The instructions of the ZX-128: one constructor for each of the 323 rows of the opcode table.
Stage instructions carry the operand fields of their format (R41, R43); script words carry the fields of R185;
host commands carry their record; the rows that are whole events of another agent carry the numbers of the object
the event happens to (a plane id, a ring key, a die, an index into a queue of State).
-/


namespace Sys2Proof

/-- Operands of format A: registers D, A, B and width W, with the guard G, GN (R41, R43). -/
structure OpA where
  g : BitVec 3
  gn : BitVec 1
  d : BitVec 5
  a : BitVec 5
  b : BitVec 5
  w : BitVec 2
  deriving DecidableEq, Repr

/-- Operands of format I: D, A, width W and a 32-bit immediate (R43). -/
structure OpI where
  g : BitVec 3
  gn : BitVec 1
  d : BitVec 5
  a : BitVec 5
  w : BitVec 2
  imm : BitVec 32
  deriving DecidableEq, Repr

/-- Operands of format C: predicate PD, A, B and IMM32; the bit I is fixed by the constructor, CMP or CMPI (R43, R46). -/
structure OpC where
  g : BitVec 3
  gn : BitVec 1
  pd : BitVec 3
  a : BitVec 5
  b : BitVec 5
  imm : BitVec 32
  deriving DecidableEq, Repr

/-- Operands of format B: the signed word offset OFF32 (R43). -/
structure OpB where
  g : BitVec 3
  gn : BitVec 1
  off : BitVec 32
  deriving DecidableEq, Repr

/-- Operands of format V, vector (R43). -/
structure OpV where
  g : BitVec 3
  gn : BitVec 1
  vd : BitVec 4
  va : BitVec 4
  vb : BitVec 4
  vc : BitVec 4
  m : BitVec 3
  t : BitVec 3
  rm : BitVec 3
  sat : BitVec 1
  imm : BitVec 20
  deriving DecidableEq, Repr

/-- Operands of format H, ring operand (R43). -/
structure OpH where
  g : BitVec 3
  gn : BitVec 1
  v : BitVec 4
  h : BitVec 4
  nw : BitVec 6
  st : BitVec 4
  am : BitVec 2
  ml : BitVec 3
  go : BitVec 7
  deriving DecidableEq, Repr

/-- Operands of format M, matrix (R43). -/
structure OpM where
  g : BitVec 3
  gn : BitVec 1
  sa : BitVec 5
  sb : BitVec 5
  ah : BitVec 1
  ha : BitVec 4
  bh : BitVec 1
  hb : BitVec 4
  ta : BitVec 3
  tb : BitVec 3
  kb : BitVec 3
  deriving DecidableEq, Repr

/-- Operands of format N, memory; a vector form names its register in D[4:1] (R43). -/
structure OpN where
  g : BitVec 3
  gn : BitVec 1
  d : BitVec 5
  a : BitVec 5
  sz : BitVec 3
  sc : BitVec 3
  ord : BitVec 2
  off : BitVec 24
  deriving DecidableEq, Repr

/-- Operands of format X, atomic (R43). -/
structure OpX where
  g : BitVec 3
  gn : BitVec 1
  d : BitVec 5
  a : BitVec 5
  b : BitVec 5
  c : BitVec 5
  sc : BitVec 3
  ord : BitVec 2
  sz : BitVec 3
  deriving DecidableEq, Repr

/-- A fragment that another package sends and an external port receives: the port, and the fragment's 288 bytes (R295). R295 does
not say where a fragment carries its message's addresses and action, nor whether it belongs to a reply: the message's
descriptor (R300) stands beside the bytes, that of the request for a GET reply, and for an ordered message the identifier of
the ordered message before it from the same source (R303; log 24). -/
structure Inbound where
  port : Nat
  bytes : List (BitVec 8)
  desc : BitVec 512
  reply : Bool
  pred : Option Nat
  deriving DecidableEq, Repr

/-- What a control fragment of another package says (R299, R316): the endpoint and die that send it, the die it is for, the
message's identifier, class and job; the indices of a NACK, the lost fragments it reports for each class (R298), whether the
message counted bytes in windows (R317), and whether the destination holds no such job (R316). -/
structure Answer where
  ep : Nat
  die : Nat
  dstDie : Nat
  msgid : Nat
  cls : Nat
  job : Nat
  list : List Nat
  lost : List (Nat × Nat)
  counted : Bool
  reject : Bool
  deriving DecidableEq, Repr

/-- Operands of format K, system (R43). -/
structure OpK where
  g : BitVec 3
  gn : BitVec 1
  d : BitVec 5
  a : BitVec 5
  kreg : BitVec 12
  imm : BitVec 24
  deriving DecidableEq, Repr

/-- The conditions of CMP, CMPI and VCMP (R92), in the order of their codes 0x00 to 0x09. -/
inductive Cond
  | eq | ne | lt | ge | ltu | geu | gt | le | gtu | leu
  deriving DecidableEq, Repr

/-- One command record of 128 bytes taken by the firmware, with the link whose slot held it (R365, R366). -/
structure Cmd where
  link : Nat
  record : BitVec 1024
  deriving DecidableEq, Repr

/-- Every instruction, command and event of the opcode table. -/
inductive Instr
  /-- NOP (R83). -/
  | nop (o : OpA)
  /-- END (R83). -/
  | endFiring (o : OpA)
  /-- ADD (R85). -/
  | add (o : OpA)
  /-- SUB (R85). -/
  | sub (o : OpA)
  /-- MUL (R85). -/
  | mul (o : OpA)
  /-- MULH (R85). -/
  | mulh (o : OpA)
  /-- MULHU (R85). -/
  | mulhu (o : OpA)
  /-- DIV (R86). -/
  | div (o : OpA)
  /-- DIVU (R86). -/
  | divu (o : OpA)
  /-- REM (R86). -/
  | rem (o : OpA)
  /-- REMU (R86). -/
  | remu (o : OpA)
  /-- AND (R87). -/
  | andS (o : OpA)
  /-- ANDN (R87). -/
  | andn (o : OpA)
  /-- OR (R87). -/
  | orS (o : OpA)
  /-- XOR (R87). -/
  | xorS (o : OpA)
  /-- SHL (R88). -/
  | shl (o : OpA)
  /-- SHR (R88). -/
  | shr (o : OpA)
  /-- SAR (R88). -/
  | sar (o : OpA)
  /-- ROTL (R88). -/
  | rotl (o : OpA)
  /-- CLZ (R89). -/
  | clz (o : OpA)
  /-- CTZ (R89). -/
  | ctz (o : OpA)
  /-- POPC (R89). -/
  | popc (o : OpA)
  /-- MIN (R85). -/
  | min (o : OpA)
  /-- MAX (R85). -/
  | max (o : OpA)
  /-- MINU (R85). -/
  | minu (o : OpA)
  /-- MAXU (R85). -/
  | maxu (o : OpA)
  /-- MOV (R90). -/
  | mov (o : OpA)
  /-- SEL (R90). -/
  | sel (o : OpA)
  /-- ADDSH (R90). -/
  | addsh (sh : BitVec 2) (o : OpA)
  /-- ADDI (R87). -/
  | addi (o : OpI)
  /-- ANDI (R87). -/
  | andi (o : OpI)
  /-- ORI (R87). -/
  | ori (o : OpI)
  /-- XORI (R87). -/
  | xori (o : OpI)
  /-- SHLI (R88). -/
  | shli (o : OpI)
  /-- SHRI (R88). -/
  | shri (o : OpI)
  /-- SARI (R88). -/
  | sari (o : OpI)
  /-- ROTLI (R88). -/
  | rotli (o : OpI)
  /-- LUI (R90). -/
  | lui (o : OpI)
  /-- BFX (R91). -/
  | bfx (o : OpI)
  /-- BFXU (R91). -/
  | bfxu (o : OpI)
  /-- BFI (R91). -/
  | bfi (o : OpI)
  /-- CMP (R92). -/
  | cmp (cc : Cond) (o : OpC)
  /-- CMPI (R92). -/
  | cmpi (cc : Cond) (o : OpC)
  /-- PAND (R93). -/
  | pand (o : OpA)
  /-- POR (R93). -/
  | por (o : OpA)
  /-- PXOR (R93). -/
  | pxor (o : OpA)
  /-- PNOT (R93). -/
  | pnot (o : OpA)
  /-- BR (R94). -/
  | br (o : OpB)
  /-- BL (R94). -/
  | bl (o : OpB)
  /-- RET (R95). -/
  | ret (o : OpA)
  /-- JMPR (R95). -/
  | jmpr (o : OpA)
  /-- RLD (R119). -/
  | rld (o : OpH)
  /-- RST (R118). -/
  | rst (o : OpH)
  /-- RPEEK (R119). -/
  | rpeek (o : OpH)
  /-- RMARK (R118). -/
  | rmark (o : OpH)
  /-- RFMT (R118). -/
  | rfmt (o : OpH)
  /-- CLAIM (R117). -/
  | claim (o : OpH)
  /-- COMMIT (R117). -/
  | commit (o : OpH)
  /-- AWAIT (R119). -/
  | await (o : OpH)
  /-- RETIRE (R120). -/
  | retire (o : OpH)
  /-- RADV (R120). -/
  | radv (o : OpH)
  /-- RBIND (R121). -/
  | rbind (o : OpK)
  /-- RUNBIND (R121). -/
  | runbind (o : OpK)
  /-- RCAST (R121). -/
  | rcast (o : OpK)
  /-- RDET (R112). -/
  | rdet (o : OpK)
  /-- RSTAT (R122). -/
  | rstat (o : OpK)
  /-- VADD (R130). -/
  | vadd (o : OpV)
  /-- VADDS (R131). -/
  | vadds (o : OpV)
  /-- VSUB (R130). -/
  | vsub (o : OpV)
  /-- VMUL (R130). -/
  | vmul (o : OpV)
  /-- VFMA (R130). -/
  | vfma (o : OpV)
  /-- VFMS (R130). -/
  | vfms (o : OpV)
  /-- VMIN (R131). -/
  | vmin (o : OpV)
  /-- VMAX (R131). -/
  | vmax (o : OpV)
  /-- VABS (R131). -/
  | vabs (o : OpV)
  /-- VNEG (R131). -/
  | vneg (o : OpV)
  /-- VAND (R132). -/
  | vand (o : OpV)
  /-- VOR (R132). -/
  | vor (o : OpV)
  /-- VXOR (R132). -/
  | vxor (o : OpV)
  /-- VSHL (R132). -/
  | vshl (o : OpV)
  /-- VSHR (R132). -/
  | vshr (o : OpV)
  /-- VSAR (R132). -/
  | vsar (o : OpV)
  /-- VSEL (R133). -/
  | vsel (o : OpV)
  /-- VCMP (R134). -/
  | vcmp (cc : Cond) (o : OpV)
  /-- VCVT (R135). -/
  | vcvt (o : OpV)
  /-- VRCP (R136). -/
  | vrcp (o : OpV)
  /-- VRSQ (R136). -/
  | vrsq (o : OpV)
  /-- VEXP2 (R136). -/
  | vexp2 (o : OpV)
  /-- VLOG2 (R136). -/
  | vlog2 (o : OpV)
  /-- VSCALE (R137). -/
  | vscale (o : OpV)
  /-- VREDADD (R138). -/
  | vredadd (o : OpV)
  /-- VREDMAX (R138). -/
  | vredmax (o : OpV)
  /-- VREDMIN (R138). -/
  | vredmin (o : OpV)
  /-- VSCAN (R139). -/
  | vscan (o : OpV)
  /-- VCNT (R140). -/
  | vcnt (o : OpV)
  /-- VPERM (R141). -/
  | vperm (o : OpV)
  /-- VSPLAT (R141). -/
  | vsplat (o : OpV)
  /-- VEXT (R141). -/
  | vext (o : OpV)
  /-- VINS (R141). -/
  | vins (o : OpV)
  /-- VPACK (R142). -/
  | vpack (o : OpV)
  /-- VUNPK (R142). -/
  | vunpk (o : OpV)
  /-- VCOMP (R143). -/
  | vcomp (o : OpV)
  /-- VMRG (R144). -/
  | vmrg (o : OpV)
  /-- MMA (R163). -/
  | mma (o : OpM)
  /-- MMA_ADV (R163). -/
  | mmaAdv (o : OpM)
  /-- MLDB_HANDLE (R164). -/
  | mldbHandle (o : OpH)
  /-- MLDB_BANK (R164). -/
  | mldbBank (o : OpM)
  /-- MLDBT_HANDLE (R164). -/
  | mldbtHandle (o : OpH)
  /-- MLDBT_BANK (R164). -/
  | mldbtBank (o : OpM)
  /-- MSCA_HANDLE (R165). -/
  | mscaHandle (o : OpM)
  /-- MSCA_BANK (R165). -/
  | mscaBank (o : OpM)
  /-- MSCB_HANDLE (R165). -/
  | mscbHandle (o : OpM)
  /-- MSCB_REGISTER (R165). -/
  | mscbRegister (o : OpM)
  /-- MKB (R166). -/
  | mkb (o : OpM)
  /-- MZERO (R167). -/
  | mzero (o : OpM)
  /-- MREL (R167). -/
  | mrel (o : OpM)
  /-- MWAIT (R170). -/
  | mwait (o : OpM)
  /-- MRD (R168). -/
  | mrd (o : OpV)
  /-- MWR (R168). -/
  | mwr (o : OpV)
  /-- MSAVE (R169). -/
  | msave (o : OpN)
  /-- MLOAD (R169). -/
  | mload (o : OpN)
  /-- LD (R202). -/
  | ld (o : OpN)
  /-- ST (R202). -/
  | st (o : OpN)
  /-- VLD (R202). -/
  | vld (o : OpN)
  /-- VST (R202). -/
  | vst (o : OpN)
  /-- LD_BK (R198). -/
  | ldBk (o : OpN)
  /-- ST_BK (R198). -/
  | stBk (o : OpN)
  /-- VLD_BK (R198). -/
  | vldBk (o : OpN)
  /-- VST_BK (R198). -/
  | vstBk (o : OpN)
  /-- SWB_LINE (R209). -/
  | swbLine (o : OpN)
  /-- SWB_ALL (R209). -/
  | swbAll (o : OpN)
  /-- SINV_LINE (R209). -/
  | sinvLine (o : OpN)
  /-- SINV_ALL (R209). -/
  | sinvAll (o : OpN)
  /-- SPIN (R210). -/
  | spin (o : OpN)
  /-- SUNPIN (R210). -/
  | sunpin (o : OpN)
  /-- FENCE (R226). -/
  | fence (o : OpN)
  /-- AADD (R212). -/
  | aadd (o : OpX)
  /-- AADDS (R212). -/
  | aadds (o : OpX)
  /-- AMIN (R212). -/
  | amin (o : OpX)
  /-- AMAX (R212). -/
  | amax (o : OpX)
  /-- AMINU (R212). -/
  | aminu (o : OpX)
  /-- AMAXU (R212). -/
  | amaxu (o : OpX)
  /-- AAND (R212). -/
  | aand (o : OpX)
  /-- AOR (R212). -/
  | aor (o : OpX)
  /-- AXOR (R212). -/
  | axor (o : OpX)
  /-- ASWP (R212). -/
  | aswp (o : OpX)
  /-- ACAS (R212). -/
  | acas (o : OpX)
  /-- ATOPK (R214). -/
  | atopk (o : OpX)
  /-- AWARM (R217). -/
  | awarm (o : OpK)
  /-- AWDIS (R217). -/
  | awdis (o : OpK)
  /-- AWRD (R218). -/
  | awrd (o : OpK)
  /-- QPUSH (R260). -/
  | qpush (o : OpX)
  /-- DDEC (R262). -/
  | ddec (o : OpX)
  /-- DSET (R262). -/
  | dset (o : OpX)
  /-- TWAIT (R263). -/
  | twait (o : OpK)
  /-- TREAD (R263). -/
  | tread (o : OpK)
  /-- BAR (R275). -/
  | bar (o : OpK)
  /-- YIELD (R277). -/
  | yield (o : OpK)
  /-- FRONT (R283). -/
  | front (o : OpK)
  /-- FDONE (R283). -/
  | fdone (o : OpK)
  /-- FSAVE (R283). -/
  | fsave (o : OpK)
  /-- FREST (R283). -/
  | frest (o : OpK)
  /-- SREQ (R247). -/
  | sreq (o : OpK)
  /-- SPROG (R232). -/
  | sprog (o : OpK)
  /-- SLAYOUT (R246). -/
  | slayout (o : OpK)
  /-- SCFG (R249). -/
  | scfg (o : OpK)
  /-- SSTOP (R250). -/
  | sstop (o : OpK)
  /-- XPUT (R312). -/
  | xput (o : OpK)
  /-- XGET (R312). -/
  | xget (o : OpK)
  /-- XRATE_READ (R313). -/
  | xrateRead (o : OpK)
  /-- XRATE_WRITE (R313). -/
  | xrateWrite (o : OpK)
  /-- XPATH (R313). -/
  | xpath (o : OpK)
  /-- XFLUSH (R314). -/
  | xflush (o : OpK)
  /-- XSTAT (R315). -/
  | xstat (o : OpK)
  /-- KRD (R341). -/
  | krd (o : OpK)
  /-- KWR (R341). -/
  | kwr (o : OpK)
  /-- TRAP (R342). -/
  | trap (o : OpK)
  /-- ERET (R343). -/
  | eret (o : OpK)
  /-- BRK (R342). -/
  | brk (o : OpK)
  /-- PURGE (R344). -/
  | purge (o : OpK)
  /-- IDLE (R345). -/
  | idle (o : OpK)
  /-- HALTP (R346). -/
  | haltp (o : OpK)
  /-- ERRPOP (R347). -/
  | errpop (o : OpK)
  /-- STAGE_ILLEGAL (R51). -/
  | stageIllegal (pc : BitVec 64) (info : BitVec 64)
  /-- EXPECT (R187). -/
  | expect (t : BitVec 4) (ge : BitVec 1)
  /-- LOOK (R177). -/
  | look (t : BitVec 4) (ge : BitVec 1)
  /-- CHOOSE (R177). -/
  | choose (t : BitVec 4) (tgt : BitVec 12)
  /-- PUSHN (R188). -/
  | pushn (n : BitVec 8)
  /-- RETN (R188). -/
  | retn
  /-- FIRE (R189). -/
  | fire (stage : BitVec 8) (entry : BitVec 10) (asel : BitVec 3) (lit : BitVec 32)
  /-- EMIT (R190). -/
  | emit (h : BitVec 4) (m : BitVec 3)
  /-- SYNC (R187). -/
  | sync (l : BitVec 3)
  /-- ONERR (R186). -/
  | onerr (r : BitVec 8) (l : BitVec 3) (f : BitVec 1) (h : BitVec 4)
  /-- ACCEPT (R191). -/
  | accept
  /-- SCALL (R192). -/
  | scall (n : BitVec 6) (lit : BitVec 32)
  /-- SRET (R192). -/
  | sret
  /-- SPAWN (R192). -/
  | spawn (n : BitVec 6) (lit : BitVec 32)
  /-- TRIG (R193). -/
  | trig (p : BitVec 2) (c : BitVec 16)
  /-- PLSW (R193). -/
  | plsw (p : BitVec 2)
  /-- WAITW (R194). -/
  | waitw (d : BitVec 3) (sl : BitVec 6) (w : BitVec 6)
  /-- KILL (R195). -/
  | kill (src : BitVec 1)
  /-- NTDEF (R180). -/
  | ntdef (n : BitVec 8)
  /-- SCRIPT_ILLEGAL (R51). -/
  | scriptIllegal (pc : BitVec 64) (info : BitVec 64)
  /-- CQSETUP (R368). -/
  | cqsetup (c : Cmd)
  /-- ADMIT (R370). -/
  | admitJob (c : Cmd)
  /-- CANCEL (R367). -/
  | cancel (c : Cmd)
  /-- MAP (R402). -/
  | map (c : Cmd)
  /-- FAULTSVC (R339). -/
  | faultsvc (c : Cmd)
  /-- PLOAD (R367). -/
  | pload (c : Cmd)
  /-- QREG (R259). -/
  | qreg (c : Cmd)
  /-- QUERY (R367). -/
  | query (c : Cmd)
  /-- ATTEST (R372). -/
  | attest (c : Cmd)
  /-- RESET (R373). -/
  | reset (c : Cmd)
  /-- POWER (R377). -/
  | power (c : Cmd)
  /-- RAS (R367). -/
  | ras (c : Cmd)
  /-- RESUME (R342). -/
  | resume (c : Cmd)
  /-- APMAP (R364). -/
  | apmap (c : Cmd)
  /-- PATCH (R371). -/
  | patch (c : Cmd)
  /-- COMMAND_TRIGGER (R366). -/
  | commandTrigger (link : Nat)
  /-- CQHEAD_WRITE (R368). -/
  | cqheadWrite (link : Nat) (v : BitVec 32)
  /-- REGISTER_WRITE (R7). -/
  | registerWrite (link : Nat) (off : Nat) (bytes : List (BitVec 8))
  /-- APERTURE_READ (R364). -/
  | apertureRead (link : Nat) (off : Nat) (n : Nat)
  /-- APERTURE_WRITE (R364). -/
  | apertureWrite (link : Nat) (off : Nat) (bytes : List (BitVec 8))
  /-- CQ_ENTRY_WRITE (R368). -/
  | cqEntryWrite (link : Nat)
  /-- MSIX_SEND (R368). -/
  | msixSend (link : Nat)
  /-- POWERON (R374). -/
  | poweron
  /-- BRING_UP (R375). -/
  | bringUp (ok : Bool)
  /-- LINKRESET (R374). -/
  | linkreset (link : Nat)
  /-- HOT_RESET (R373). -/
  | hotReset (link : Nat)
  /-- LOCKSTEP (R17). -/
  | lockstep
  /-- THERMAL (R374). -/
  | thermal (die : Nat)
  /-- WATCHDOG (R374). -/
  | watchdog
  /-- SUPPLY (R374). -/
  | supply (rail : Nat)
  /-- POWEROVER (R376). -/
  | powerover (die : Nat)
  /-- THERMWARN (R376). -/
  | thermwarn (die : Nat)
  /-- UNDERVOLT_STEP (R378). -/
  | undervoltStep (die : Nat)
  /-- PREDFAIL (R378). -/
  | predfail (die : Nat) (array : Nat)
  /-- FRAME_START (R271). -/
  | frameStart (die : Nat)
  /-- PORT_ISSUE (R79). -/
  | portIssue (die : Nat) (cell : Nat) (bad : List (Nat × Nat)) (logBad : Bool)
  /-- TOKEN_DELIVERY (R189). -/
  | tokenDelivery (idx : Nat)
  /-- FIRING_START (R81). -/
  | firingStart (pid : Nat)
  /-- KILL_DELIVERY (R195). -/
  | killDelivery (idx : Nat)
  /-- CLAIM_GRANT (R114). -/
  | claimGrant (ring : Nat)
  /-- COMMIT_FILLED (R104). -/
  | commitFilled (pid : Nat) (idx : Nat)
  /-- WINDOW_PRESENT (R103). -/
  | windowPresent (pid : Nat)
  /-- RETIRE_ARRIVAL (R101). -/
  | retireArrival (ring : Nat)
  /-- BRANCH_DETACH_TIMEOUT (R111). -/
  | branchDetachTimeout (ring : Nat) (branch : Nat)
  /-- MATRIX_OP_START (R153). -/
  | matrixOpStart (pid : Nat) (idx : Nat)
  /-- ACC_RELEASE (R159). -/
  | accRelease (pid : Nat) (hand : Nat)
  /-- ACC_DRAIN (R160). -/
  | accDrain (pid : Nat) (hand : Nat)
  /-- OWNERSHIP_RESUME (R155). -/
  | ownershipResume (pid : Nat)
  /-- MWAIT_COMPLETE (R170). -/
  | mwaitComplete (pid : Nat)
  /-- LOAD_RESPONSE (R203). -/
  | loadResponse (pid : Nat) (op : Nat)
  /-- STORE_PERFORM (R203). -/
  | storePerform (pid : Nat) (op : Nat)
  /-- ATOMIC_PERFORM (R213). -/
  | atomicPerform (pid : Nat) (op : Nat)
  /-- WINDOW_COUNT (R219). -/
  | windowCount (die : Nat) (idx : Nat)
  /-- WINDOW_ACTION (R220). -/
  | windowAction (die : Nat) (idx : Nat)
  /-- PAGE_WALK (R338). -/
  | pageWalk (die : Nat)
  /-- PAGE_WALK_DONE (R339). -/
  | pageWalkDone (die : Nat) (idx : Nat)
  /-- STREAM_LOAD (R232). -/
  | streamLoad (slice : Nat) (ctx : Nat)
  /-- STREAM_WALK_START (R248). -/
  | streamWalkStart (slice : Nat) (ctx : Nat)
  /-- STREAM_POINT_PUSH (R242). -/
  | streamPointPush (slice : Nat) (ctx : Nat)
  /-- STREAM_POINT_WRITE (R243). -/
  | streamPointWrite (slice : Nat) (ctx : Nat)
  /-- STREAM_WALK_END (R230). -/
  | streamWalkEnd (slice : Nat) (ctx : Nat)
  /-- STREAM_SERVICE_RESUME (R254). -/
  | streamServiceResume (slice : Nat) (ctx : Nat)
  /-- SLATE_DEQUEUE (R264). -/
  | slateDequeue (die : Nat)
  /-- TAKE_CREATE (R265). -/
  | takeCreate (die : Nat)
  /-- REGION_PLACE (R266). -/
  | regionPlace (die : Nat)
  /-- PLANE_LOAD_DONE (R27). -/
  | planeLoadDone (region : Nat)
  /-- PLANE_SAVE (R332). -/
  | planeSave (region : Nat)
  /-- SAVE_ABANDON (R333). -/
  | saveAbandon (region : Nat)
  /-- PLANE_RESTORE (R334). -/
  | planeRestore (region : Nat)
  /-- BARRIER_OPEN (R275). -/
  | barrierOpen (die : Nat) (idx : Nat)
  /-- TIMELINE_WAKE (R263). -/
  | timelineWake (pid : Nat)
  /-- YIELD_EXPIRY (R277). -/
  | yieldExpiry (pid : Nat)
  /-- IDLE_EXPIRY (R345). -/
  | idleExpiry (pid : Nat)
  /-- MATCH_TOKEN_ARRIVE (R268). -/
  | matchTokenArrive (core : Nat)
  /-- SPILL_RETURN (R269). -/
  | spillReturn (core : Nat)
  /-- FRONTIER_ISSUE (R280). -/
  | frontierIssue (core : Nat)
  /-- BOUNDARY_TAKE (R280). -/
  | boundaryTake (core : Nat)
  /-- FRONTIER_STREAM_SLOT (R281). -/
  | frontierStreamSlot (core : Nat)
  /-- FRONTIER_COMPLETE (R282). -/
  | frontierComplete (core : Nat)
  /-- FRONTIER_SAVE_DONE (R283). -/
  | frontierSaveDone (core : Nat)
  /-- HEAD_SLOT_VISIBLE (R197). -/
  | headSlotVisible (core : Nat) (ctx : Nat)
  /-- LOOKSTARVE (R178). -/
  | lookstarve (core : Nat) (ctx : Nat)
  /-- SCRIPT_RECOVERY (R181). -/
  | scriptRecovery (core : Nat) (ctx : Nat)
  /-- CALL_RETURN (R192). -/
  | callReturn (core : Nat) (ctx : Nat)
  /-- WAITW_WAKE (R194). -/
  | waitwWake (core : Nat) (ctx : Nat)
  /-- TAKE_END (R191). -/
  | takeEnd (tid : Nat)
  /-- TAKE_FAIL (R401). -/
  | takeFail (tid : Nat)
  /-- JOBEND (R25). -/
  | jobend (job : Nat)
  /-- DEADLOCK (R31). -/
  | deadlock (job : Nat)
  /-- LATENCY (R274). -/
  | latency (tid : Nat)
  /-- HANDLER_TAKE_CREATE (R321). -/
  | handlerTakeCreate (core : Nat)
  /-- PARKED_FIRING_RESUME (R325). -/
  | parkedFiringResume (pid : Nat)
  /-- LINE_UE (R389). -/
  | lineUe (home : Nat) (key : Nat) (kind : Nat) (way : Nat)
  /-- CORRECTED_ERROR (R388). -/
  | correctedError (code : Nat) (unit : BitVec 16) (addr : BitVec 64) (det : BitVec 256)
  /-- CORRECTED_MERGE (R391). -/
  | correctedMerge (code : Nat) (unit : BitVec 16)
  /-- DIEFENCE (R392). -/
  | diefence (die : Nat)
  /-- COMPARATOR_PAIR (R330). -/
  | comparatorPair (region : Nat) (exit : Nat)
  /-- BANK_DRAIN (R335). -/
  | bankDrain (cell : Nat)
  /-- FRAGMENT_SEND (R296). -/
  | fragmentSend (msg : Nat)
  /-- FRAGMENT_ARRIVE (R297): a fragment under way in the package, by its place, or one from another package. -/
  | fragmentArrive (frag : Nat ⊕ Inbound)
  /-- FRAGMENT_DISCARD (R295). -/
  | fragmentDiscard (idx : Nat)
  /-- MESSAGE_PERFORM (R302). -/
  | messagePerform (msg : Nat)
  /-- NACK_TIMEOUT (R299). -/
  | nackTimeout (die : Nat) (slot : Nat)
  /-- SOURCE_RESEND_TIMEOUT (R299). -/
  | sourceResendTimeout (msg : Nat)
  /-- SLOT_ABORT_TIMEOUT (R299). -/
  | slotAbortTimeout (die : Nat) (slot : Nat)
  /-- SOURCE_ABORT_TIMEOUT (R299). -/
  | sourceAbortTimeout (msg : Nat)
  /-- ABORT_UNANSWERED (R299). -/
  | abortUnanswered (msg : Nat)
  /-- DACK (R299): like PACK, NACK, LOSS and ABORT a control fragment under way in the package, by its place, or one from
  another package. -/
  | dack (frag : Nat ⊕ Answer)
  /-- PACK (R302). -/
  | pack (frag : Nat ⊕ Answer)
  /-- NACK (R299). -/
  | nack (frag : Nat ⊕ Answer)
  /-- LOSS (R299). -/
  | loss (frag : Nat ⊕ Answer)
  /-- ABORT (R299). -/
  | abort (frag : Nat ⊕ Answer)
  /-- GET_REPLY_PERFORM (R301). -/
  | getReplyPerform (msg : Nat)
  /-- ENTRY_EXPIRE (R298). -/
  | entryExpire (die : Nat) (idx : Nat)
  /-- LINKDOWN (R316). -/
  | linkdown (die : Nat) (port : Nat)
  /-- BRIDGE_SEND (R309). -/
  | bridgeSend (die : Nat) (bridge : Nat)
  /-- GRANT (R309). -/
  | grant (die : Nat) (bridge : Nat)
  /-- BRIDGE_ARRIVAL (R309). -/
  | bridgeArrival (die : Nat) (bridge : Nat)
  /-- BRIDGEBREAK (R310). -/
  | bridgebreak (die : Nat) (bridge : Nat)
  /-- LOCAL_DEADLOCK_REPORT (R31). -/
  | localDeadlockReport (job : Nat) (pkg : Nat)
  deriving DecidableEq, Repr

/-- The descriptor words of a streamer program (R49, R233); D is a dimension. -/
inductive Desc
  /-- SBASE: the walk's base address. -/
  | sbase (base : BitVec 52)
  /-- SDIM: extent and stride of a dimension; with XM the extent is a bound and a literal word follows. -/
  | sdim (d : BitVec 2) (xm : BitVec 1) (ext : BitVec 21) (stride : BitVec 32)
  /-- SIDX: a dimension indexed through an array. -/
  | sidx (d : BitVec 2) (addr : BitVec 52)
  /-- SWIN: a dimension as a sliding window of taps. -/
  | swin (d : BitVec 2) (kw dil ostr padb : BitVec 6) (inext : BitVec 22)
  /-- SFMT: stored and pushed tags, RM and SAT. -/
  | sfmt (stag ptag rm : BitVec 3) (sat : BitVec 1)
  /-- SMARK: a dimension's mark. -/
  | smark (d : BitVec 2) (mark : BitVec 3)
  /-- SDEST: the destination ring. -/
  | sdest (colour : BitVec 4) (csel : BitVec 1) (lg : BitVec 4) (base : BitVec 10) (cy cx : BitVec 4)
  /-- SSRC: the source ring and branch. -/
  | ssrc (colour : BitVec 4) (csel : BitVec 1) (branch : BitVec 3) (lg : BitVec 4) (base : BitVec 10) (cy cx : BitVec 4)
  /-- SFILLV: the padding value. -/
  | sfillv (fill : BitVec 32)
  /-- SPOL: the out-of-range policy and limit. -/
  | spol (pol : BitVec 1) (limit : BitVec 32)
  /-- SCOAL: points in flight and coalescing window. -/
  | scoal (pf win : BitVec 7)
  /-- SEOT: the last word. -/
  | seot (eotf hold empty dv : BitVec 1) (dctr : BitVec 12)
  deriving DecidableEq, Repr

end Sys2Proof
end

