-- ==== Sys2Proof/WellFormed.lean ====
section
/-!
DEFINITION. When an instruction is well formed: the field values that the spec allows (R44, R45 and the field table
of each class: R84, R88, R91, R115, R121, R128, R135, R141 to R144, R162, R185, R201, R211, R217, R251, R263, R286,
R311, R340). A word that breaks one of them is illegal (R50); decode refuses it.
-/
namespace Sys2Proof

/-- The floating format tags: all but INT8 (5) and INT32 (7) (R59). -/
def isFloatTag (t : BitVec 3) : Bool := t != 5 && t != 7

/-- ElemWidth (R58): bits of an element of a tag. -/
def elemWidth (t : BitVec 3) : Nat :=
  match t.toNat with
  | 0 => 32 | 1 => 16 | 2 => 16 | 3 => 8 | 4 => 8 | 5 => 8 | 6 => 4 | _ => 32

/-- Unsigned conditions, illegal in VCMP with a floating tag (R128). -/
def Cond.isUnsigned : Cond → Bool
  | .ltu | .geu | .gtu | .leu => true
  | .eq | .ne | .lt | .ge | .gt | .le => false

/-- W is 0b00, 0b01 or 0b10 (R45, R84). -/
def OpA.useW (o : OpA) : Bool := o.w != 3
/-- Every operand bit is zero (NOP, END: R83). -/
def OpA.zero (o : OpA) : Bool := o.d == 0 && o.a == 0 && o.b == 0 && o.w == 0
/-- The register fields name predicates, at most 7 (R45, R93). -/
def OpA.predOk (o : OpA) : Bool := o.d.toNat < 8 && o.a.toNat < 8 && o.b.toNat < 8
/-- W is 0b00, 0b01 or 0b10 (R45, R84). -/
def OpI.useW (o : OpI) : Bool := o.w != 3
/-- An immediate shift amount is less than N (R88). -/
def OpI.shiftOk (o : OpI) : Bool := o.imm.toNat < (if o.w == 0 then 64 else 32)
/-- The bit-field immediate: reserved bits zero and POS + LENM1 + 1 at most 64 (R91). -/
def OpI.bitFieldOk (o : OpI) : Bool :=
  fld o.imm 6 2 == 0 && fld o.imm 14 18 == 0 && fld o.imm 0 6 + fld o.imm 8 6 + 1 ≤ 64
/-- Format H: NW, AM, ML, GO limits of R45 and ST only without an advance (R115). -/
def OpH.common (o : OpH) : Bool :=
  o.nw != 0 && o.am != 3 && (if o.am == 2 then 1 ≤ o.ml.toNat && o.ml.toNat ≤ 4 else o.ml == 0)
    && o.go.toNat < o.nw.toNat && (o.st == 0 || o.am == 0)
/-- ST 0 and AM 00 (R115). -/
def OpH.noConsume (o : OpH) : Bool := o.st == 0 && o.am == 0
/-- MAJ 0x0D: KREG[11:4] and IMM24 zero (R121). -/
def OpK.handleOnly (o : OpK) : Bool := o.kreg.toNat < 16 && o.imm == 0
/-- The counter selector of TWAIT and TREAD (R263). -/
def OpK.timelineOk (o : OpK) : Bool :=
  fld o.kreg 10 2 == 1 || (fld o.kreg 10 2 == 0 && fld o.kreg 8 2 == 0)
/-- KREG[5:4] zero in a streamer request (R251). -/
def OpK.streamOk (o : OpK) : Bool := fld o.kreg 4 2 == 0
/-- The system register numbers that R56 lists. -/
def sysRegNumbers : List Nat :=
  [0x000, 0x001, 0x002, 0x003, 0x004, 0x005, 0x010, 0x011, 0x012, 0x013, 0x014, 0x100, 0x101,
   0x200, 0x201, 0x202, 0x203, 0x300, 0x301]
/-- KREG names a listed system register (R56). -/
def OpK.kregOk (o : OpK) : Bool := sysRegNumbers.contains o.kreg.toNat
/-- RM is at most 5, and zero when the tag is an integer tag (R45, "flt T" of R128). -/
def OpV.fltRm (o : OpV) : Bool := if isFloatTag o.t then o.rm.toNat ≤ 5 else o.rm == 0
/-- SAT is zero when the tag is an integer tag (R128). -/
def OpV.fltSat (o : OpV) : Bool := isFloatTag o.t || o.sat == 0
/-- RM, SAT and IMM20 unused (R128). -/
def OpV.plain (o : OpV) : Bool := o.rm == 0 && o.sat == 0 && o.imm == 0
/-- VCVT's TD, PART, RM and SAT (R135). -/
def OpV.cvtOk (o : OpV) : Bool :=
  let td := BitVec.ofNat 3 (fld o.imm 0 3)
  let ws := elemWidth o.t
  let wd := elemWidth td
  fld o.imm 6 14 == 0 && fld o.imm 3 3 < max (ws / wd) (wd / ws)
    && (if isFloatTag td || isFloatTag o.t then o.rm.toNat ≤ 5 else o.rm == 0)
    && (isFloatTag td || o.sat == 0)
/-- VSPLAT's source (R141). -/
def OpV.splatOk (o : OpV) : Bool :=
  if fld o.imm 19 1 == 0 then fld o.imm 5 14 == 0
  else fld o.imm 16 3 == 0 && (16 ≤ elemWidth o.t || fld o.imm 0 16 < 2 ^ elemWidth o.t)
/-- VEXT and VINS: IMM20[19:13] zero and the index less than n (R141). -/
def OpV.indexOk (o : OpV) : Bool := fld o.imm 13 7 == 0 && fld o.imm 5 8 < 1024 / elemWidth o.t
/-- VCOMP: IMM20[19:18] zero, 2^GS at most n and LEAD less than 2^GS (R143). -/
def OpV.compactOk (o : OpV) : Bool :=
  fld o.imm 18 2 == 0 && 2 ^ fld o.imm 8 3 ≤ 1024 / elemWidth o.t && fld o.imm 11 7 < 2 ^ fld o.imm 8 3
/-- Every operand bit is zero (R162). -/
def OpM.zero (o : OpM) : Bool :=
  o.sa == 0 && o.sb == 0 && o.ah == 0 && o.ha == 0 && o.bh == 0 && o.hb == 0 && o.ta == 0 && o.tb == 0 && o.kb == 0
/-- A vector form of format N has bit [41] zero (R45). -/
def OpN.vectorReg (o : OpN) : Bool := fld o.d 0 1 == 0

/-- The operand bits of a command, as first bit and number of bits (R367). -/
def operandBits (op : Nat) : List (Nat × Nat) :=
  let bytes (a n : Nat) : Nat × Nat := (8 * a, 8 * n)
  match op with
  | 0x01 => [bytes 16 8, bytes 24 1, (200, 1)]
  | 0x02 | 0x07 | 0x0A => [bytes 16 8]
  | 0x04 => [bytes 16 8, bytes 24 1, bytes 32 8]
  | 0x05 | 0x06 => [bytes 16 8, bytes 24 1]
  | 0x08 => [bytes 16 1, bytes 24 8]
  | 0x09 => [bytes 16 32, bytes 48 8]
  | 0x0B | 0x0E => [bytes 16 1, (136, 1), bytes 24 8]
  | 0x0C => [bytes 16 1]
  | 0x0D => [bytes 16 3]
  | 0x0F => [bytes 16 8, bytes 24 4]
  | _ => []

/-- The bits of a record that a command may set: OPC, QUIET, TAG, JOB and its operands (R366, R367). -/
def commandBits (op : Nat) : List (Nat × Nat) := (0, 9) :: (16, 64) :: operandBits op

/-- A record's bits in the ranges listed, the others zero. -/
def keepBits {n : Nat} (w : BitVec n) (l : List (Nat × Nat)) : Nat :=
  l.foldl (fun acc r => acc + fld w r.1 r.2 * 2 ^ r.1) 0

/-- A command record of an opcode: one of two links, and every bit that is to be zero is zero (R366). -/
def Cmd.shaped (c : Cmd) (op : Nat) : Bool :=
  c.link < 2 && fld c.record 0 8 == op && keepBits c.record (commandBits op) == c.record.toNat

/-- The field values the spec allows in each instruction; commands and events carry no instruction word. -/
def Instr.wf : Instr → Bool
  | .nop o | .endFiring o => o.zero
  | .add o | .sub o | .mul o | .mulh o | .mulhu o | .div o | .divu o | .rem o | .remu o | .andS o | .andn o |
    .orS o | .xorS o | .shl o | .shr o | .sar o | .rotl o =>
    o.useW
  | .clz o | .ctz o | .popc o => o.useW && o.b == 0
  | .min o | .max o | .minu o | .maxu o => o.useW
  | .mov o => o.useW && o.b == 0
  | .sel o | .addsh _ o | .addi o | .andi o | .ori o | .xori o => o.useW
  | .shli o | .shri o | .sari o | .rotli o => o.useW && o.shiftOk
  | .lui o => o.w == 0
  | .bfx o | .bfxu o | .bfi o => o.w == 0 && o.bitFieldOk
  | .cmp _ o => o.imm == 0
  | .cmpi _ o => o.b == 0
  | .pand o | .por o | .pxor o => o.w == 0 && o.predOk
  | .pnot o => o.w == 0 && o.predOk && o.b == 0
  | .br _ | .bl _ => true
  | .ret o => o.d == 0 && o.a == 0 && o.b == 0 && o.w == 0
  | .jmpr o => o.d == 0 && o.b == 0 && o.w == 0
  | .rld o => o.common && o.nw.toNat ≤ 2 && o.go == 0
  | .rst o => o.common && o.nw.toNat ≤ 2 && o.noConsume && o.go == 0
  | .rpeek o => o.common
  | .rmark o | .rfmt o => o.common && o.noConsume
  | .claim o | .commit o => o.common && o.noConsume && o.v == 0 && o.go == 0
  | .await o => o.common && o.v == 0 && o.go == 0
  | .retire o => o.common && o.noConsume && o.v == 0 && o.go == 0
  | .radv o => o.common && o.st == 0 && o.am == 2 && o.go == 0
  | .rbind o => o.handleOnly && o.d == 0
  | .runbind o => o.handleOnly && o.d == 0 && o.a == 0
  | .rcast o => o.handleOnly && o.d == 0
  | .rdet o => o.handleOnly && o.d == 0 && o.a == 0
  | .rstat o => o.handleOnly && o.a == 0
  | .vadd o => o.vc == 0 && o.imm == 0 && o.fltRm && o.fltSat
  | .vadds o => o.vc == 0 && o.imm == 0 && !isFloatTag o.t && o.rm == 0 && o.sat == 0
  | .vsub o | .vmul o => o.vc == 0 && o.imm == 0 && o.fltRm && o.fltSat
  | .vfma o | .vfms o => o.imm == 0 && o.fltRm && o.fltSat
  | .vmin o | .vmax o => o.vc == 0 && o.plain
  | .vabs o | .vneg o => o.vb == 0 && o.vc == 0 && o.plain
  | .vand o | .vor o | .vxor o => o.vc == 0 && o.plain
  | .vshl o | .vshr o | .vsar o => o.vc == 0 && o.imm == 0 && !isFloatTag o.t && o.rm == 0 && o.sat == 0
  | .vsel o => o.vc == 0 && o.plain
  | .vcmp cc o => o.vd.toNat < 8 && o.vc == 0 && o.plain && (!isFloatTag o.t || !cc.isUnsigned)
  | .vcvt o => o.vb == 0 && o.vc == 0 && o.cvtOk
  | .vrcp o | .vrsq o | .vexp2 o | .vlog2 o => o.vb == 0 && o.vc == 0 && o.imm == 0 && o.t.toNat ≤ 2 && o.fltRm
  | .vscale o => o.vb == 0 && o.vc == 0 && isFloatTag o.t && o.fltRm && o.imm.toNat < 512
  | .vredadd o => o.vb == 0 && o.vc == 0 && o.imm == 0 && o.fltRm && o.sat == 0
  | .vredmax o | .vredmin o => o.vb == 0 && o.vc == 0 && o.plain
  | .vscan o => o.vb == 0 && o.vc == 0 && o.imm == 0 && (o.t == 0 || o.t == 7) && o.fltRm && o.sat == 0
  | .vcnt o => o.vd == 0 && o.va == 0 && o.vb == 0 && o.vc == 0 && o.rm == 0 && o.sat == 0 && o.imm.toNat < 32
  | .vperm o => o.vc == 0 && o.plain && o.t != 6
  | .vsplat o => o.va == 0 && o.vb == 0 && o.vc == 0 && o.rm == 0 && o.sat == 0 && o.splatOk
  | .vext o => o.vd == 0 && o.vb == 0 && o.vc == 0 && o.m == 0 && o.rm == 0 && o.sat == 0 && o.indexOk
  | .vins o => o.va == 0 && o.vb == 0 && o.vc == 0 && o.m == 0 && o.rm == 0 && o.sat == 0 && o.indexOk
  | .vpack o => o.vc == 0 && o.m == 0 && o.t == 0 && o.plain
  | .vunpk o => o.vb == 0 && o.vc == 0 && o.m == 0 && o.t == 0 && o.rm == 0 && o.sat == 0 && o.imm.toNat < 2
  | .vcomp o => o.vb == 0 && o.vc == 0 && o.rm == 0 && o.sat == 0 && o.compactOk
  | .vmrg o => o.vc == 0 && o.m == 0 && o.t == 7 && o.rm == 0 && o.sat == 0 && o.imm.toNat < 2048
  | .mma o =>
    o.sb == 0 && o.bh == 0 && o.hb == 0 && o.kb == 0 && o.ta != 0 && o.tb != 0 && (if o.ah == 1 then o.sa == 0
      else o.sa.toNat ≤ 30 && o.ha == 0 && o.ta != 7)
  | .mmaAdv o => o.ah == 1 && o.sa == 0 && o.sb == 0 && o.bh == 0 && o.hb == 0 && o.kb == 0 && o.ta != 0 && o.tb != 0
  | .mldbHandle o => o.common && o.nw == 32 && o.am.toNat ≤ 1 && o.v == 0 && o.ml == 0 && o.go == 0
  | .mldbBank o =>
    o.sa == 0 && o.sb.toNat ≤ 30 && o.ah == 0 && o.ha == 0 && o.bh == 0 && o.hb == 0 && o.ta == 0 && o.tb != 0
      && o.tb != 7 && o.kb == 0
  | .mldbtHandle o => o.common && o.nw == 32 && o.am.toNat ≤ 1 && o.v == 0 && o.ml == 0 && o.go == 0
  | .mldbtBank o =>
    o.sa == 0 && o.sb.toNat ≤ 30 && o.ah == 0 && o.ha == 0 && o.bh == 0 && o.hb == 0 && o.ta == 0 && o.tb != 0
      && o.tb != 7 && o.kb == 0
  | .mscaHandle o =>
    o.ah == 1 && o.sa == 0 && o.sb == 0 && o.bh == 0 && o.hb == 0 && o.ta == 0 && o.tb == 0 && o.kb == 0
  | .mscaBank o =>
    o.ah == 0 && o.ha == 0 && o.sb == 0 && o.bh == 0 && o.hb == 0 && o.ta == 0 && o.tb == 0 && o.kb == 0
  | .mscbHandle o =>
    o.bh == 1 && o.sb == 0 && o.sa == 0 && o.ah == 0 && o.ha == 0 && o.ta == 0 && o.tb == 0 && o.kb == 0
  | .mscbRegister o =>
    o.bh == 0 && o.hb == 0 && o.sa == 0 && o.ah == 0 && o.ha == 0 && o.ta == 0 && o.tb == 0 && o.kb == 0
  | .mkb o => o.ha.toNat ≤ 5 && o.bh == 1 && o.ta.toNat ≤ 4 && o.kb.toNat ≤ 2 && (o.ta == 0 || o.sa == 0)
  | .mzero o | .mrel o | .mwait o => o.zero
  | .mrd o =>
    o.va == 0 && o.vb == 0 && o.vc == 0 && o.m == 0 && o.t == 0 && o.rm == 0 && o.sat == 0 && o.imm.toNat < 32
  | .mwr o =>
    o.vd == 0 && o.vb == 0 && o.vc == 0 && o.m == 0 && o.t == 0 && o.rm == 0 && o.sat == 0 && o.imm.toNat < 32
  | .msave o | .mload o => o.d == 0 && o.sz == 0 && o.sc != 7
  | .ld o => o.sz.toNat ≤ 3 && o.sc != 7 && (o.ord == 0 || o.ord == 1)
  | .st o => o.sz.toNat ≤ 3 && o.sc != 7 && (o.ord == 0 || o.ord == 2)
  | .vld o => o.vectorReg && 4 ≤ o.sz.toNat && o.sc != 7 && (o.ord == 0 || o.ord == 1)
  | .vst o => o.vectorReg && 4 ≤ o.sz.toNat && o.sc != 7 && (o.ord == 0 || o.ord == 2)
  | .ldBk o | .stBk o => o.sz.toNat ≤ 3 && o.sc == 0 && o.ord == 0
  | .vldBk o | .vstBk o => o.vectorReg && 4 ≤ o.sz.toNat && o.sc == 0 && o.ord == 0
  | .swbLine o => o.d == 0 && o.sz == 6 && o.sc == 0 && o.ord == 0
  | .swbAll o => o.d == 0 && o.a == 0 && o.off == 0 && o.sz == 7 && o.sc == 0 && o.ord == 0
  | .sinvLine o => o.d == 0 && o.sz == 6 && o.sc == 0 && o.ord == 0
  | .sinvAll o => o.d == 0 && o.a == 0 && o.off == 0 && o.sz == 7 && o.sc == 0 && o.ord == 0
  | .spin o | .sunpin o => o.sz == 6 && o.sc == 0 && o.ord == 0
  | .fence o => o.d == 0 && o.a == 0 && o.off == 0 && o.sz == 0 && o.sc != 7 && o.ord != 0
  | .aadd o | .aadds o | .amin o | .amax o | .aminu o | .amaxu o | .aand o | .aor o | .axor o | .aswp o =>
    o.c == 0 && o.sc != 7 && (o.sz == 2 || o.sz == 3)
  | .acas o => o.sc != 7 && (o.sz == 2 || o.sz == 3)
  | .atopk o => o.c == 0 && o.sc != 7 && o.sz == 6
  | .awarm o => o.imm.toNat < 8
  | .awdis o | .awrd o => o.a == 0 && o.imm.toNat < 8
  | .qpush o => o.b.toNat < 16 && o.c == 0 && 3 ≤ o.sc.toNat && o.sc != 7 && (o.ord == 0 || o.ord == 2) && o.sz == 6
  | .ddec o | .dset o => o.c == 0 && o.sc == 0 && o.ord == 0 && o.sz == 0
  | .twait o => o.timelineOk && o.imm.toNat < 8
  | .tread o => o.a == 0 && o.timelineOk && o.imm.toNat < 8
  | .bar o => o.d == 0 && o.a == 0 && o.kreg == 0 && o.imm.toNat < 512
  | .yield o => o.d == 0 && o.a == 0 && o.kreg == 0 && 1 ≤ o.imm.toNat && o.imm.toNat ≤ 64
  | .front o => o.kreg.toNat < 16 && o.imm == 0
  | .fdone o => o.kreg == 0 && o.imm == 0
  | .fsave o => o.kreg == 0 && o.imm.toNat < 2
  | .frest o => o.kreg.toNat < 16 && o.imm == 0
  | .sreq o => o.a.toNat < 16 && o.streamOk && o.imm == 0
  | .sprog o => o.streamOk && o.imm == 0
  | .slayout o => o.d == 0 && o.a.toNat < 16 && o.kreg.toNat < 32 && o.imm == 0
  | .scfg o => o.streamOk && o.imm == 0
  | .sstop o => o.a == 0 && o.streamOk && o.imm.toNat < 2
  | .xput o | .xget o => o.kreg == 0 && o.imm == 0
  | .xrateRead o => o.a == 0 && o.kreg.toNat < 8 && o.imm == 0
  | .xrateWrite o => 8 ≤ o.kreg.toNat && o.kreg.toNat < 16 && o.imm == 0
  | .xpath o => o.kreg.toNat < 8 && o.imm == 0
  | .xflush o => o.d == 0 && o.a == 0 && o.kreg == 0 && o.imm == 0
  | .xstat o => o.a == 0 && o.kreg.toNat % 16 < 8 && o.kreg.toNat < 112 && o.imm == 0
  | .krd o => o.a == 0 && o.kregOk && o.imm == 0
  | .kwr o => o.d == 0 && o.kregOk && o.imm == 0
  | .trap o => o.d == 0 && o.a == 0 && o.kreg == 0
  | .eret o => o.a == 0 && o.kreg == 0 && o.imm.toNat < 2
  | .brk o => o.d == 0 && o.a == 0 && o.kreg == 0
  | .purge o => o.kreg == 0 && o.imm.toNat < 2
  | .idle o => o.d == 0 && o.kreg == 0 && ((o.a == 0) != (o.imm == 0))
  | .haltp o => o.d == 0 && o.kreg == 0 && o.imm == 0
  | .errpop o => o.d.toNat < 16 && o.a == 0 && o.kreg == 0 && o.imm == 0
  | .stageIllegal _ _ => true
  | .expect t ge => t.toNat ≤ 7 && (ge == 0 || (1 ≤ t.toNat && t.toNat ≤ 4))
  | .look t ge => 1 ≤ t.toNat && t.toNat ≤ 7 && (ge == 0 || t.toNat ≤ 4)
  | .choose t _ => t.toNat ≤ 8
  | .pushn _ | .retn => true
  | .fire _ _ asel _ => asel != 7
  | .emit _ m => m != 0
  | .sync l => 1 ≤ l.toNat && l.toNat ≤ 4
  | .onerr _ l f h => 1 ≤ l.toNat && l.toNat ≤ 4 && (f == 1 || h == 0)
  | .accept | .scall _ _ | .sret | .spawn _ _ => true
  | .trig _ c => c != 0
  | .cqsetup c => c.shaped 0x01
  | .admitJob c => c.shaped 0x02
  | .cancel c => c.shaped 0x03
  | .map c => c.shaped 0x04
  | .faultsvc c => c.shaped 0x05
  | .pload c => c.shaped 0x06
  | .qreg c => c.shaped 0x07
  | .query c => c.shaped 0x08
  | .attest c => c.shaped 0x09
  | .reset c => c.shaped 0x0A
  | .power c => c.shaped 0x0B
  | .ras c => c.shaped 0x0C
  | .resume c => c.shaped 0x0D
  | .apmap c => c.shaped 0x0E
  | .patch c => c.shaped 0x0F
  | .plsw _ | .waitw _ _ _ | .kill _ | .ntdef _ | .scriptIllegal _ _ | .commandTrigger _ | .cqheadWrite _ _ | .registerWrite _ _ _ | .apertureRead _ _
    _ | .apertureWrite _ _ _ | .cqEntryWrite _ | .msixSend _ | .poweron | .bringUp _ | .linkreset _ |
    .hotReset _ | .lockstep | .thermal _ | .watchdog | .supply _ | .powerover _ | .thermwarn _ |
    .undervoltStep _ | .predfail _ _ | .frameStart _ | .portIssue _ _ _ _ | .tokenDelivery _ | .firingStart _
  | .killDelivery _ | .claimGrant _ | .commitFilled _ _ | .windowPresent _ | .retireArrival _ |
    .branchDetachTimeout _ _ | .matrixOpStart _ _ | .accRelease _ _ | .accDrain _ _ | .ownershipResume _ |
    .mwaitComplete _ | .loadResponse _ _ | .storePerform _ _ | .atomicPerform _ _ | .windowCount _ _ |
    .windowAction _ _ | .pageWalk _ | .pageWalkDone _ _ | .streamLoad _ _ | .streamWalkStart _ _ |
    .streamPointPush _ _ | .streamPointWrite _ _ | .streamWalkEnd _ _ | .streamServiceResume _ _ |
    .slateDequeue _ | .takeCreate _ | .regionPlace _ | .planeLoadDone _ | .planeSave _ | .saveAbandon _ |
    .planeRestore _ | .barrierOpen _ _ | .timelineWake _ | .yieldExpiry _ | .idleExpiry _ | .matchTokenArrive
    _ | .spillReturn _ | .frontierIssue _ | .boundaryTake _ | .frontierStreamSlot _ | .frontierComplete _ |
    .frontierSaveDone _ | .headSlotVisible _ _ | .lookstarve _ _ | .scriptRecovery _ _ | .callReturn _ _ |
    .waitwWake _ _ | .takeEnd _ | .takeFail _ | .jobend _ | .deadlock _ | .latency _ | .handlerTakeCreate _ |
    .parkedFiringResume _ | .lineUe _ _ _ _ | .correctedError _ _ _ _ | .correctedMerge _ _ | .diefence _ |
    .comparatorPair _ _ | .bankDrain _ | .fragmentSend _ | .fragmentArrive _ | .fragmentDiscard _ |
    .messagePerform _ | .nackTimeout _ _ | .sourceResendTimeout _ | .slotAbortTimeout _ _ |
    .sourceAbortTimeout _ | .abortUnanswered _ | .dack _ | .pack _ | .nack _ | .loss _ | .abort _ |
    .getReplyPerform _ | .entryExpire _ _ | .linkdown _ _ | .bridgeSend _ _ | .grant _ _ | .bridgeArrival _ _
  | .bridgebreak _ _ | .localDeadlockReport _ _ =>
    true

/-- A well-formed instruction. -/
abbrev WellFormed (i : Instr) : Prop := i.wf = true

/-- The field values that R233 allows in each descriptor word. -/
def Desc.wf : Desc → Bool
  | .sbase _ | .sfillv _ | .spol _ _ | .seot _ _ _ _ _ => true
  | .sdim _ _ ext _ => ext != 0
  | .sidx _ addr => fld addr 0 2 == 0
  | .swin _ kw dil ostr _ inext => kw != 0 && dil != 0 && ostr != 0 && inext != 0
  | .sfmt stag ptag rm _ =>
    let int (t : BitVec 3) : Bool := t == 5 || t == 7
    fld rm 0 3 ≤ 4 && (!(int stag && int ptag) || rm == 0)
  | .smark _ mark => 1 ≤ mark.toNat && mark.toNat ≤ 4
  | .sdest _ _ lg _ _ _ => 2 ≤ lg.toNat && lg.toNat ≤ 10
  | .ssrc _ _ _ lg _ _ _ => 2 ≤ lg.toNat && lg.toNat ≤ 10
  | .scoal pf win => 1 ≤ pf.toNat && pf.toNat ≤ 64 && 1 ≤ win.toNat && win.toNat ≤ 64

end Sys2Proof
end

