-- ==== Sys2Proof/Decode.lean ====
section
/-!
DEFINITION. Decoding and encoding of the stage instructions and the script words (03_encoding, R41 to R48, R185).
decodeStage and decodeScript are total; a word they refuse is refused by the name of its reason (R50).
-/
namespace Sys2Proof

/-- Bits [45:0] of format A (R43). -/
def OpA.body (o : OpA) : BitVec 46 :=
  o.d ++ o.a ++ o.b ++ o.w ++ (0 : BitVec 29)

/-- The fields of a format A word (R41, R43). -/
def OpA.ofWord (w : BitVec 64) : OpA where
  g := w.extractLsb' 47 3
  gn := w.extractLsb' 46 1
  d := w.extractLsb' 41 5
  a := w.extractLsb' 36 5
  b := w.extractLsb' 31 5
  w := w.extractLsb' 29 2

/-- Bits [45:0] of format I (R43). -/
def OpI.body (o : OpI) : BitVec 46 :=
  o.d ++ o.a ++ o.w ++ (0 : BitVec 2) ++ o.imm

/-- The fields of a format I word (R41, R43). -/
def OpI.ofWord (w : BitVec 64) : OpI where
  g := w.extractLsb' 47 3
  gn := w.extractLsb' 46 1
  d := w.extractLsb' 41 5
  a := w.extractLsb' 36 5
  w := w.extractLsb' 34 2
  imm := w.extractLsb' 0 32

/-- Bits [45:0] of format C (R43). -/
def OpC.body (o : OpC) (i : BitVec 1) : BitVec 46 :=
  o.pd ++ o.a ++ o.b ++ i ++ o.imm

/-- The fields of a format C word (R41, R43). -/
def OpC.ofWord (w : BitVec 64) : OpC where
  g := w.extractLsb' 47 3
  gn := w.extractLsb' 46 1
  pd := w.extractLsb' 43 3
  a := w.extractLsb' 38 5
  b := w.extractLsb' 33 5
  imm := w.extractLsb' 0 32

/-- Bits [45:0] of format B (R43). -/
def OpB.body (o : OpB) : BitVec 46 :=
  (0 : BitVec 14) ++ o.off

/-- The fields of a format B word (R41, R43). -/
def OpB.ofWord (w : BitVec 64) : OpB where
  g := w.extractLsb' 47 3
  gn := w.extractLsb' 46 1
  off := w.extractLsb' 0 32

/-- Bits [45:0] of format V (R43). -/
def OpV.body (o : OpV) : BitVec 46 :=
  o.vd ++ o.va ++ o.vb ++ o.vc ++ o.m ++ o.t ++ o.rm ++ o.sat ++ o.imm

/-- The fields of a format V word (R41, R43). -/
def OpV.ofWord (w : BitVec 64) : OpV where
  g := w.extractLsb' 47 3
  gn := w.extractLsb' 46 1
  vd := w.extractLsb' 42 4
  va := w.extractLsb' 38 4
  vb := w.extractLsb' 34 4
  vc := w.extractLsb' 30 4
  m := w.extractLsb' 27 3
  t := w.extractLsb' 24 3
  rm := w.extractLsb' 21 3
  sat := w.extractLsb' 20 1
  imm := w.extractLsb' 0 20

/-- Bits [45:0] of format H (R43). -/
def OpH.body (o : OpH) : BitVec 46 :=
  o.v ++ o.h ++ o.nw ++ o.st ++ o.am ++ o.ml ++ o.go ++ (0 : BitVec 16)

/-- The fields of a format H word (R41, R43). -/
def OpH.ofWord (w : BitVec 64) : OpH where
  g := w.extractLsb' 47 3
  gn := w.extractLsb' 46 1
  v := w.extractLsb' 42 4
  h := w.extractLsb' 38 4
  nw := w.extractLsb' 32 6
  st := w.extractLsb' 28 4
  am := w.extractLsb' 26 2
  ml := w.extractLsb' 23 3
  go := w.extractLsb' 16 7

/-- Bits [45:0] of format M (R43). -/
def OpM.body (o : OpM) : BitVec 46 :=
  o.sa ++ o.sb ++ o.ah ++ o.ha ++ o.bh ++ o.hb ++ o.ta ++ o.tb ++ o.kb ++ (0 : BitVec 17)

/-- The fields of a format M word (R41, R43). -/
def OpM.ofWord (w : BitVec 64) : OpM where
  g := w.extractLsb' 47 3
  gn := w.extractLsb' 46 1
  sa := w.extractLsb' 41 5
  sb := w.extractLsb' 36 5
  ah := w.extractLsb' 35 1
  ha := w.extractLsb' 31 4
  bh := w.extractLsb' 30 1
  hb := w.extractLsb' 26 4
  ta := w.extractLsb' 23 3
  tb := w.extractLsb' 20 3
  kb := w.extractLsb' 17 3

/-- Bits [45:0] of format N (R43). -/
def OpN.body (o : OpN) : BitVec 46 :=
  o.d ++ o.a ++ o.sz ++ o.sc ++ o.ord ++ (0 : BitVec 4) ++ o.off

/-- The fields of a format N word (R41, R43). -/
def OpN.ofWord (w : BitVec 64) : OpN where
  g := w.extractLsb' 47 3
  gn := w.extractLsb' 46 1
  d := w.extractLsb' 41 5
  a := w.extractLsb' 36 5
  sz := w.extractLsb' 33 3
  sc := w.extractLsb' 30 3
  ord := w.extractLsb' 28 2
  off := w.extractLsb' 0 24

/-- Bits [45:0] of format X (R43). -/
def OpX.body (o : OpX) : BitVec 46 :=
  o.d ++ o.a ++ o.b ++ o.c ++ o.sc ++ o.ord ++ o.sz ++ (0 : BitVec 18)

/-- The fields of a format X word (R41, R43). -/
def OpX.ofWord (w : BitVec 64) : OpX where
  g := w.extractLsb' 47 3
  gn := w.extractLsb' 46 1
  d := w.extractLsb' 41 5
  a := w.extractLsb' 36 5
  b := w.extractLsb' 31 5
  c := w.extractLsb' 26 5
  sc := w.extractLsb' 23 3
  ord := w.extractLsb' 21 2
  sz := w.extractLsb' 18 3

/-- Bits [45:0] of format K (R43). -/
def OpK.body (o : OpK) : BitVec 46 :=
  o.d ++ o.a ++ o.kreg ++ o.imm

/-- The fields of a format K word (R41, R43). -/
def OpK.ofWord (w : BitVec 64) : OpK where
  g := w.extractLsb' 47 3
  gn := w.extractLsb' 46 1
  d := w.extractLsb' 41 5
  a := w.extractLsb' 36 5
  kreg := w.extractLsb' 24 12
  imm := w.extractLsb' 0 24

/-- A stage word: MAJ, FN, G, GN and the 46 operand bits (R41). -/
def stageWord (maj : BitVec 6) (fn : BitVec 8) (g : BitVec 3) (gn : BitVec 1) (body : BitVec 46) : BitVec 64 :=
  maj ++ fn ++ g ++ gn ++ body

/-- The code of a condition: FN of CMP and CMPI, added to 0x10 in VCMP (R46). -/
def Cond.code : Cond → BitVec 8
  | .eq => 0 | .ne => 1 | .lt => 2 | .ge => 3 | .ltu => 4 | .geu => 5 | .gt => 6 | .le => 7 | .gtu => 8 | .leu => 9

/-- The condition of a code (R46, R92). -/
def Cond.ofCode : Nat → Option Cond
  | 0 => some .eq | 1 => some .ne | 2 => some .lt | 3 => some .ge | 4 => some .ltu
  | 5 => some .geu | 6 => some .gt | 7 => some .le | 8 => some .gtu | 9 => some .leu
  | _ => none

/-- The words of an instruction: one stage word, one script word, or a script word with its literal word (R48);
commands and whole events of other agents have none. -/
inductive Code
  | stage (w : BitVec 64)
  | script (w : BitVec 32)
  | scriptLit (w lit : BitVec 32)
  | none
  deriving DecidableEq, Repr

/-- A script word: SOP in [31:26] and the operand bits (R47). -/
def scriptWord (sop : BitVec 6) (body : BitVec 26) : BitVec 32 := sop ++ body

/-- The encoding of an instruction (R43, R46, R47, R185). -/
def encode : Instr → Code
  | .nop o => .stage (stageWord 0x00 0x01 o.g o.gn o.body)
  | .endFiring o => .stage (stageWord 0x00 0x02 o.g o.gn o.body)
  | .add o => .stage (stageWord 0x00 0x10 o.g o.gn o.body)
  | .sub o => .stage (stageWord 0x00 0x11 o.g o.gn o.body)
  | .mul o => .stage (stageWord 0x00 0x12 o.g o.gn o.body)
  | .mulh o => .stage (stageWord 0x00 0x13 o.g o.gn o.body)
  | .mulhu o => .stage (stageWord 0x00 0x14 o.g o.gn o.body)
  | .div o => .stage (stageWord 0x00 0x15 o.g o.gn o.body)
  | .divu o => .stage (stageWord 0x00 0x16 o.g o.gn o.body)
  | .rem o => .stage (stageWord 0x00 0x17 o.g o.gn o.body)
  | .remu o => .stage (stageWord 0x00 0x18 o.g o.gn o.body)
  | .andS o => .stage (stageWord 0x00 0x20 o.g o.gn o.body)
  | .andn o => .stage (stageWord 0x00 0x21 o.g o.gn o.body)
  | .orS o => .stage (stageWord 0x00 0x22 o.g o.gn o.body)
  | .xorS o => .stage (stageWord 0x00 0x23 o.g o.gn o.body)
  | .shl o => .stage (stageWord 0x00 0x28 o.g o.gn o.body)
  | .shr o => .stage (stageWord 0x00 0x29 o.g o.gn o.body)
  | .sar o => .stage (stageWord 0x00 0x2A o.g o.gn o.body)
  | .rotl o => .stage (stageWord 0x00 0x2B o.g o.gn o.body)
  | .clz o => .stage (stageWord 0x00 0x30 o.g o.gn o.body)
  | .ctz o => .stage (stageWord 0x00 0x31 o.g o.gn o.body)
  | .popc o => .stage (stageWord 0x00 0x32 o.g o.gn o.body)
  | .min o => .stage (stageWord 0x00 0x38 o.g o.gn o.body)
  | .max o => .stage (stageWord 0x00 0x39 o.g o.gn o.body)
  | .minu o => .stage (stageWord 0x00 0x3A o.g o.gn o.body)
  | .maxu o => .stage (stageWord 0x00 0x3B o.g o.gn o.body)
  | .mov o => .stage (stageWord 0x00 0x40 o.g o.gn o.body)
  | .sel o => .stage (stageWord 0x00 0x41 o.g o.gn o.body)
  | .addsh sh o => .stage (stageWord 0x00 (0x48 + sh.zeroExtend 8) o.g o.gn o.body)
  | .addi o => .stage (stageWord 0x01 0x10 o.g o.gn o.body)
  | .andi o => .stage (stageWord 0x01 0x20 o.g o.gn o.body)
  | .ori o => .stage (stageWord 0x01 0x22 o.g o.gn o.body)
  | .xori o => .stage (stageWord 0x01 0x23 o.g o.gn o.body)
  | .shli o => .stage (stageWord 0x01 0x28 o.g o.gn o.body)
  | .shri o => .stage (stageWord 0x01 0x29 o.g o.gn o.body)
  | .sari o => .stage (stageWord 0x01 0x2A o.g o.gn o.body)
  | .rotli o => .stage (stageWord 0x01 0x2B o.g o.gn o.body)
  | .lui o => .stage (stageWord 0x01 0x40 o.g o.gn o.body)
  | .bfx o => .stage (stageWord 0x01 0x50 o.g o.gn o.body)
  | .bfxu o => .stage (stageWord 0x01 0x51 o.g o.gn o.body)
  | .bfi o => .stage (stageWord 0x01 0x52 o.g o.gn o.body)
  | .cmp cc o => .stage (stageWord 0x02 cc.code o.g o.gn (o.body 0))
  | .cmpi cc o => .stage (stageWord 0x02 cc.code o.g o.gn (o.body 1))
  | .pand o => .stage (stageWord 0x03 0x01 o.g o.gn o.body)
  | .por o => .stage (stageWord 0x03 0x02 o.g o.gn o.body)
  | .pxor o => .stage (stageWord 0x03 0x03 o.g o.gn o.body)
  | .pnot o => .stage (stageWord 0x03 0x04 o.g o.gn o.body)
  | .br o => .stage (stageWord 0x04 0x01 o.g o.gn o.body)
  | .bl o => .stage (stageWord 0x04 0x02 o.g o.gn o.body)
  | .ret o => .stage (stageWord 0x05 0x01 o.g o.gn o.body)
  | .jmpr o => .stage (stageWord 0x05 0x02 o.g o.gn o.body)
  | .rld o => .stage (stageWord 0x0C 0x01 o.g o.gn o.body)
  | .rst o => .stage (stageWord 0x0C 0x02 o.g o.gn o.body)
  | .rpeek o => .stage (stageWord 0x0C 0x03 o.g o.gn o.body)
  | .rmark o => .stage (stageWord 0x0C 0x04 o.g o.gn o.body)
  | .rfmt o => .stage (stageWord 0x0C 0x05 o.g o.gn o.body)
  | .claim o => .stage (stageWord 0x0C 0x10 o.g o.gn o.body)
  | .commit o => .stage (stageWord 0x0C 0x11 o.g o.gn o.body)
  | .await o => .stage (stageWord 0x0C 0x12 o.g o.gn o.body)
  | .retire o => .stage (stageWord 0x0C 0x13 o.g o.gn o.body)
  | .radv o => .stage (stageWord 0x0C 0x14 o.g o.gn o.body)
  | .rbind o => .stage (stageWord 0x0D 0x01 o.g o.gn o.body)
  | .runbind o => .stage (stageWord 0x0D 0x02 o.g o.gn o.body)
  | .rcast o => .stage (stageWord 0x0D 0x03 o.g o.gn o.body)
  | .rdet o => .stage (stageWord 0x0D 0x04 o.g o.gn o.body)
  | .rstat o => .stage (stageWord 0x0D 0x05 o.g o.gn o.body)
  | .vadd o => .stage (stageWord 0x10 0x01 o.g o.gn o.body)
  | .vadds o => .stage (stageWord 0x10 0x02 o.g o.gn o.body)
  | .vsub o => .stage (stageWord 0x10 0x03 o.g o.gn o.body)
  | .vmul o => .stage (stageWord 0x10 0x04 o.g o.gn o.body)
  | .vfma o => .stage (stageWord 0x10 0x05 o.g o.gn o.body)
  | .vfms o => .stage (stageWord 0x10 0x06 o.g o.gn o.body)
  | .vmin o => .stage (stageWord 0x10 0x07 o.g o.gn o.body)
  | .vmax o => .stage (stageWord 0x10 0x08 o.g o.gn o.body)
  | .vabs o => .stage (stageWord 0x10 0x09 o.g o.gn o.body)
  | .vneg o => .stage (stageWord 0x10 0x0A o.g o.gn o.body)
  | .vand o => .stage (stageWord 0x11 0x01 o.g o.gn o.body)
  | .vor o => .stage (stageWord 0x11 0x02 o.g o.gn o.body)
  | .vxor o => .stage (stageWord 0x11 0x03 o.g o.gn o.body)
  | .vshl o => .stage (stageWord 0x11 0x04 o.g o.gn o.body)
  | .vshr o => .stage (stageWord 0x11 0x05 o.g o.gn o.body)
  | .vsar o => .stage (stageWord 0x11 0x06 o.g o.gn o.body)
  | .vsel o => .stage (stageWord 0x11 0x07 o.g o.gn o.body)
  | .vcmp cc o => .stage (stageWord 0x11 (0x10 + cc.code) o.g o.gn o.body)
  | .vcvt o => .stage (stageWord 0x12 0x01 o.g o.gn o.body)
  | .vrcp o => .stage (stageWord 0x12 0x02 o.g o.gn o.body)
  | .vrsq o => .stage (stageWord 0x12 0x03 o.g o.gn o.body)
  | .vexp2 o => .stage (stageWord 0x12 0x04 o.g o.gn o.body)
  | .vlog2 o => .stage (stageWord 0x12 0x05 o.g o.gn o.body)
  | .vscale o => .stage (stageWord 0x12 0x06 o.g o.gn o.body)
  | .vredadd o => .stage (stageWord 0x13 0x01 o.g o.gn o.body)
  | .vredmax o => .stage (stageWord 0x13 0x02 o.g o.gn o.body)
  | .vredmin o => .stage (stageWord 0x13 0x03 o.g o.gn o.body)
  | .vscan o => .stage (stageWord 0x13 0x04 o.g o.gn o.body)
  | .vcnt o => .stage (stageWord 0x13 0x05 o.g o.gn o.body)
  | .vperm o => .stage (stageWord 0x14 0x01 o.g o.gn o.body)
  | .vsplat o => .stage (stageWord 0x14 0x02 o.g o.gn o.body)
  | .vext o => .stage (stageWord 0x14 0x03 o.g o.gn o.body)
  | .vins o => .stage (stageWord 0x14 0x04 o.g o.gn o.body)
  | .vpack o => .stage (stageWord 0x14 0x05 o.g o.gn o.body)
  | .vunpk o => .stage (stageWord 0x14 0x06 o.g o.gn o.body)
  | .vcomp o => .stage (stageWord 0x14 0x07 o.g o.gn o.body)
  | .vmrg o => .stage (stageWord 0x14 0x08 o.g o.gn o.body)
  | .mma o => .stage (stageWord 0x18 0x01 o.g o.gn o.body)
  | .mmaAdv o => .stage (stageWord 0x18 0x02 o.g o.gn o.body)
  | .mldbHandle o => .stage (stageWord 0x18 0x10 o.g o.gn o.body)
  | .mldbBank o => .stage (stageWord 0x18 0x11 o.g o.gn o.body)
  | .mldbtHandle o => .stage (stageWord 0x18 0x12 o.g o.gn o.body)
  | .mldbtBank o => .stage (stageWord 0x18 0x13 o.g o.gn o.body)
  | .mscaHandle o => .stage (stageWord 0x19 0x01 o.g o.gn o.body)
  | .mscaBank o => .stage (stageWord 0x19 0x01 o.g o.gn o.body)
  | .mscbHandle o => .stage (stageWord 0x19 0x02 o.g o.gn o.body)
  | .mscbRegister o => .stage (stageWord 0x19 0x02 o.g o.gn o.body)
  | .mkb o => .stage (stageWord 0x19 0x03 o.g o.gn o.body)
  | .mzero o => .stage (stageWord 0x19 0x04 o.g o.gn o.body)
  | .mrel o => .stage (stageWord 0x19 0x05 o.g o.gn o.body)
  | .mwait o => .stage (stageWord 0x19 0x06 o.g o.gn o.body)
  | .mrd o => .stage (stageWord 0x1A 0x01 o.g o.gn o.body)
  | .mwr o => .stage (stageWord 0x1A 0x02 o.g o.gn o.body)
  | .msave o => .stage (stageWord 0x1B 0x01 o.g o.gn o.body)
  | .mload o => .stage (stageWord 0x1B 0x02 o.g o.gn o.body)
  | .ld o => .stage (stageWord 0x20 0x01 o.g o.gn o.body)
  | .st o => .stage (stageWord 0x20 0x02 o.g o.gn o.body)
  | .vld o => .stage (stageWord 0x20 0x03 o.g o.gn o.body)
  | .vst o => .stage (stageWord 0x20 0x04 o.g o.gn o.body)
  | .ldBk o => .stage (stageWord 0x20 0x11 o.g o.gn o.body)
  | .stBk o => .stage (stageWord 0x20 0x12 o.g o.gn o.body)
  | .vldBk o => .stage (stageWord 0x20 0x13 o.g o.gn o.body)
  | .vstBk o => .stage (stageWord 0x20 0x14 o.g o.gn o.body)
  | .swbLine o => .stage (stageWord 0x21 0x01 o.g o.gn o.body)
  | .swbAll o => .stage (stageWord 0x21 0x01 o.g o.gn o.body)
  | .sinvLine o => .stage (stageWord 0x21 0x02 o.g o.gn o.body)
  | .sinvAll o => .stage (stageWord 0x21 0x02 o.g o.gn o.body)
  | .spin o => .stage (stageWord 0x21 0x03 o.g o.gn o.body)
  | .sunpin o => .stage (stageWord 0x21 0x04 o.g o.gn o.body)
  | .fence o => .stage (stageWord 0x21 0x05 o.g o.gn o.body)
  | .aadd o => .stage (stageWord 0x22 0x01 o.g o.gn o.body)
  | .aadds o => .stage (stageWord 0x22 0x02 o.g o.gn o.body)
  | .amin o => .stage (stageWord 0x22 0x03 o.g o.gn o.body)
  | .amax o => .stage (stageWord 0x22 0x04 o.g o.gn o.body)
  | .aminu o => .stage (stageWord 0x22 0x05 o.g o.gn o.body)
  | .amaxu o => .stage (stageWord 0x22 0x06 o.g o.gn o.body)
  | .aand o => .stage (stageWord 0x22 0x07 o.g o.gn o.body)
  | .aor o => .stage (stageWord 0x22 0x08 o.g o.gn o.body)
  | .axor o => .stage (stageWord 0x22 0x09 o.g o.gn o.body)
  | .aswp o => .stage (stageWord 0x22 0x0A o.g o.gn o.body)
  | .acas o => .stage (stageWord 0x22 0x0B o.g o.gn o.body)
  | .atopk o => .stage (stageWord 0x22 0x0C o.g o.gn o.body)
  | .awarm o => .stage (stageWord 0x23 0x01 o.g o.gn o.body)
  | .awdis o => .stage (stageWord 0x23 0x02 o.g o.gn o.body)
  | .awrd o => .stage (stageWord 0x23 0x03 o.g o.gn o.body)
  | .qpush o => .stage (stageWord 0x28 0x01 o.g o.gn o.body)
  | .ddec o => .stage (stageWord 0x28 0x02 o.g o.gn o.body)
  | .dset o => .stage (stageWord 0x28 0x03 o.g o.gn o.body)
  | .twait o => .stage (stageWord 0x29 0x01 o.g o.gn o.body)
  | .tread o => .stage (stageWord 0x29 0x02 o.g o.gn o.body)
  | .bar o => .stage (stageWord 0x29 0x03 o.g o.gn o.body)
  | .yield o => .stage (stageWord 0x29 0x04 o.g o.gn o.body)
  | .front o => .stage (stageWord 0x2A 0x01 o.g o.gn o.body)
  | .fdone o => .stage (stageWord 0x2A 0x02 o.g o.gn o.body)
  | .fsave o => .stage (stageWord 0x2A 0x03 o.g o.gn o.body)
  | .frest o => .stage (stageWord 0x2A 0x04 o.g o.gn o.body)
  | .sreq o => .stage (stageWord 0x2C 0x01 o.g o.gn o.body)
  | .sprog o => .stage (stageWord 0x2C 0x02 o.g o.gn o.body)
  | .slayout o => .stage (stageWord 0x2C 0x03 o.g o.gn o.body)
  | .scfg o => .stage (stageWord 0x2C 0x04 o.g o.gn o.body)
  | .sstop o => .stage (stageWord 0x2C 0x05 o.g o.gn o.body)
  | .xput o => .stage (stageWord 0x2E 0x01 o.g o.gn o.body)
  | .xget o => .stage (stageWord 0x2E 0x02 o.g o.gn o.body)
  | .xrateRead o => .stage (stageWord 0x2E 0x03 o.g o.gn o.body)
  | .xrateWrite o => .stage (stageWord 0x2E 0x03 o.g o.gn o.body)
  | .xpath o => .stage (stageWord 0x2E 0x04 o.g o.gn o.body)
  | .xflush o => .stage (stageWord 0x2E 0x05 o.g o.gn o.body)
  | .xstat o => .stage (stageWord 0x2E 0x06 o.g o.gn o.body)
  | .krd o => .stage (stageWord 0x30 0x01 o.g o.gn o.body)
  | .kwr o => .stage (stageWord 0x30 0x02 o.g o.gn o.body)
  | .trap o => .stage (stageWord 0x31 0x01 o.g o.gn o.body)
  | .eret o => .stage (stageWord 0x31 0x02 o.g o.gn o.body)
  | .brk o => .stage (stageWord 0x31 0x03 o.g o.gn o.body)
  | .purge o => .stage (stageWord 0x31 0x04 o.g o.gn o.body)
  | .idle o => .stage (stageWord 0x31 0x05 o.g o.gn o.body)
  | .haltp o => .stage (stageWord 0x31 0x06 o.g o.gn o.body)
  | .errpop o => .stage (stageWord 0x31 0x07 o.g o.gn o.body)
  | .expect t ge => .script (scriptWord 0x01 (t ++ ge ++ (0 : BitVec 21)))
  | .look t ge => .script (scriptWord 0x02 (t ++ ge ++ (0 : BitVec 21)))
  | .choose t tgt => .script (scriptWord 0x03 (t ++ (0 : BitVec 10) ++ tgt))
  | .pushn n => .script (scriptWord 0x04 (n ++ (0 : BitVec 18)))
  | .retn => .script (scriptWord 0x05 0)
  | .fire st e a lit => .scriptLit (scriptWord 0x06 (st ++ e ++ a ++ (0 : BitVec 5))) lit
  | .emit h m => .script (scriptWord 0x07 (h ++ m ++ (0 : BitVec 19)))
  | .sync l => .script (scriptWord 0x08 (l ++ (0 : BitVec 23)))
  | .onerr r l f h => .script (scriptWord 0x09 (r ++ l ++ f ++ h ++ (0 : BitVec 10)))
  | .accept => .script (scriptWord 0x0A 0)
  | .scall n lit => .scriptLit (scriptWord 0x0B (n ++ (0 : BitVec 20))) lit
  | .sret => .script (scriptWord 0x0C 0)
  | .spawn n lit => .scriptLit (scriptWord 0x0D (n ++ (0 : BitVec 20))) lit
  | .trig p c => .script (scriptWord 0x0E (p ++ (0 : BitVec 8) ++ c))
  | .plsw p => .script (scriptWord 0x0F (p ++ (0 : BitVec 24)))
  | .waitw d sl w => .script (scriptWord 0x10 (d ++ sl ++ w ++ (0 : BitVec 11)))
  | .kill s => .script (scriptWord 0x11 (s ++ (0 : BitVec 25)))
  | .ntdef n => .script (scriptWord 0x12 (n ++ (0 : BitVec 18)))
  | .stageIllegal _ _ | .scriptIllegal _ _ | .cqsetup _ | .admitJob _ | .cancel _ | .map _ | .faultsvc _ | .pload
    _ | .qreg _ | .query _ | .attest _ | .reset _ | .power _ | .ras _ | .resume _ | .apmap _ | .patch _ |
    .commandTrigger _ | .cqheadWrite _ _ | .registerWrite _ _ _ | .apertureRead _ _ _ | .apertureWrite _ _ _ |
    .cqEntryWrite _ | .msixSend _ | .poweron | .bringUp _ | .linkreset _ | .hotReset _ | .lockstep | .thermal _ |
    .watchdog | .supply _ | .powerover _ | .thermwarn _ | .undervoltStep _ | .predfail _ _ | .frameStart _ |
    .portIssue _ _ _ _ | .tokenDelivery _ | .firingStart _ | .killDelivery _ | .claimGrant _ | .commitFilled _ _ |
    .windowPresent _ | .retireArrival _ | .branchDetachTimeout _ _ | .matrixOpStart _ _ | .accRelease _ _ |
    .accDrain _ _ | .ownershipResume _ | .mwaitComplete _ | .loadResponse _ _ | .storePerform _ _ | .atomicPerform
    _ _ | .windowCount _ _ | .windowAction _ _ | .pageWalk _ | .pageWalkDone _ _ | .streamLoad _ _ |
    .streamWalkStart _ _ | .streamPointPush _ _ | .streamPointWrite _ _ | .streamWalkEnd _ _ |
    .streamServiceResume _ _ | .slateDequeue _ | .takeCreate _ | .regionPlace _ | .planeLoadDone _ | .planeSave _
    | .saveAbandon _ | .planeRestore _ | .barrierOpen _ _ | .timelineWake _ | .yieldExpiry _ | .idleExpiry _ |
    .matchTokenArrive _ | .spillReturn _ | .frontierIssue _ | .boundaryTake _ | .frontierStreamSlot _ |
    .frontierComplete _ | .frontierSaveDone _ | .headSlotVisible _ _ | .lookstarve _ _ | .scriptRecovery _ _ |
    .callReturn _ _ | .waitwWake _ _ | .takeEnd _ | .takeFail _ | .jobend _ | .deadlock _ | .latency _ |
    .handlerTakeCreate _ | .parkedFiringResume _ | .lineUe _ _ _ _ | .correctedError _ _ _ _ | .correctedMerge _ _
    | .diefence _ | .comparatorPair _ _ | .bankDrain _ | .fragmentSend _ | .fragmentArrive _ | .fragmentDiscard _
    | .messagePerform _ | .nackTimeout _ _ | .sourceResendTimeout _ | .slotAbortTimeout _ _ | .sourceAbortTimeout
    _ | .abortUnanswered _ | .dack _ | .pack _ | .nack _ | .loss _ | .abort _ | .getReplyPerform _ | .entryExpire
    _ _ | .linkdown _ _ | .bridgeSend _ _ | .grant _ _ | .bridgeArrival _ _ | .bridgebreak _ _ |
    .localDeadlockReport _ _ => .none

/-- Major opcode 0x00 (R46). -/
def rawMaj00 (fn : Nat) (w : BitVec 64) : Option Instr :=
  match fn with
  | 0x01 => some (.nop (.ofWord w))
  | 0x02 => some (.endFiring (.ofWord w))
  | 0x10 => some (.add (.ofWord w))
  | 0x11 => some (.sub (.ofWord w))
  | 0x12 => some (.mul (.ofWord w))
  | 0x13 => some (.mulh (.ofWord w))
  | 0x14 => some (.mulhu (.ofWord w))
  | 0x15 => some (.div (.ofWord w))
  | 0x16 => some (.divu (.ofWord w))
  | 0x17 => some (.rem (.ofWord w))
  | 0x18 => some (.remu (.ofWord w))
  | 0x20 => some (.andS (.ofWord w))
  | 0x21 => some (.andn (.ofWord w))
  | 0x22 => some (.orS (.ofWord w))
  | 0x23 => some (.xorS (.ofWord w))
  | 0x28 => some (.shl (.ofWord w))
  | 0x29 => some (.shr (.ofWord w))
  | 0x2A => some (.sar (.ofWord w))
  | 0x2B => some (.rotl (.ofWord w))
  | 0x30 => some (.clz (.ofWord w))
  | 0x31 => some (.ctz (.ofWord w))
  | 0x32 => some (.popc (.ofWord w))
  | 0x38 => some (.min (.ofWord w))
  | 0x39 => some (.max (.ofWord w))
  | 0x3A => some (.minu (.ofWord w))
  | 0x3B => some (.maxu (.ofWord w))
  | 0x40 => some (.mov (.ofWord w))
  | 0x41 => some (.sel (.ofWord w))
  | 0x48 => some (.addsh 0 (.ofWord w))
  | 0x49 => some (.addsh 1 (.ofWord w))
  | 0x4A => some (.addsh 2 (.ofWord w))
  | 0x4B => some (.addsh 3 (.ofWord w))
  | _ => none

/-- Major opcode 0x01 (R46). -/
def rawMaj01 (fn : Nat) (w : BitVec 64) : Option Instr :=
  match fn with
  | 0x10 => some (.addi (.ofWord w))
  | 0x20 => some (.andi (.ofWord w))
  | 0x22 => some (.ori (.ofWord w))
  | 0x23 => some (.xori (.ofWord w))
  | 0x28 => some (.shli (.ofWord w))
  | 0x29 => some (.shri (.ofWord w))
  | 0x2A => some (.sari (.ofWord w))
  | 0x2B => some (.rotli (.ofWord w))
  | 0x40 => some (.lui (.ofWord w))
  | 0x50 => some (.bfx (.ofWord w))
  | 0x51 => some (.bfxu (.ofWord w))
  | 0x52 => some (.bfi (.ofWord w))
  | _ => none

/-- Major opcode 0x03 (R46). -/
def rawMaj03 (fn : Nat) (w : BitVec 64) : Option Instr :=
  match fn with
  | 0x01 => some (.pand (.ofWord w))
  | 0x02 => some (.por (.ofWord w))
  | 0x03 => some (.pxor (.ofWord w))
  | 0x04 => some (.pnot (.ofWord w))
  | _ => none

/-- Major opcode 0x04 (R46). -/
def rawMaj04 (fn : Nat) (w : BitVec 64) : Option Instr :=
  match fn with
  | 0x01 => some (.br (.ofWord w))
  | 0x02 => some (.bl (.ofWord w))
  | _ => none

/-- Major opcode 0x05 (R46). -/
def rawMaj05 (fn : Nat) (w : BitVec 64) : Option Instr :=
  match fn with
  | 0x01 => some (.ret (.ofWord w))
  | 0x02 => some (.jmpr (.ofWord w))
  | _ => none

/-- Major opcode 0x0C (R46). -/
def rawMaj0C (fn : Nat) (w : BitVec 64) : Option Instr :=
  match fn with
  | 0x01 => some (.rld (.ofWord w))
  | 0x02 => some (.rst (.ofWord w))
  | 0x03 => some (.rpeek (.ofWord w))
  | 0x04 => some (.rmark (.ofWord w))
  | 0x05 => some (.rfmt (.ofWord w))
  | 0x10 => some (.claim (.ofWord w))
  | 0x11 => some (.commit (.ofWord w))
  | 0x12 => some (.await (.ofWord w))
  | 0x13 => some (.retire (.ofWord w))
  | 0x14 => some (.radv (.ofWord w))
  | _ => none

/-- Major opcode 0x0D (R46). -/
def rawMaj0D (fn : Nat) (w : BitVec 64) : Option Instr :=
  match fn with
  | 0x01 => some (.rbind (.ofWord w))
  | 0x02 => some (.runbind (.ofWord w))
  | 0x03 => some (.rcast (.ofWord w))
  | 0x04 => some (.rdet (.ofWord w))
  | 0x05 => some (.rstat (.ofWord w))
  | _ => none

/-- Major opcode 0x10 (R46). -/
def rawMaj10 (fn : Nat) (w : BitVec 64) : Option Instr :=
  match fn with
  | 0x01 => some (.vadd (.ofWord w))
  | 0x02 => some (.vadds (.ofWord w))
  | 0x03 => some (.vsub (.ofWord w))
  | 0x04 => some (.vmul (.ofWord w))
  | 0x05 => some (.vfma (.ofWord w))
  | 0x06 => some (.vfms (.ofWord w))
  | 0x07 => some (.vmin (.ofWord w))
  | 0x08 => some (.vmax (.ofWord w))
  | 0x09 => some (.vabs (.ofWord w))
  | 0x0A => some (.vneg (.ofWord w))
  | _ => none

/-- Major opcode 0x11 (R46). -/
def rawMaj11 (fn : Nat) (w : BitVec 64) : Option Instr :=
  match fn with
  | 0x01 => some (.vand (.ofWord w))
  | 0x02 => some (.vor (.ofWord w))
  | 0x03 => some (.vxor (.ofWord w))
  | 0x04 => some (.vshl (.ofWord w))
  | 0x05 => some (.vshr (.ofWord w))
  | 0x06 => some (.vsar (.ofWord w))
  | 0x07 => some (.vsel (.ofWord w))
  | fn => if fn < 0x10 then none else (Cond.ofCode (fn - 0x10)).map (fun cc => .vcmp cc (.ofWord w))

/-- Major opcode 0x12 (R46). -/
def rawMaj12 (fn : Nat) (w : BitVec 64) : Option Instr :=
  match fn with
  | 0x01 => some (.vcvt (.ofWord w))
  | 0x02 => some (.vrcp (.ofWord w))
  | 0x03 => some (.vrsq (.ofWord w))
  | 0x04 => some (.vexp2 (.ofWord w))
  | 0x05 => some (.vlog2 (.ofWord w))
  | 0x06 => some (.vscale (.ofWord w))
  | _ => none

/-- Major opcode 0x13 (R46). -/
def rawMaj13 (fn : Nat) (w : BitVec 64) : Option Instr :=
  match fn with
  | 0x01 => some (.vredadd (.ofWord w))
  | 0x02 => some (.vredmax (.ofWord w))
  | 0x03 => some (.vredmin (.ofWord w))
  | 0x04 => some (.vscan (.ofWord w))
  | 0x05 => some (.vcnt (.ofWord w))
  | _ => none

/-- Major opcode 0x14 (R46). -/
def rawMaj14 (fn : Nat) (w : BitVec 64) : Option Instr :=
  match fn with
  | 0x01 => some (.vperm (.ofWord w))
  | 0x02 => some (.vsplat (.ofWord w))
  | 0x03 => some (.vext (.ofWord w))
  | 0x04 => some (.vins (.ofWord w))
  | 0x05 => some (.vpack (.ofWord w))
  | 0x06 => some (.vunpk (.ofWord w))
  | 0x07 => some (.vcomp (.ofWord w))
  | 0x08 => some (.vmrg (.ofWord w))
  | _ => none

/-- Major opcode 0x18 (R46). -/
def rawMaj18 (fn : Nat) (w : BitVec 64) : Option Instr :=
  match fn with
  | 0x01 => some (.mma (.ofWord w))
  | 0x02 => some (.mmaAdv (.ofWord w))
  | 0x10 => some (.mldbHandle (.ofWord w))
  | 0x11 => some (.mldbBank (.ofWord w))
  | 0x12 => some (.mldbtHandle (.ofWord w))
  | 0x13 => some (.mldbtBank (.ofWord w))
  | _ => none

/-- Major opcode 0x19 (R46). -/
def rawMaj19 (fn : Nat) (w : BitVec 64) : Option Instr :=
  match fn with
  | 0x01 => some (if (OpM.ofWord w).ah == 1 then .mscaHandle (.ofWord w) else .mscaBank (.ofWord w))
  | 0x02 => some (if (OpM.ofWord w).bh == 1 then .mscbHandle (.ofWord w) else .mscbRegister (.ofWord w))
  | 0x03 => some (.mkb (.ofWord w))
  | 0x04 => some (.mzero (.ofWord w))
  | 0x05 => some (.mrel (.ofWord w))
  | 0x06 => some (.mwait (.ofWord w))
  | _ => none

/-- Major opcode 0x1A (R46). -/
def rawMaj1A (fn : Nat) (w : BitVec 64) : Option Instr :=
  match fn with
  | 0x01 => some (.mrd (.ofWord w))
  | 0x02 => some (.mwr (.ofWord w))
  | _ => none

/-- Major opcode 0x1B (R46). -/
def rawMaj1B (fn : Nat) (w : BitVec 64) : Option Instr :=
  match fn with
  | 0x01 => some (.msave (.ofWord w))
  | 0x02 => some (.mload (.ofWord w))
  | _ => none

/-- Major opcode 0x20 (R46). -/
def rawMaj20 (fn : Nat) (w : BitVec 64) : Option Instr :=
  match fn with
  | 0x01 => some (.ld (.ofWord w))
  | 0x02 => some (.st (.ofWord w))
  | 0x03 => some (.vld (.ofWord w))
  | 0x04 => some (.vst (.ofWord w))
  | 0x11 => some (.ldBk (.ofWord w))
  | 0x12 => some (.stBk (.ofWord w))
  | 0x13 => some (.vldBk (.ofWord w))
  | 0x14 => some (.vstBk (.ofWord w))
  | _ => none

/-- Major opcode 0x21 (R46). -/
def rawMaj21 (fn : Nat) (w : BitVec 64) : Option Instr :=
  match fn with
  | 0x01 => some (if (OpN.ofWord w).sz == 7 then .swbAll (.ofWord w) else .swbLine (.ofWord w))
  | 0x02 => some (if (OpN.ofWord w).sz == 7 then .sinvAll (.ofWord w) else .sinvLine (.ofWord w))
  | 0x03 => some (.spin (.ofWord w))
  | 0x04 => some (.sunpin (.ofWord w))
  | 0x05 => some (.fence (.ofWord w))
  | _ => none

/-- Major opcode 0x22 (R46). -/
def rawMaj22 (fn : Nat) (w : BitVec 64) : Option Instr :=
  match fn with
  | 0x01 => some (.aadd (.ofWord w))
  | 0x02 => some (.aadds (.ofWord w))
  | 0x03 => some (.amin (.ofWord w))
  | 0x04 => some (.amax (.ofWord w))
  | 0x05 => some (.aminu (.ofWord w))
  | 0x06 => some (.amaxu (.ofWord w))
  | 0x07 => some (.aand (.ofWord w))
  | 0x08 => some (.aor (.ofWord w))
  | 0x09 => some (.axor (.ofWord w))
  | 0x0A => some (.aswp (.ofWord w))
  | 0x0B => some (.acas (.ofWord w))
  | 0x0C => some (.atopk (.ofWord w))
  | _ => none

/-- Major opcode 0x23 (R46). -/
def rawMaj23 (fn : Nat) (w : BitVec 64) : Option Instr :=
  match fn with
  | 0x01 => some (.awarm (.ofWord w))
  | 0x02 => some (.awdis (.ofWord w))
  | 0x03 => some (.awrd (.ofWord w))
  | _ => none

/-- Major opcode 0x28 (R46). -/
def rawMaj28 (fn : Nat) (w : BitVec 64) : Option Instr :=
  match fn with
  | 0x01 => some (.qpush (.ofWord w))
  | 0x02 => some (.ddec (.ofWord w))
  | 0x03 => some (.dset (.ofWord w))
  | _ => none

/-- Major opcode 0x29 (R46). -/
def rawMaj29 (fn : Nat) (w : BitVec 64) : Option Instr :=
  match fn with
  | 0x01 => some (.twait (.ofWord w))
  | 0x02 => some (.tread (.ofWord w))
  | 0x03 => some (.bar (.ofWord w))
  | 0x04 => some (.yield (.ofWord w))
  | _ => none

/-- Major opcode 0x2A (R46). -/
def rawMaj2A (fn : Nat) (w : BitVec 64) : Option Instr :=
  match fn with
  | 0x01 => some (.front (.ofWord w))
  | 0x02 => some (.fdone (.ofWord w))
  | 0x03 => some (.fsave (.ofWord w))
  | 0x04 => some (.frest (.ofWord w))
  | _ => none

/-- Major opcode 0x2C (R46). -/
def rawMaj2C (fn : Nat) (w : BitVec 64) : Option Instr :=
  match fn with
  | 0x01 => some (.sreq (.ofWord w))
  | 0x02 => some (.sprog (.ofWord w))
  | 0x03 => some (.slayout (.ofWord w))
  | 0x04 => some (.scfg (.ofWord w))
  | 0x05 => some (.sstop (.ofWord w))
  | _ => none

/-- Major opcode 0x2E (R46). -/
def rawMaj2E (fn : Nat) (w : BitVec 64) : Option Instr :=
  match fn with
  | 0x01 => some (.xput (.ofWord w))
  | 0x02 => some (.xget (.ofWord w))
  | 0x03 => some (if fld (OpK.ofWord w).kreg 3 1 == 1 then .xrateWrite (.ofWord w) else .xrateRead (.ofWord w))
  | 0x04 => some (.xpath (.ofWord w))
  | 0x05 => some (.xflush (.ofWord w))
  | 0x06 => some (.xstat (.ofWord w))
  | _ => none

/-- Major opcode 0x30 (R46). -/
def rawMaj30 (fn : Nat) (w : BitVec 64) : Option Instr :=
  match fn with
  | 0x01 => some (.krd (.ofWord w))
  | 0x02 => some (.kwr (.ofWord w))
  | _ => none

/-- Major opcode 0x31 (R46). -/
def rawMaj31 (fn : Nat) (w : BitVec 64) : Option Instr :=
  match fn with
  | 0x01 => some (.trap (.ofWord w))
  | 0x02 => some (.eret (.ofWord w))
  | 0x03 => some (.brk (.ofWord w))
  | 0x04 => some (.purge (.ofWord w))
  | 0x05 => some (.idle (.ofWord w))
  | 0x06 => some (.haltp (.ofWord w))
  | 0x07 => some (.errpop (.ofWord w))
  | _ => none

/-- Major opcode 0x02: FN is the condition, bit [32] chooses CMP or CMPI (R46). -/
def rawMaj02 (fn : Nat) (w : BitVec 64) : Option Instr :=
  (Cond.ofCode fn).map fun cc => if w.extractLsb' 32 1 == 1 then .cmpi cc (.ofWord w) else .cmp cc (.ofWord w)

/-- The instruction that MAJ and FN select, its fields not yet checked (R46); none where the pair is unallocated. -/
def rawStage (w : BitVec 64) : Option Instr :=
  let fn := fld w 50 8
  match fld w 58 6 with
  | 0x00 => rawMaj00 fn w
  | 0x01 => rawMaj01 fn w
  | 0x02 => rawMaj02 fn w
  | 0x03 => rawMaj03 fn w
  | 0x04 => rawMaj04 fn w
  | 0x05 => rawMaj05 fn w
  | 0x0C => rawMaj0C fn w
  | 0x0D => rawMaj0D fn w
  | 0x10 => rawMaj10 fn w
  | 0x11 => rawMaj11 fn w
  | 0x12 => rawMaj12 fn w
  | 0x13 => rawMaj13 fn w
  | 0x14 => rawMaj14 fn w
  | 0x18 => rawMaj18 fn w
  | 0x19 => rawMaj19 fn w
  | 0x1A => rawMaj1A fn w
  | 0x1B => rawMaj1B fn w
  | 0x20 => rawMaj20 fn w
  | 0x21 => rawMaj21 fn w
  | 0x22 => rawMaj22 fn w
  | 0x23 => rawMaj23 fn w
  | 0x28 => rawMaj28 fn w
  | 0x29 => rawMaj29 fn w
  | 0x2A => rawMaj2A fn w
  | 0x2C => rawMaj2C fn w
  | 0x2E => rawMaj2E fn w
  | 0x30 => rawMaj30 fn w
  | 0x31 => rawMaj31 fn w
  | _ => none

/-- Why a word is refused (R50). -/
inductive Reject
  /-- MAJ and FN, or SOP, is unallocated. -/
  | unallocated
  /-- A reserved or zero field is nonzero, or a field holds a value that R44, R45 or the instruction's entry forbids. -/
  | badField
  deriving DecidableEq, Repr

/-- Decode of a stage word (R42, R50, R51). A reserved bit that is set makes the word differ from the encoding of what
its fields say, so one comparison finds every such bit. -/
def decodeStage (w : BitVec 64) : Except Reject Instr :=
  match rawStage w with
  | none => .error .unallocated
  | some i => if i.wf && encode i == .stage w then .ok i else .error .badField

/-- Whether a script word has a literal word after it: FIRE, SCALL and SPAWN (R48). -/
def hasLiteral (w : BitVec 32) : Bool := let s := fld w 26 6; s == 0x06 || s == 0x0B || s == 0x0D

/-- The script instruction that SOP selects, its fields not yet checked (R47, R185). -/
def rawScript (w lit : BitVec 32) : Option Instr :=
  match fld w 26 6 with
  | 0x01 => some (.expect (w.extractLsb' 22 4) (w.extractLsb' 21 1))
  | 0x02 => some (.look (w.extractLsb' 22 4) (w.extractLsb' 21 1))
  | 0x03 => some (.choose (w.extractLsb' 22 4) (w.extractLsb' 0 12))
  | 0x04 => some (.pushn (w.extractLsb' 18 8))
  | 0x05 => some .retn
  | 0x06 => some (.fire (w.extractLsb' 18 8) (w.extractLsb' 8 10) (w.extractLsb' 5 3) lit)
  | 0x07 => some (.emit (w.extractLsb' 22 4) (w.extractLsb' 19 3))
  | 0x08 => some (.sync (w.extractLsb' 23 3))
  | 0x09 => some (.onerr (w.extractLsb' 18 8) (w.extractLsb' 15 3) (w.extractLsb' 14 1) (w.extractLsb' 10 4))
  | 0x0A => some .accept
  | 0x0B => some (.scall (w.extractLsb' 20 6) lit)
  | 0x0C => some .sret
  | 0x0D => some (.spawn (w.extractLsb' 20 6) lit)
  | 0x0E => some (.trig (w.extractLsb' 24 2) (w.extractLsb' 0 16))
  | 0x0F => some (.plsw (w.extractLsb' 24 2))
  | 0x10 => some (.waitw (w.extractLsb' 23 3) (w.extractLsb' 17 6) (w.extractLsb' 11 6))
  | 0x11 => some (.kill (w.extractLsb' 25 1))
  | 0x12 => some (.ntdef (w.extractLsb' 18 8))
  | _ => none

/-- The first word of a script instruction's encoding. -/
def Code.scriptFirst : Code → Option (BitVec 32)
  | .script w => Option.some w
  | .scriptLit w _ => Option.some w
  | .stage _ => Option.none
  | .none => Option.none

/-- Decode of a script word with the word that follows it, used only by a two-word instruction (R47, R48, R51). -/
def decodeScript (w lit : BitVec 32) : Except Reject Instr :=
  match rawScript w lit with
  | none => .error .unallocated
  | some i => if i.wf && (encode i).scriptFirst == some w then .ok i else .error .badField

/-- A word from its bytes, the byte at the lowest address first (R5, R40). -/
def leNat : List Byte → Nat
  | [] => 0
  | b :: bs => b.toNat + 256 * leNat bs

/-- The `n` bytes of a number, lowest first (R5). -/
def leBytes : Nat → Nat → List Byte
  | 0, _ => []
  | n + 1, v => BitVec.ofNat 8 v :: leBytes n (v / 256)

/-- The instruction in the first bytes of a store: 8 bytes of a stage word, or 4 bytes of a script word with the 4
bytes of the word after it (R40, R48). -/
def decodeBytes (script : Bool) (bs : List Byte) : Except Reject Instr :=
  if script then decodeScript (BitVec.ofNat 32 (leNat (bs.take 4))) (BitVec.ofNat 32 (leNat ((bs.drop 4).take 4)))
  else decodeStage (BitVec.ofNat 64 (leNat (bs.take 8)))

/-- The instruction of a word of the opcode table: a word of at most 32 bits is a script word, stored as the store
holds it with a literal word of zero after it (R40, R48); a longer one is a stage word. -/
def decodeTableWord (nbits w : Nat) : Option Instr :=
  match decodeBytes (nbits ≤ 32) (leBytes 8 (w % 2 ^ nbits)) with
  | .ok i => some i
  | .error _ => none

/-! ## Descriptor words (R49, R233) -/

/-- The word of a descriptor. -/
def encodeDesc : Desc → BitVec 64
  | .sbase base => (0x01 : BitVec 8) ++ (0 : BitVec 4) ++ base
  | .sdim d xm ext stride => (0x02 : BitVec 8) ++ d ++ xm ++ ext ++ stride
  | .sidx d addr => (0x03 : BitVec 8) ++ d ++ (0 : BitVec 2) ++ addr
  | .swin d kw dil ostr padb inext => (0x04 : BitVec 8) ++ d ++ kw ++ dil ++ ostr ++ padb ++ inext ++ (0 : BitVec 8)
  | .sfmt stag ptag rm sat => (0x05 : BitVec 8) ++ stag ++ ptag ++ rm ++ sat ++ (0 : BitVec 46)
  | .smark d mark => (0x06 : BitVec 8) ++ d ++ mark ++ (0 : BitVec 51)
  | .sdest colour csel lg base cy cx =>
    (0x07 : BitVec 8) ++ colour ++ csel ++ (0 : BitVec 19) ++ lg ++ base ++ (0 : BitVec 10) ++ cy ++ cx
  | .ssrc colour csel branch lg base cy cx =>
    (0x08 : BitVec 8) ++ colour ++ csel ++ (0 : BitVec 16) ++ branch ++ lg ++ base ++ (0 : BitVec 10) ++ cy ++ cx
  | .sfillv fill => (0x09 : BitVec 8) ++ (0 : BitVec 24) ++ fill
  | .spol pol limit => (0x0A : BitVec 8) ++ pol ++ (0 : BitVec 23) ++ limit
  | .scoal pf win => (0x0B : BitVec 8) ++ (0 : BitVec 41) ++ pf ++ (0 : BitVec 1) ++ win
  | .seot eotf hold empty dv dctr =>
    (0x0C : BitVec 8) ++ eotf ++ hold ++ empty ++ (0 : BitVec 40) ++ dv ++ dctr

/-- The fields of a descriptor word by its DOP. -/
def rawDesc (w : BitVec 64) : Option Desc :=
  let f (lo len : Nat) : BitVec len := w.extractLsb' lo len
  match fld w 56 8 with
  | 0x01 => some (.sbase (f 0 52))
  | 0x02 => some (.sdim (f 54 2) (f 53 1) (f 32 21) (f 0 32))
  | 0x03 => some (.sidx (f 54 2) (f 0 52))
  | 0x04 => some (.swin (f 54 2) (f 48 6) (f 42 6) (f 36 6) (f 30 6) (f 8 22))
  | 0x05 => some (.sfmt (f 53 3) (f 50 3) (f 47 3) (f 46 1))
  | 0x06 => some (.smark (f 54 2) (f 51 3))
  | 0x07 => some (.sdest (f 52 4) (f 51 1) (f 28 4) (f 18 10) (f 4 4) (f 0 4))
  | 0x08 => some (.ssrc (f 52 4) (f 51 1) (f 32 3) (f 28 4) (f 18 10) (f 4 4) (f 0 4))
  | 0x09 => some (.sfillv (f 0 32))
  | 0x0A => some (.spol (f 55 1) (f 0 32))
  | 0x0B => some (.scoal (f 8 7) (f 0 7))
  | 0x0C => some (.seot (f 55 1) (f 54 1) (f 53 1) (f 12 1) (f 0 12))
  | _ => none

/-- Decode of a descriptor word: an illegal word (R50) is rejected by name. -/
def decodeDesc (w : BitVec 64) : Except Reject Desc :=
  match rawDesc w with
  | none => .error .unallocated
  | some d => if d.wf && encodeDesc d == w then .ok d else .error .badField

/-! ## Command records (R366, R367) -/

/-- A little-endian operand of a command; JOB, TAG and QUIET (R366). -/
def Cmd.num (c : Cmd) (byte n : Nat) : Nat := fld c.record (8 * byte) (8 * n)
def Cmd.job (c : Cmd) : Nat := c.num 8 2
def Cmd.tag (c : Cmd) : Nat := c.num 2 6
def Cmd.quiet (c : Cmd) : Bool := fld c.record 8 1 == 1

/-- The command that OPC names. -/
def rawCommand (c : Cmd) : Option Instr :=
  match fld c.record 0 8 with
  | 0x01 => some (.cqsetup c)
  | 0x02 => some (.admitJob c)
  | 0x03 => some (.cancel c)
  | 0x04 => some (.map c)
  | 0x05 => some (.faultsvc c)
  | 0x06 => some (.pload c)
  | 0x07 => some (.qreg c)
  | 0x08 => some (.query c)
  | 0x09 => some (.attest c)
  | 0x0A => some (.reset c)
  | 0x0B => some (.power c)
  | 0x0C => some (.ras c)
  | 0x0D => some (.resume c)
  | 0x0E => some (.apmap c)
  | 0x0F => some (.patch c)
  | _ => none

/-- Decode of a command record that a link's firmware takes: an unknown OPC and a record with a bit set that is to be
zero are rejected by name. -/
def decodeCommand (c : Cmd) : Except Reject Instr :=
  match rawCommand c with
  | none => .error .unallocated
  | some i => if i.wf then .ok i else .error .badField

/-- The record of a command. -/
def encodeCommand : Instr → Option Cmd
  | .cqsetup c | .admitJob c | .cancel c | .map c | .faultsvc c | .pload c | .qreg c | .query c | .attest c
  | .reset c | .power c | .ras c | .resume c | .apmap c | .patch c => some c
  | _ => none

end Sys2Proof
end

