-- ==== Sys2Proof/Machine/State.lean ====
section
/-!
DEFINITION. The state of a ZX-128 package as plain data (R19, R52, R101, R147, R175 and the rules cited below).
Objects are named by numbers: cell id = die * 256 + die cell number (R13), plane id = cell id * 4 + plane,
core id = die * 16 + core, slice id = die * 64 + slice, parse context id = core id * 16 + context,
stream context id = slice id * 32 + context, ring key = cell id * 1024 + base granule,
region key = job * 2048 + die * 256 + region id, physical key = space * 2^64 + address.
A table (Tab) lists its entries by rising number; what an unlisted entry reads as is said where the table is read.
-/
namespace Sys2Proof.Machine

/-- A step never stops with a fault: every failure the spec describes is a trap, a record or a status. -/
inductive Fault
  deriving DecidableEq, Repr

/-- Why a step is refused. -/
inductive Refusal
  /-- Raised by Dispatch for an instruction that has no meaning yet; safe. -/
  | notModelled (mnemonic : String)
  deriving DecidableEq, Repr

/-- What the next step does: the model's own scheduling data, for orders the spec leaves to timing. -/
inductive Move
  /-- One whole event or command of the opcode table happens. -/
  | event (i : Instr)
  /-- The script sequencer of a core serves its next ready context (R197). -/
  | sequencer (core : Nat)
  /-- Time passes without an event. -/
  | tick (n : Nat)
  deriving DecidableEq, Repr

/-- Who acts in the next step. -/
inductive Turn
  | agenda
  /-- The current plane issues one stage instruction. -/
  | plane
  /-- The current parse context executes one script instruction. -/
  | context
  deriving DecidableEq, Repr

/-- The S, P, V and M registers of a plane or of a parked firing (R52); unlisted numbers hold zero. -/
structure Regs where
  s : Tab Word := []
  p : Tab (BitVec 1) := []
  v : Tab Vec := []
  m : Tab Word := []
  deriving DecidableEq, Repr

/-- Sequence, group and row counts (R37, R175). -/
structure Coord where
  seq : BitVec 32 := 0
  grp : BitVec 32 := 0
  row : BitVec 32 := 0
  deriving DecidableEq, Repr

/-- An action token (R189). -/
structure Token where
  tid : Nat
  colour : Nat
  stage : Nat
  entry : Nat
  arg : BitVec 32
  coord : Coord
  clayer : Nat
  /-- The clk at which it reached its cell's buffer (R81). -/
  came : Nat := 0
  deriving DecidableEq, Repr

/-- What a running firing waits for (R78); a retry wait is an instruction that issues once its condition holds. -/
inductive WaitKind
  | none | retry | claim | window | mwait | bar | twait | yield | idle | xflush | walk | save
  deriving DecidableEq, Repr

/-- A firing (R54, R81, R103 to R105, R109). -/
structure Firing where
  tid : Nat := 0
  fid : Nat := 0
  colour : Nat := 0
  stage : Nat := 0
  entry : Nat := 0
  pc : Nat := 0
  /-- The word that transferred control to pc (R51). -/
  lastPc : Nat := 0
  coord : Coord := {}
  clayer : Nat := 0
  /-- The clk before which its first instruction does not issue (R81). -/
  notBefore : Nat := 0
  /-- Its first instruction has issued: the firing has started (R195). -/
  started : Bool := false
  /-- Claimed, uncommitted slots per handle, oldest first (R104). -/
  claims : Tab (List Nat) := []
  /-- Handles whose residency this firing has counted (R109 rule 3). -/
  counted : List Nat := []
  /-- Resident windows, by their numbers, whose count this firing brought to zero (R109 rule 4). -/
  retireAtEnd : List Nat := []
  wait : WaitKind := .none
  /-- The clk, slot boundary, value or serial that the wait compares with. -/
  waitArg : Nat := 0
  deriving DecidableEq, Repr

/-- A firing stopped with its registers (R320, R332, R155). -/
structure Parked where
  pid : Nat
  firing : Firing
  regs : Regs
  /-- TRAPPC all ones: no firing resumes, only the matrix queue (R161). -/
  queueOnly : Bool := false
  deriving DecidableEq, Repr

/-- A trap record (R320): cause, TRAPPC, TRAPINFO, colour, cell, and what ERRPOP reports (R347). -/
structure TrapRec where
  cause : Nat
  pc : Word
  info : Word
  colour : Nat
  pid : Nat
  unit : BitVec 16
  time : Nat
  /-- The detail of the record where the trap is not handled (R316). -/
  detail : Nat := 0
  /-- The faulting address, where the cause has one (R383). -/
  addr : Nat := 0
  deriving DecidableEq, Repr

/-- A handle binding (R107) with its residency (R109). -/
structure Handle where
  cell : Nat
  base : Nat
  lg : Nat
  branch : Nat
  dtag : Nat
  res : Nat := 0
  resColour : Nat := 0
  resTid : Nat := 0
  /-- The resident window, by its number in the plane's list; 0 is none. -/
  resId : Nat := 0
  /-- The region that holds the ring, and the ring's cell from that region's top-left cell, dy * 16 + dx; 0 where the
  binding follows no region (R266, R356). -/
  far : Nat := 0
  rel : Nat := 0
  deriving DecidableEq, Repr

/-- A resident window of a handle (R109). A queued matrix operation makes it at issue and finds its slots when it
executes; `ended` says that its last firing has ended while queued operations still have to read it (R154). -/
structure Resid where
  key : Nat
  branch : Nat
  nw : Nat
  slots : List Nat := []
  ended : Bool := false
  /-- The handle it is on (R108), and the take that owns it. -/
  h : Nat := 0
  tid : Nat := 0
  /-- It is the BAD slot of a branch detached by timeout (R111). -/
  bad : Bool := false
  /-- The evicted region that its ring went away with (R332). -/
  far : Nat := 0
  deriving DecidableEq, Repr

/-- One line of a stash (R205). -/
structure StashLine where
  vline : Nat
  job : Nat
  key : Nat
  data : Gran
  dirty : BitVec 64 := 0
  /-- The takes whose stores made bytes dirty (R221). -/
  tids : List Nat := []
  /-- Bytes filled from a poisoned line and not written since (R389). -/
  bad : BitVec 64 := 0
  deriving DecidableEq, Repr

/-- Where the value of a load, atomic or accumulator read goes. -/
inductive Dest
  | none
  | sreg (n : Nat)
  /-- Bytes of V[n] from byte `at`; the register was cleared at issue. -/
  | vreg (n at_ : Nat)
  /-- Half a row of the accumulator of a context: line 2 * row + half (MLOAD). -/
  | acc (hand : Bool) (line : Nat)
  deriving DecidableEq, Repr

inductive MemKind
  | load
  | store
  /-- An atomic by its FN code (R212). -/
  | atomic (fn : Nat)
  deriving DecidableEq, Repr

/-- A memory operation issued and not yet performed (R202, R203). -/
structure MemOp where
  id : Nat
  kind : MemKind
  key : Nat
  size : Nat
  data : List Byte := []
  b : Word := 0
  c : Word := 0
  dst : Dest := .none
  ord : Nat := 0
  sc : Nat := 0
  va : Nat := 0
  job : Nat := 0
  tid : Nat := 0
  fid : Nat := 0
  colour : Nat := 0
  /-- A paired shadow's write: it performs nothing (R329). -/
  suppressed : Bool := false
  /-- The queued MSAVE or MLOAD it belongs to, 0 for none. -/
  mat : Nat := 0
  /-- The home slice of its line (R199). -/
  home : Nat := 0
  /-- The second line of a 128-byte access (R203). -/
  second : Bool := false
  /-- It has performed at its home on another die, and the answer that brings its result is on its way (R291, R299). -/
  got : Option Nat := none
  deriving DecidableEq, Repr

/-- A commit issued whose release is not complete (R104). -/
structure PendCommit where
  id : Nat
  /-- The binding that names its ring (R107, R356). -/
  bind : Handle
  slots : List Nat
  fid : Nat
  tid : Nat
  /-- The handle it was made through (R108). -/
  h : Nat := 0
  /-- The memory operations and commits issued before it have serials below this. -/
  upTo : Nat
  coord : Coord := {}
  deriving DecidableEq, Repr

inductive MatKind
  | mma | mldb | mldbt | msca | mscb | mkb | mzero | mrel | mrd | mwr | msave | mload
  deriving DecidableEq, Repr

/-- The reduction configuration that MKB sets (R147, R166). -/
structure MatCfg where
  set : Bool := false
  kblock : Nat := 64
  count : Nat := 1
  rlev : Nat := 0
  out : Handle := { cell := 0, base := 0, lg := 2, branch := 0, dtag := 0 }
  otag : Nat := 0
  oscl : BitVec 32 := 0x3F800000
  rm : Nat := 0
  sat : Bool := false
  deriving DecidableEq, Repr

/-- An operation of a matrix engine queue (R153, R154). -/
structure MatOp where
  id : Nat
  kind : MatKind
  hand : Bool
  tid : Nat
  fid : Nat
  colour : Nat
  pc : Nat
  /-- A ring operand: the handle number, its binding, the window length, advance, and a resident window. -/
  useH : Bool := false
  h : Nat := 0
  bind : Handle := { cell := 0, base := 0, lg := 2, branch := 0, dtag := 0 }
  nw : Nat := 0
  adv : Bool := false
  /-- The resident window it reads, 0 for none (R109, R154). -/
  resId : Nat := 0
  /-- The window it has taken: slots, sidebands and data. -/
  slots : List Nat := []
  rows : List (Side × Gran) := []
  /-- S operands read at enqueue. -/
  d0 : Word := 0
  d1 : Word := 0
  vec : Vec := 0
  ta : Nat := 0
  tb : Nat := 0
  buf : Nat := 0
  row : Nat := 0
  vd : Nat := 0
  ftz : Bool := false
  sr : Bool := false
  cfg : MatCfg := {}
  ord : Nat := 0
  sc : Nat := 0
  coord : Coord := {}
  /-- K elements already taken by a started MMA that waits for a release (R158, R159). -/
  kdone : Nat := 0
  started : Bool := false
  took : Bool := false
  held : Bool := false
  /-- The mark rule's level found in the A window (R159). -/
  mark : Nat := 0
  upTo : Nat := 0
  deriving DecidableEq, Repr

/-- An exact block sum (R71): NaN, an infinity, or a multiple of 2^-266. -/
inductive ExVal
  | nan
  | inf (neg : Bool)
  | fin (v : Int)
  deriving DecidableEq, Repr

/-- A release asked for and not yet copied to the release buffer (R159). -/
structure PendRelease where
  mark : Nat
  tid : Nat
  fid : Nat
  colour : Nat
  coord : Coord
  upTo : Nat
  ftz : Bool
  deriving DecidableEq, Repr

/-- A drain in progress (R160). -/
structure Drain where
  mark : Nat
  tid : Nat
  colour : Nat
  coord : Coord
  upTo : Nat
  cfg : MatCfg
  acc : Tab (BitVec 32)
  ftz : Bool
  /-- The plane's LFSR from which the roundings of the release draw: they draw as it executes (R65). -/
  lfsr : BitVec 32 := 0
  deriving DecidableEq, Repr

/-- A matrix context (R147). Accumulator and partial block entries are keyed row * 32 + column. -/
structure MatCtx where
  acc : Tab (BitVec 32) := []
  partialBlk : Tab ExVal := []
  kpos : Nat := 0
  nblk : Nat := 0
  open_ : Bool := false
  openc : Nat := 0
  openTid : Nat := 0
  b0 : BitVec 16384 := 0
  b1 : BitVec 16384 := 0
  tag0 : Nat := 0
  tag1 : Nat := 0
  /-- Whether each buffer was filled by MLDBT. -/
  tr0 : Bool := false
  tr1 : Bool := false
  /-- The buffer that the last enqueued load fills (R153). -/
  lastBuf : Nat := 0
  anyLoad : Bool := false
  sca : Tab (BitVec 32) := []
  scb : BitVec 32 := 0x3F800000
  cfg : MatCfg := {}
  release : Option PendRelease := none
  drain : Option Drain := none
  deriving DecidableEq, Repr

/-- A plane of a cell (R19). -/
structure Plane where
  regs : Regs := {}
  h : Tab Handle := []
  resid : Tab Resid := []
  ftz : Bool := false
  lfsr : BitVec 32 := 0xC0D15EED
  /-- The region resident in the plane, 0 for none, with the image's STAGE, REGION and JOBID (R56). -/
  owner : Nat := 0
  stage : Nat := 0
  region : Nat := 0
  job : Nat := 0
  prog : Tab Word := []
  progSize : Nat := 256
  bankBase : Nat := 0
  bankSize : Nat := 0
  stashBase : Nat := 0
  stashSize : Nat := 0
  stash : List StashLine := []
  tokens : List Token := []
  running : Bool := false
  firing : Firing := {}
  /-- The clk after the last END: the next firing's first instruction issues no earlier (R81, R83). -/
  nextAt : Nat := 0
  memq : List MemOp := []
  commits : List PendCommit := []
  mq : List MatOp := []
  user : MatCtx := {}
  handler : MatCtx := {}
  /-- Takes parked on matrix ownership, oldest first (R155). -/
  ownParks : List Parked := []
  /-- An EOT granule has left a ring of the plane in this cell, or the last cell with a ring is freed where this cell has
  none (R28). -/
  eotLeft : Bool := false
  /-- The plane is being saved or is saved (R332). -/
  stopped : Bool := false
  /-- Horizons of KILL messages that reached the cell: take and coordinate (R195). -/
  kills : List (Nat × Coord) := []
  deriving DecidableEq, Repr

/-- One entry of a cell's operand log (R326); file 0 S, 1 P, 2 V, 3 M. -/
structure LogEntry where
  plane : Nat
  file : Nat
  num : Nat
  val : Vec
  deriving DecidableEq, Repr

/-- What a cell's planes share (R19, R79, R153, R326, R331, R376). -/
structure CellState where
  lastIssuer : Nat := 3
  lastMma : Nat := 3
  mmas : Nat := 0
  issuedAt : Nat := 0
  everIssued : Bool := false
  log : List LogEntry := []
  fenced : Bool := false
  deriving DecidableEq, Repr

/-- Who claims on a ring (R104, R114). -/
inductive Claimant
  | firing (pid fid h : Nat)
  | drain (pid : Nat) (hand : Bool)
  | stream (sctx : Nat)
  | script (ctx : Nat)
  | bridge (die b : Nat)
  deriving DecidableEq, Repr

structure ClaimReq where
  who : Claimant
  nw : Nat
  colour : Nat
  tid : Nat
  fid : Nat
  dtag : Nat
  /-- The clk at which it reached the ring controller (R114). -/
  came : Nat := 0
  deriving DecidableEq, Repr

/-- A slot between RECLAIM and TAIL (R101). -/
structure Slot where
  filled : Bool := false
  /-- The clk at which it was filled (R309). -/
  filledAt : Nat := 0
  retired : BitVec 8 := 0
  tid : Nat := 0
  fid : Nat := 0
  /-- Its retirement by the last live branch has been seen (R106). -/
  left : Bool := false
  /-- It counts as retired by every branch without having been consumed (R114, R195, R401). -/
  void : Bool := false
  deriving DecidableEq, Repr

/-- The one slot of a branch detached by timeout (R111). -/
structure BadSlot where
  side : Side
  retired : Bool := false
  deriving DecidableEq, Repr

/-- A ring (R100 to R102, R110, R111). -/
structure Ring where
  die : Nat
  cell : Nat
  base : Nat
  lg : Nat
  pid : Nat
  job : Nat
  shared : Bool := false
  tail : Nat := 0
  reclaim : Nat := 0
  slots : Tab Slot := []
  live : BitVec 8 := 1
  timeout : Nat := 0
  /-- Default format tag, as its binding words hold it (R107, R357). -/
  fmt : Nat := 0
  /-- Per branch, the clk at which it last retired or became occupied (R111). -/
  since : Tab Nat := []
  bad : Tab BadSlot := []
  queue : List ClaimReq := []
  granted : List (Claimant × List Nat) := []
  /-- The last claim granted to a claimant that has a place in the order of R114: its clk and its place. -/
  lastGrant : Nat × Nat := (0, 0)
  deriving DecidableEq, Repr

/-- States of a parse context (R184). -/
inductive CtxState
  | free | run | decide | scan | tokwait | space | window | call | mismatch | recover | drain | parked
  deriving DecidableEq, Repr

/-- Where in a nonterminal's head a context stands. -/
inductive Head
  | none
  /-- A CHOOSE may be tested. -/
  | atChoose
  /-- The CHOOSE at this index matched; a LOOK may follow. -/
  | atLook (choose : Nat)
  deriving DecidableEq, Repr

/-- A parse context (R175). -/
structure Ctx where
  state : CtxState := .free
  pc : Nat := 0
  curnt : Nat := 0
  depth0 : Nat := 0
  stack : List Nat := []
  pos : Nat := 0
  coord : Coord := {}
  lastlvl : Tab Nat := []
  tplane : Nat := 0
  trigcnt : Nat := 0
  trigpl : Nat := 0
  horizon : Option Coord := none
  args : List (BitVec 32) := []
  caller : Option Nat := none
  tid : Nat := 0
  region : Nat := 0
  head : Head := .none
  /-- The word that transferred control to pc (R51). -/
  lastPc : Nat := 0
  /-- The last slot that the context passed (R195). -/
  lastSlot : Option Nat := none
  /-- Tokens sent whose firing has not reached END (R181, R191). -/
  sent : Nat := 0
  /-- Waiting for a head-ring slot to become visible (R197). -/
  blind : Bool := false
  /-- State held before PARKED (R184). -/
  saved : CtxState := .free
  /-- The offending slot and code of a mismatch under recovery, and the step reached (R181). -/
  offend : Nat := 0
  code : Nat := 0
  coordAt : Coord := {}
  /-- The clk of the mismatch (R382). -/
  missedAt : Nat := 0
  /-- The detail bytes of the mismatch record, until the record is written (R183). -/
  detail : Nat := 0
  /-- A kill message of the context is still on its way (R195). -/
  killing : Bool := false
  synced : Option Nat := none
  /-- The window a WAITW waits for, triggered since (R194). -/
  waitWin : Nat := 0
  waitHit : Bool := false
  /-- Outcome of a SCALL child: 0 pending, 1 accepted, 2 failed, 3 SRET (R192). -/
  childDone : Nat := 0
  /-- Outcomes that reached a shadow before its SCALL: the primary asks for both copies of the child (R329). -/
  early : List Nat := []
  /-- The take failed: DRAIN leads to the ending of R401. -/
  failing : Bool := false
  /-- The last 4 CORRECTED or RECOVERED records of the take (R347). -/
  recs : List (BitVec 512) := []
  deriving DecidableEq, Repr

/-- A slate, or the copy of one that a take keeps (R257). -/
structure Slate where
  kind : Nat := 0
  prio : Nat := 0
  region : Nat := 0
  entry : Nat := 0
  dv : Bool := false
  dctr : Nat := 0
  port : Nat := 0
  nports : Nat := 0
  args : List (BitVec 32) := []
  mtag : Nat := 0
  act0 : Word := 0
  act1 : Word := 0
  tag : Nat := 0
  deriving DecidableEq, Repr

/-- The agent that created a take (R24, R328). -/
inductive Source
  | slate
  | point (core ticket i0 i1 i2 : Nat)
  | boundary (core ticket i0 i1 i2 v : Nat)
  /-- The calling context and its take. -/
  | call (ctx who : Nat)
  | spawn
  | handler
  deriving DecidableEq, Repr

/-- The fields of an entry that its raiser gives (R382). -/
structure RecInfo where
  cls : Nat
  act : Nat
  code : Nat
  unit : BitVec 16
  job : Nat := 0
  plane : Nat := 0
  colour : Nat := 0
  region : Nat := 0xFF
  tag : Nat := 0
  addr : Nat := 0
  detail : Nat := 0
  /-- The clk of the detection, where the entry is written later (R382). -/
  at_ : Option Nat := none
  deriving DecidableEq, Repr

/-- A take (R24, R25, R320, R328, R274). -/
structure Take where
  tid : Nat
  job : Nat
  region : Nat
  colour : Nat
  ctx : Nat
  source : Source
  slate : Slate
  born : Nat
  reissued : Bool := false
  /-- The take that it is the reissue of, after a pair mismatch (R331). -/
  pairOf : Nat := 0
  touched : Bool := false
  bridged : Bool := false
  parked : List Parked := []
  traps : List TrapRec := []
  /-- TRAPPC for a script ILLEGAL or the context's own resumption (R196). -/
  isParked : Bool := false
  failing : Bool := false
  /-- The record of the first failing cause, written when the take has ended (R25, R401). -/
  failCode : Nat := 0
  failAt : Nat := 0
  failUnit : BitVec 16 := 0
  failAddr : Nat := 0
  failDetail : Nat := 0
  /-- Records of later failing causes, each with its TAG and clk (R349, R393). -/
  later : List (RecInfo × Nat) := []
  /-- The frontier's TAG, where its fault fails the take (R287). -/
  failTag : Option Nat := none
  causes : BitVec 8 := 0
  late : Bool := false
  /-- Issue clk spent per cell (R272, R274). -/
  issue : Tab Nat := []
  /-- The take and the trap that a handler take serves, and whether the trap is resolved (R321 to R323). -/
  serves : Nat := 0
  record : Option TrapRec := none
  resolved : Bool := false
  twin : Nat := 0
  shadow : Bool := false
  /-- The take executed KILL (R195 step 4). -/
  killed : Option Coord := none
  deriving DecidableEq, Repr

/-- A launch table entry (R192): region id, entry nonterminal, priority class. -/
structure Launch where
  region : Nat
  entry : Nat
  prio : Nat
  deriving DecidableEq, Repr

/-- A ring of a plane image (R100, R102, R110, R111). -/
structure RingImage where
  base : Nat
  lg : Nat
  shared : Bool := false
  live : BitVec 8 := 1
  timeout : Nat := 0
  /-- Default format tag: the FMT of its `.ring` (R357). -/
  fmt : Nat := 0
  /-- Initial granules: data and sideband (R102). -/
  init : List (Gran × Side) := []
  deriving DecidableEq, Repr

/-- One cell of a plane image, at an offset from the region's top-left cell (R266). -/
structure CellImage where
  dx : Nat
  dy : Nat
  stage : Nat
  prog : List Word
  progSize : Nat := 256
  bankBase : Nat := 0
  bankSize : Nat := 0
  stashBase : Nat := 0
  stashSize : Nat := 0
  rings : List RingImage := []
  /-- Handle number, binding word with relative cell fields, and the region id of the ring (R107, R266, R356). -/
  handles : List (Nat × Word × Nat) := []
  deriving DecidableEq, Repr

/-- A plane image of a region (R27, R173, R174, R192, R193, R321). -/
structure PlaneImage where
  rid : Nat
  die : Nat
  plane : Nat
  rows : Nat := 1
  cols : Nat := 1
  cells : List CellImage := []
  script : List (BitVec 32) := []
  scriptSize : Nat := 256
  headHandle : Nat := 0
  handler : Option Nat := none
  launch : List (Nat × Launch) := []
  partners : List Nat := []
  /-- Rings consumed outside the region: cell offsets and base (R330). -/
  exits : List (Nat × Nat × Nat) := []
  /-- Stream programs that start with the region (R39): slice, context, header address. -/
  runs : List (Nat × Nat × Nat) := []
  /-- SDEST and SSRC words of the streamer sections: address, word with relative cell fields, region of the ring
  (R266). -/
  strWords : List (Nat × Word × Nat) := []
  deriving DecidableEq, Repr

/-- A job's image list (R362, R369, R370): its plane images, its memory images, and the resources that they name or
declare. Windows are slice id * 64 + window, stream contexts slice id * 32 + context, dependence counters
die * 4096 + n, timeline counters die * 256 + n. -/
structure Declared where
  /-- Entries of the list (R369). -/
  entries : Nat := 0
  windows : List Nat := []
  /-- Windows to arm, with the address of the record. -/
  armed : List (Nat × Nat) := []
  external : List Nat := []
  streams : List Nat := []
  dctrs : List Nat := []
  tctrs : List Nat := []
  extTimeline : List Nat := []
  /-- Message classes: die and class. -/
  classes : List (Nat × Nat) := []
  regions : List PlaneImage := []
  /-- `.start` directives: die, region id and entry nonterminal (R39). -/
  start : List (Nat × Nat × Nat) := []
  /-- Memory images: address and bytes. -/
  memory : List (Nat × List Byte) := []
  /-- Spill and save areas: die, device address and bytes. -/
  areas : List (Nat × Nat × Nat) := []
  /-- SHAKE256 of the images in list order (R372). -/
  digest : BitVec 512 := 0
  /-- The checks that the binary form of an image can fail have passed. -/
  wellFormed : Bool := true
  deriving DecidableEq, Repr

/-- A patch image (R371): version, length, whether digest and signature verify, and the digest. -/
structure Patch where
  version : Nat
  length : Nat
  good : Bool
  digest : BitVec 512
  deriving DecidableEq, Repr

/-- One die's entry of a contract (R272, R369). -/
structure Contract where
  planes : Nat := 0
  slots : Nat := 0
  resident : Bool := false
  memb : Nat := 0
  linkb : List Nat := []
  /-- B, E, M for classes 0 to 7. -/
  bound : List (Nat × Nat × Nat) := []
  deriving DecidableEq, Repr

/-- An admitted job (R369, R370). -/
structure Job where
  id : Nat
  asid : Nat
  link : Nat
  diemask : Nat
  debug : Bool := false
  minmode : Nat := 0
  paired : Bool := false
  root : Nat := 0
  spill : Nat := 0
  quota : Nat := 0
  contract : List Contract := []
  decl : Declared := {}
  endpoints : List (Nat × Bool) := []
  /-- Stopped by deadlock, HALTP or a JOB-FAILED record: starts no firing and dequeues no slate (R31, R385). -/
  stopped : Bool := false
  ended : Bool := false
  /-- While its ADMIT has still to place and load regions: their keys, and the command (R370). -/
  admitting : Option (List Nat × BitVec 1024) := none
  /-- The clk at which the job was last active on each die (R30), and the packages that reported local deadlock, with
  the clk (R31). -/
  active : Tab Nat := []
  reports : List (Nat × Nat) := []
  deriving DecidableEq, Repr

inductive Placement
  | requested | loading | eligible | saving | evicted | torn
  deriving DecidableEq, Repr

/-- What an eviction saves of one plane (R332). -/
structure SavedCell where
  dx : Nat
  dy : Nat
  plane : Plane
  rings : List (Nat × Ring)
  bank : List (Nat × Gran)
  sides : List (Nat × Side)
  deriving DecidableEq, Repr

/-- A match token in a store or spill area (R268). -/
structure MatchTok where
  job : Nat
  slate : Slate
  pusher : Nat
  age : Nat
  deriving DecidableEq, Repr

/-- A region: its image, place and state (R22, R24, R266). -/
structure Region where
  key : Nat
  job : Nat
  die : Nat
  rid : Nat
  image : PlaneImage
  place : Placement := .requested
  core : Nat := 0
  /-- The core at which it was evicted (R334). -/
  fromCore : Nat := 0
  scriptBase : Nat := 0
  /-- Index of the NTDEF word of each nonterminal (R173). -/
  nts : Tab Nat := []
  cellsLeft : List Nat := []
  age : Nat := 0
  prio : Nat := 0
  bypass : Nat := 0
  blocked : Bool := false
  saved : List SavedCell := []
  savedCtxs : List (Nat × Ctx) := []
  savedToks : List (Nat × MatchTok) := []
  savedPark : List (Nat × Token) := []
  /-- The region whose request this one is evicted for (R267, R333). -/
  evictor : Nat := 0
  /-- The shadow copy's region key in paired mode (R329). -/
  shadow : Nat := 0
  /-- Cells of it are quarantined: it is torn down once its takes have ended (R331). -/
  condemned : Bool := false
  deriving DecidableEq, Repr

/-- A slate held by a drover until its counter is zero, or released (R264, R265). -/
structure Held where
  job : Nat
  slate : Slate
  released : Bool
  age : Nat
  pusherTid : Nat := 0
  source : Source := .slate
  /-- The reissue of a purged take (R328), and that take where a pair mismatch purged it (R331). -/
  reissue : Bool := false
  pairOf : Nat := 0
  /-- What the drover has observed of the slate before a reissue: LATENCY causes and issue clk per cell (R274). -/
  causes : BitVec 8 := 0
  issue : Tab Nat := []
  /-- A `.start` slate (R39). -/
  start : Bool := false
  deriving DecidableEq, Repr

/-- A registered queue (R259): job, header address, its physical key and home slice. -/
structure QueueReg where
  job : Nat
  va : Nat
  key : Nat
  home : Nat
  /-- The take that pushed a slate, by the TAIL it was given (R268). -/
  pushers : Tab Nat := []
  deriving DecidableEq, Repr

/-- A barrier instance (R275). -/
structure Barrier where
  region : Nat
  colour : Nat
  n : Nat := 0
  win : Bool := false
  arrived : List (Nat × Nat) := []
  next : List (Nat × Nat × Nat × Bool) := []
  releases : Nat := 0
  deriving DecidableEq, Repr

/-- Who asked for a translation (R339). -/
inductive Requester
  | firing (pid fid : Nat)
  /-- A queued MSAVE or MLOAD of a plane, by its number (R161). -/
  | matrix (pid op : Nat)
  | stream (sctx : Nat)
  | message (mid : Nat)
  deriving DecidableEq, Repr

/-- A requester of a translation: the slice whose cache it asked, its access code (R339) and address. -/
structure Waiter where
  who : Requester
  slice : Nat
  access : Nat
  va : Nat
  deriving DecidableEq, Repr

/-- A page in the miss queue, under a walk, or with a pending fault (R338, R339). -/
structure Miss where
  job : Nat
  page : Nat
  who : List Waiter
  walking : Bool := false
  faulted : Bool := false
  kind : Nat := 0
  level : Nat := 0
  deriving DecidableEq, Repr

/-- A message class of a die (R291, R292, R305, R306, R315). -/
structure MsgClass where
  job : Nat := 0
  quiet : Nat := 64
  thresh : Nat := 64
  mmax : Nat := 3
  mmin : Nat := 0
  adapt : Bool := false
  m : Nat := 1
  paths : Tab (BitVec 8) := []
  sent : Nat := 0
  lost : Nat := 0
  resent : Nat := 0
  spray : Nat := 0
  frameSent : Nat := 0
  frameLost : Nat := 0
  quietFrames : Nat := 0
  deriving DecidableEq, Repr

/-- A message (R294, R298 to R303): 0 PUT, 1 GET, 2 stream message, 3 reply of a GET; of class 7 (R291) 4 an access of a plane, 5
writes of a message of another package (R297), 6 a host write and 7 a host read (R364), which an I/O die sends: 8 or 9 as a die. One
whose source endpoint is not the package's own has been sent by another package. -/
structure Msg where
  mid : Nat
  /-- Source endpoint and die, and destination endpoint and die. -/
  srcEp : Nat := 0
  die : Nat
  dstEp : Nat
  dstDie : Nat
  job : Nat
  tid : Nat
  /-- The plane that issued it, whose take parks on SPRAYLOSS. -/
  pid : Nat
  cls : Nat
  kind : Nat
  ord : Bool
  /-- The bytes that its fragments carry: the descriptor of a GET, a sideband block and granules of a stream message. -/
  data : List Byte
  /-- LEN, RADDR, LADDR, LV, LCTR, RACT and RCTR of its descriptor. -/
  len : Nat
  raddr : Nat
  laddr : Nat
  lv : Bool
  lctr : Nat
  ract : Nat
  rctr : Nat
  msgid : Nat
  mcode : Nat
  /-- The bridge of a stream message, and the number of its first granule. -/
  bridge : Nat := 0
  first : Nat := 0
  /-- The memory operation that an access of class 7 carries, the message of another package whose writes it carries, or the link
  of a host access. -/
  access : Nat := 0
  /-- Its writes travel as class 7 messages (R297). -/
  carried : Bool := false
  /-- Of an ordered message of another package: the identifier of the ordered message before it, if there is one (R303). -/
  pred : Option Nat := none
  /-- The paths of the current sending, the fragment indices still to send, and the position of the next. -/
  paths : List Nat := []
  todo : List Nat := []
  pos : Nat := 0
  lastSent : Nat := 0
  resent : Bool := false
  /-- ABORT has been sent, and when. -/
  aborting : Bool := false
  abortAt : Nat := 0
  dacked : Bool := false
  packed : Bool := false
  /-- It raised SPRAYLOSS. -/
  lostM : Bool := false
  /-- At the destination: decoded, performed, or its identifier ABORTED. -/
  decoded : Bool := false
  performed : Bool := false
  aborted : Bool := false
  /-- Bytes that its writes counted in windows. -/
  counted : Nat := 0
  /-- Its writes wait for the service of a translation fault. -/
  stalled : Bool := false
  deriving DecidableEq, Repr

/-- A port that a fragment leaves by: a die port of a compute die, or an external port, UALink p as p and Ultra Ethernet p as
16 + p (R15, R16). -/
inductive Port
  | die (d p : Nat)
  | ext (x : Nat)
  deriving DecidableEq, Repr

/-- A fragment in flight (R295): the ports it has still to leave, the first of them holding it, the header's fields and the
payload. ctl 0 data, 1 DACK, 2 PACK, 3 NACK, 4 LOSS, 5 ABORT, 6 GRANT, 7 BREAK, 8 the answer of R316 that the destination holds
no such job. -/
structure Frag where
  die : Nat
  ports : List Port := []
  /-- The clk at which it came to the port that holds it. -/
  since : Nat := 0
  mid : Nat
  msgid : Nat
  srcEp : Nat
  dstEp : Nat
  dstDie : Nat
  idx : Nat := 0
  k : Nat := 1
  mcode : Nat := 0
  ord : Bool := false
  cls : Nat
  ftype : Nat
  hops : Nat := 16
  len : Nat := 0
  job : Nat
  check : BitVec 32 := 0
  payload : BitVec 2048 := 0
  /-- Control payloads: the two copies share `ack`; indices of a NACK, lost fragments reported per class, a grant or
  the colour of a BREAK. -/
  ctl : Nat := 0
  ack : Nat := 0
  list : List Nat := []
  report : List (Nat × Nat) := []
  arg : Nat := 0
  deriving DecidableEq, Repr

/-- A message slot of a decoding port (R297, R299). -/
structure RxSlot where
  port : Nat
  mid : Nat
  msgid : Nat
  srcDie : Nat
  k : Nat
  /-- The start of its timer, and the timeouts so far. -/
  opened : Nat
  timeouts : Nat := 0
  frags : List (Nat × BitVec 2048) := []
  deriving DecidableEq, Repr

inductive IdState
  | open_ | done | aborted
  deriving DecidableEq, Repr

/-- An identifier in a source entry's window: its state, its message's class, and the fragment indices that have
neither arrived nor been listed in a NACK (R298). -/
structure IdEntry where
  state : IdState
  cls : Nat
  missing : List Nat
  deriving DecidableEq, Repr

/-- A source entry at a decoding port (R298), with the loss counts it still has to report, per class. -/
structure SrcEntry where
  port : Nat
  srcEp : Nat := 0
  srcDie : Nat
  high : Nat
  ids : Tab IdEntry := []
  owed : Tab Nat := []
  last : Nat := 0
  deriving DecidableEq, Repr

/-- A destination entry at a source die (R298). -/
structure DstEntry where
  ep : Nat
  die : Nat
  next : Nat := 0
  last : Nat := 0
  deriving DecidableEq, Repr

/-- A bridge context and what its receiving engine holds (R308 to R310). -/
structure Bridge where
  job : Nat
  record : BitVec 512
  /-- Granules sent, and the grant that the sender knows. -/
  sent : Nat := 0
  grant : Nat := 0
  /-- A lost stream message, by its first colour and its message; the sender has stopped. -/
  lost : Option (Nat × Nat) := none
  stopped : Bool := false
  /-- Receiver: slots claimed and not filled, counts since the start, the last grant sent and its clk. -/
  claimed : List Nat := []
  claimedCount : Nat := 0
  filledCount : Nat := 0
  grantSent : Nat := 0
  grantAt : Nat := 0
  /-- Receiver: the colour of a BREAK that arrived; it has stopped. -/
  broken : Option Nat := none
  ended : Bool := false
  deriving DecidableEq, Repr

/-- The action of a window that has triggered (R220). -/
structure WinAct where
  win : Nat
  action : Nat
  arg0 : Word
  arg1 : Word
  job : Nat
  recAddr : Nat
  deriving DecidableEq, Repr

/-- A die's shared units (R19, R261, R271). Dies 8 and 9 stand for the I/O dies, whose external ports decode the messages of other
packages (R297) and which send class 7 messages for them and for the host (R364): of these only the source and destination
entries, the slots, class 7, TOUT and the counts of dropped fragments are used. -/
structure Die where
  frame : Tab (BitVec 32) := []
  shadow : Option (Tab (BitVec 32)) := none
  bypass : Nat := 8
  lastFrame : Nat := 0
  deps : Tab (BitVec 32) := []
  timelines : Tab Word := []
  queues : List QueueReg := []
  nextQueue : Nat := 0
  held : List Held := []
  barriers : List Barrier := []
  misses : List Miss := []
  classes : Tab MsgClass := []
  tout : Nat := 36000
  dsts : List DstEntry := []
  srcs : List SrcEntry := []
  slots : List RxSlot := []
  bridges : Tab Bridge := []
  portDown : BitVec 4 := 0
  /-- Per port, the clk at which a fragment last crossed, or since which traffic waits (R316). -/
  portLast : Tab Nat := []
  lateDropped : Nat := 0
  bufDropped : Nat := 0
  fenced : Bool := false
  /-- Window counts on the way: window id, bytes (R219). -/
  counts : List (Nat × Nat) := []
  /-- Window actions on the way (R220). -/
  actions : List WinAct := []
  /-- Bytes of LINKB spent this frame, keyed job * 4 + port (R272, R307). -/
  linkb : Tab Nat := []
  /-- Fragments sent by each UALink path, for the alternation of its two ports (R292). -/
  alternate : Tab Nat := []
  /-- Undervolt step and the clk of the last change, corrected counts per array since then (R378). -/
  uvStep : Nat := 0
  uvAt : Nat := 0
  /-- The clk until which a step up is kept, and the start of the current 600 s window. -/
  uvHold : Nat := 0
  uvWin : Nat := 0
  arrays : Tab Nat := []
  /-- Arrays of full windows of 600 s that the firmware has still to act on: 64 at nominal voltage, above 32 below it (R378). -/
  arraysLast : Tab Nat := []
  /-- PREDFAIL keeps the die at nominal. -/
  noUv : Bool := false
  dramUe : List Nat := []
  mmaCap : Nat := 192
  /-- The clk of the last THERMWARN record. -/
  warnAt : Option Nat := none
  deriving DecidableEq, Repr

/-- A frontier row above ROWLO (R279). -/
structure FrRow where
  pfx : Nat := 0
  bitmap : BitVec 64 := 0
  deriving DecidableEq, Repr

inductive FrState
  | idle | run | saving | fault
  deriving DecidableEq, Repr

/-- A core's frontier unit (R278 to R285). -/
structure Frontier where
  state : FrState := .idle
  ticket : Nat := 0
  desc : BitVec 512 := 0
  job : Nat := 0
  /-- The region of the take that executed FRONT or FREST, that take and its colour (R281, R285). -/
  region : Nat := 0
  tid : Nat := 0
  colour : Nat := 0
  /-- The slate templates, and the ring that closes an open extent (R278, R281). -/
  tmpl : Slate := {}
  btmpl : Slate := {}
  strm : Option Handle := none
  /-- The open extent so far, and whether it is closed (R281). -/
  k : Nat := 0
  closed : Bool := false
  rowlo : Nat := 0
  rows : Tab FrRow := []
  flight : List (Nat × Nat × Nat) := []
  /-- Boundary takes outstanding and ended by ACCEPT: point and vector (R280). -/
  bOut : List (Nat × Nat × Nat × Nat) := []
  bDone : List (Nat × Nat × Nat × Nat) := []
  /-- The FSAVE that waits: record address, STOP, firing and take, and the state before it (R283). -/
  saveVa : Nat := 0
  saveStop : Bool := false
  saveFid : Nat := 0
  saveTid : Nat := 0
  saveD : Nat := 0
  wasFault : Bool := false
  deriving DecidableEq, Repr

/-- A core's shared units (R19). -/
structure Core where
  script : Tab (BitVec 32) := []
  lastServed : Nat := 15
  /-- Tokens withdrawn from cells: plane id and token (R320). -/
  park : List (Nat × Token) := []
  /-- Traps offered to a handler, in the order raised: take and pid (R321). -/
  trapQ : List Nat := []
  /-- The take whose handler take was purged and is created again (R328). -/
  again : Nat := 0
  fr : Frontier := {}
  store : List MatchTok := []
  spill : List MatchTok := []
  /-- Tokens and kill messages on the way to cells: plane id, token (R189, R195). -/
  tokQ : List (Nat × Token) := []
  killQ : List (Nat × Nat × Coord) := []
  deriving DecidableEq, Repr

inductive WinState
  | disarmed | armed | triggered
  deriving DecidableEq, Repr

/-- An AWDIS that disarmed a window: its clk, the register that it wrote, and whether counts of that clk may still trigger the
window (R221). -/
structure Disarm where
  at_ : Nat
  pid : Nat
  tid : Nat
  fid : Nat
  reg : Nat
  armed : Bool
  deriving DecidableEq, Repr

/-- An arrival window (R215 to R218). -/
structure Win where
  state : WinState := .disarmed
  base : Nat := 0
  len : Nat := 0
  total : Nat := 0
  rearm : Bool := false
  action : Nat := 0
  arg0 : Word := 0
  arg1 : Word := 0
  count : Nat := 0
  job : Nat := 0
  recAddr : Nat := 0
  /-- The clk of its trigger, while TRIGGERED (R221). -/
  trigAt : Nat := 0
  /-- The AWDIS that disarmed it (R221). -/
  dis : Option Disarm := none
  deriving DecidableEq, Repr

/-- An entry of a translation cache (R336). -/
structure Tlb where
  job : Nat
  level : Nat
  vpage : Nat
  pte : Word
  deriving DecidableEq, Repr

inductive StrState
  | idle | load | walk | held | fault
  deriving DecidableEq, Repr

/-- One dimension of a descriptor program (R233, R234, R238). -/
structure Dim where
  ext : Nat := 1
  stride : Int := 0
  counted : Option Nat := none
  clamped : Bool := false
  idx : Option Nat := none
  win : Option (Nat × Nat × Nat × Nat × Nat) := none
  mark : Nat := 0
  deriving DecidableEq, Repr

/-- The decoded settings of a descriptor program (R233). -/
structure Prog where
  base : Option Nat := none
  dims : List Dim := [{}, {}, {}, {}]
  fmt : Option (Nat × Nat × Nat × Bool) := none
  /-- SDEST or SSRC: colour, CSEL, log size, base, cell; branch for SSRC. -/
  ring : Option (Nat × Bool × Nat × Nat × Nat) := none
  src : Bool := false
  branch : Nat := 0
  fill : Nat := 0
  polFill : Bool := false
  limit : Nat := 0
  win : Nat := 64
  pf : Nat := 16
  eotf : Bool := false
  hold : Bool := false
  empty : Bool := false
  dctr : Option Nat := none
  deriving DecidableEq, Repr

/-- An operation of a stream context that is numbered and not complete (R230). -/
structure StrOp where
  num : Nat
  /-- 0 SPROG, 1 SREQ, 2 SCFG, 3 SSTOP. -/
  kind : Nat
  packet : BitVec 512 := 0
  word : Word := 0
  flush : Bool := false
  colour : Nat := 0
  tid : Nat := 0
  /-- The firing that issued it, whose writes before serial `upTo` it waits for (R231). -/
  pid : Nat := 0
  fid : Nat := 0
  upTo : Nat := 0
  /-- A program that starts with its region (R39). -/
  run : Bool := false
  /-- It waits only for its completion, with this error; `walked` says that a walk of it has ended. -/
  fin : Bool := false
  err : Nat := 0
  walked : Bool := false
  /-- Bytes 32 to 34 of a BADPROG record (R232). -/
  extra : Nat := 0
  /-- Its release has written the issuing plane's stash back (R231). -/
  released : Bool := false
  deriving DecidableEq, Repr

/-- A point whose memory has been read ahead of its turn (R241, R254): its number, its SIDX values, and the bytes of its run as
a number. -/
structure Ahead where
  q : Nat
  vals : List (Nat × Int)
  run : Nat
  deriving DecidableEq, Repr

/-- The walk in progress (R234 to R241, R248). -/
structure Walk where
  active : Bool := false
  base : Nat := 0
  dims : List Dim := []
  /-- Points visited, and points of the walk. -/
  q : Nat := 0
  total : Nat := 0
  /-- A layout box: the record and the packet; gather indices. -/
  box : Option (BitVec 512 × BitVec 512) := none
  gather : Option (List Int) := none
  stag : Nat := 0
  /-- Recent line requests: line address and bytes, newest first (R241). -/
  lines : List (Nat × Gran) := []
  /-- Points in flight beyond the oldest, by rising number (R241). -/
  ahead : List Ahead := []
  /-- Sectors of the point being written that have not performed: address and bytes (R244). -/
  sectors : List (Nat × List Byte) := []
  /-- A granule of zero data with this mark is due (R237). -/
  follow : Option Nat := none
  finished : Bool := false
  deriving DecidableEq, Repr

/-- A stream context (R229, R230, R252). -/
structure Stream where
  state : StrState := .idle
  back : StrState := .idle
  job : Nat := 0
  prog : Prog := {}
  /-- The program in LOAD has passed its checks (R39). -/
  loaded : Bool := false
  status : Nat := 0
  timeline : Word := 0
  nextNum : Nat := 1
  ops : List StrOp := []
  walk : Walk := {}
  colour : Nat := 0
  tid : Nat := 0
  /-- The take of the region's `.start` slate, for a program that starts with its region (R39). -/
  runTid : Nat := 0
  /-- The colour that the take drew (R39). -/
  runColour : Nat := 0
  /-- The region that holds the program's ring, where that region's position moves it, and the ring's cell from the region's
  top-left one (R266, R334). -/
  far : Nat := 0
  rel : Nat := 0
  walks : Nat := 0
  granules : Nat := 0
  filled : Nat := 0
  clamps : Nat := 0
  lastErr : Nat := 0
  /-- Waiting for a walk of the page walker (R338). -/
  stalled : Bool := false
  /-- The structural mark that an SSTOP found still owed after a BAD granule: the mark, its colour and its take (R237, R250). -/
  owed : Option (Nat × Nat × Nat) := none
  deriving DecidableEq, Repr

/-- A slice (R19). -/
structure Slice where
  wins : Tab Win := []
  tlb : List Tlb := []
  streams : Tab Stream := []
  prog : Tab Word := []
  lastServed : Nat := 15
  /-- The contexts that the streamer still serves in the clk before `servedAt`, in order (R256). -/
  turns : List Nat := []
  servedAt : Nat := 0
  /-- Pinned lines: line key and job (R210). -/
  pins : List (Nat × Nat) := []
  /-- Directory: line key to holders (plane ids) and broadcast bit (R207). -/
  dir : Tab (List Nat × Bool) := []
  /-- Fenced ways: set * 16 + way (R390). -/
  fencedWays : List Nat := []
  /-- Uncorrectable errors per set and way, with their clk (R390). -/
  ways : Tab (List Nat) := []
  /-- Bytes of MEMB spent this frame per job (R272). -/
  memb : Tab Nat := []
  deriving DecidableEq, Repr

/-- A completion queue of a link (R368). -/
structure Cq where
  base : Nat
  log2n : Nat
  msi : Bool
  deriving DecidableEq, Repr

/-- A completion entry or record: 32 or 64 bytes (R382, R384). -/
structure Rec where
  entry : BitVec 256
  detail : Option (BitVec 256)
  deriving DecidableEq, Repr

/-- A PCI Express link (R363 to R368). -/
structure Link where
  slots : Tab (BitVec 1024) := []
  counted : Nat := 0
  triggers : Nat := 0
  dropcmd : BitVec 16 := 0
  cqlost : Bool := false
  tail : BitVec 32 := 0
  head : BitVec 32 := 0
  cmdhead : BitVec 32 := 0
  cq : Option Cq := none
  held : List Rec := []
  /-- A second CQSETUP waiting for the held entries, with its command (R368). -/
  nextCq : Option (Cq × BitVec 1024) := none
  heldBehind : List Rec := []
  hadSetup : Bool := false
  /-- A PLOAD that waits for its region: region key and command (R367). -/
  loading : Option (Nat × BitVec 1024) := none
  /-- A MAP that waits for accesses under the old mapping: job, first address, bytes, command (R335, R402). -/
  mapping : Option (Nat × Nat × Nat × BitVec 1024) := none
  /-- The device bytes that the old entry of that MAP mapped, where it was a leaf: key and count (R205). -/
  mapOld : Option (Nat × Nat) := none
  segs : Tab (Nat × Nat × Bool) := []
  lastRead : List Byte := []
  msixSent : Nat := 0
  msixAt : Nat := 0
  msixTail : BitVec 32 := 0
  deriving DecidableEq, Repr

/-- Package-wide registers and firmware state (R363, R371 to R378). -/
structure Pkg where
  ready : Bool := false
  patchrej : Bool := false
  fwver : BitVec 16 := 1
  patchver : Nat := 0
  rollback : Nat := 0
  flash : Option Patch := none
  /-- Digest of the patch image that runs, zero for the base firmware (R372). -/
  patchDigest : BitVec 512 := 0
  resets : BitVec 16 := 1
  detail : BitVec 16 := 0
  cause : BitVec 8 := 1
  mode : Nat := 1
  uv : Bool := false
  /-- POWER commands that wait for the next frame start: link, record, and the frame in which each was taken. -/
  pendPower : List (Nat × BitVec 1024 × Nat) := []
  /-- The links of the triggers whose commands are not taken, in the order in which the triggers arrived (R367). -/
  trigOrder : List Nat := []
  rasPaired : Bool := false
  /-- The clk of the last POWEROVER record. -/
  overAt : Option Nat := none
  /-- CORRECTED records being merged: the last occurrence, the number unwritten, the clk of the last record (R391). -/
  merging : List (RecInfo × Nat × Nat) := []
  endpoint : Nat := 0
  /-- External ports taken out of use, and per port as a die's `portLast`: UALink p is p, Ultra Ethernet p is 16 + p (R316). -/
  extDown : List Nat := []
  extLast : Tab Nat := []
  deriving DecidableEq, Repr

/-- An exit of a paired region under its comparator (R330, R331). -/
structure Exit where
  region : Nat
  ring : Nat
  shadowRing : Nat
  comparator : Nat
  /-- Granules committed and not yet compared, for each copy: take, slot, and the cell that committed it. -/
  prim : List (Nat × Nat × Nat) := []
  shad : List (Nat × Nat × Nat) := []
  /-- Granules passed, and granules dropped, per take of the primary (R331). -/
  passed : Tab Nat := []
  drop : Tab Nat := []
  deriving DecidableEq, Repr

/-- The whole package. -/
structure State where
  agenda : List Move := []
  turn : Turn := .agenda
  cur : Nat := 0
  curCtx : Nat := 0
  clk : Nat := 0
  free : Nat := 0
  serial : Nat := 1
  mem : List (Nat × Byte) := []
  poison : List Nat := []
  bank : Tab Gran := []
  sideband : Tab Side := []
  planes : Tab Plane := []
  cells : Tab CellState := []
  rings : Tab Ring := []
  ctxs : Tab Ctx := []
  cores : Tab Core := []
  slices : Tab Slice := []
  dies : Tab Die := []
  links : Tab Link := []
  jobs : Tab Job := []
  regions : Tab Region := []
  takes : Tab Take := []
  /-- What the host has placed in its memory, by host address: image lists, plane images and patch images, whose
  binary forms the spec does not give (log 6). -/
  images : Tab Declared := []
  planeImages : Tab PlaneImage := []
  patches : Tab Patch := []
  exits : List Exit := []
  msgs : List Msg := []
  wire : List Frag := []
  pkg : Pkg := {}
  deriving DecidableEq, Repr

/-- The outcome of a step. -/
abbrev Out := Host.Outcome State Fault Refusal

/-- The machine right after reset: power applied and the package reset, bring-up (R375) not yet run.
RSTCAUSE names POWERON with one reset (R373, R374), the mode is balanced with undervolting off (R375), READY is 0
(R363); no job, region or take exists, memory is clear, every table lists nothing. -/
def State.reset : State := {}

end Sys2Proof.Machine
end

