-- ==== Sys2Proof/Machine/Table.lean ====
section
/-!
DEFINITION. Reading and writing tables: a list of entries by rising number, each listed once.
`look` gives a default where nothing is listed; `put` drops an entry that would hold the default, so equal tables
are equal lists.
-/
namespace Sys2Proof.Machine

/-- The listed entry of a number. -/
def find {α : Type} : Tab α → Nat → Option α
  | [], _ => none
  | (k', v) :: r, k => if k = k' then some v else find r k

/-- The entry of a number, `d` where none is listed. -/
def look {α : Type} (d : α) (m : Tab α) (k : Nat) : α := (find m k).getD d

/-- Lists the entry `v` at `k`, in place of an earlier one. -/
def ins {α : Type} : Tab α → Nat → α → Tab α
  | [], k, v => [(k, v)]
  | (k', v') :: r, k, v =>
    if k < k' then (k, v) :: (k', v') :: r
    else if k = k' then (k, v) :: r
    else (k', v') :: ins r k v

/-- Removes the entry of `k`. -/
def del {α : Type} (m : Tab α) (k : Nat) : Tab α := m.filter fun e => !(e.1 == k)

/-- Writes `v` at `k` in a table whose unlisted entries read as `d`. -/
def put {α : Type} [DecidableEq α] (d : α) (m : Tab α) (k : Nat) (v : α) : Tab α :=
  if v = d then del m k else ins m k v

/-- The keys rise strictly. -/
def rising {α : Type} : Tab α → Bool
  | [] => true
  | (k, _) :: r => (match r with | [] => true | (k', _) :: _ => decide (k < k')) && rising r

/-- The canonical form: keys rise strictly and no entry holds the default. -/
def canon {α : Type} [DecidableEq α] (d : α) (m : Tab α) : Bool :=
  rising m && m.all fun e => decide (e.2 ≠ d)

/-- Applies `f` to every entry. -/
def mapTab {α : Type} (f : Nat → α → α) (m : Tab α) : Tab α := m.map fun e => (e.1, f e.1 e.2)

end Sys2Proof.Machine
end

