-- ==== Sys2Proof/Machine/Access.lean ====
section
/-!
DEFINITION. Reaching the parts of the state by number, the geometry of a package (R12 to R15, R18), and registers with the
operand log (R52, R58, R326).
-/
namespace Sys2Proof.Machine

/-- Cell id, die, die cell number and plane number of a plane id. -/
def cellOf (pid : Nat) : Nat := pid / 4
def dieOf (pid : Nat) : Nat := pid / 1024
def cellNoOf (pid : Nat) : Nat := pid / 4 % 256
def planeNoOf (pid : Nat) : Nat := pid % 4
/-- The plane id of a die, die cell number and plane. -/
def pidOf (die cell plane : Nat) : Nat := (die * 256 + cell) * 4 + plane
/-- The core of a die cell number: y / 4 row and x / 4 column (R13). -/
def coreOfCell (cell : Nat) : Nat := cell / 64 * 4 + cell % 16 / 4
/-- The number of a die cell within its core (R13). -/
def cellInCore (cell : Nat) : Nat := cell / 16 % 4 * 4 + cell % 4
/-- The core id of a plane id. -/
def coreOf (pid : Nat) : Nat := dieOf pid * 16 + coreOfCell (cellNoOf pid)
/-- The CELLID value of a die and die cell number (R18, R56). -/
def cellIdWord (die cell : Nat) : Nat := die * 8192 + coreOfCell cell * 512 + cellInCore cell * 32
/-- The die cell number of a core and a cell within it (R13). -/
def cellAt (core n : Nat) : Nat := (core / 4 * 4 + n / 4) * 16 + core % 4 * 4 + n % 4

/-- The unit field of a cell engine (R18). -/
def unitOfCell (die cell kind : Nat) : BitVec 16 := BitVec.ofNat 16 (cellIdWord die cell + kind)
/-- The unit field of a core engine (R18). -/
def unitOfCore (core kind : Nat) : BitVec 16 := BitVec.ofNat 16 (core / 16 * 8192 + core % 16 * 512 + kind)
/-- The unit field of a slice engine, die engine, port or link: a number in [12:5] (R18). -/
def unitOfNum (die num kind : Nat) : BitVec 16 := BitVec.ofNat 16 (die * 8192 + num * 32 + kind)

variable (s : State)

def State.plane (pid : Nat) : Plane := look {} s.planes pid
def State.setPlane (pid : Nat) (p : Plane) : State := { s with planes := ins s.planes pid p }
def State.modPlane (pid : Nat) (f : Plane → Plane) : State := s.setPlane pid (f (s.plane pid))
/-- The plane that is issuing. -/
def State.pl : Plane := s.plane s.cur
def State.modPl (f : Plane → Plane) : State := s.modPlane s.cur f
/-- The firing of a plane, and a change of it. -/
def State.modFiring (pid : Nat) (f : Firing → Firing) : State :=
  s.modPlane pid fun p => { p with firing := f p.firing }

def State.cell (cid : Nat) : CellState := look {} s.cells cid
def State.modCell (cid : Nat) (f : CellState → CellState) : State :=
  { s with cells := ins s.cells cid (f (s.cell cid)) }

def State.ring (key : Nat) : Option Ring := find s.rings key
def State.setRing (key : Nat) (r : Ring) : State := { s with rings := ins s.rings key r }
def State.modRing (key : Nat) (f : Ring → Ring) : State :=
  match s.ring key with
  | none => s
  | some r => s.setRing key (f r)

def State.ctx (c : Nat) : Ctx := look {} s.ctxs c
def State.modCtx (c : Nat) (f : Ctx → Ctx) : State := { s with ctxs := ins s.ctxs c (f (s.ctx c)) }

def State.core (c : Nat) : Core := look {} s.cores c
def State.modCore (c : Nat) (f : Core → Core) : State := { s with cores := ins s.cores c (f (s.core c)) }

def State.slice (x : Nat) : Slice := look {} s.slices x
def State.modSlice (x : Nat) (f : Slice → Slice) : State := { s with slices := ins s.slices x (f (s.slice x)) }

/-- A stream context by its id: slice id * 32 + context; 16 to 31 are the duplicates that feed shadow copies (R329). -/
def State.stream (sc : Nat) : Stream := look {} (s.slice (sc / 32)).streams (sc % 32)
def State.modStream (sc : Nat) (f : Stream → Stream) : State :=
  s.modSlice (sc / 32) fun x => { x with streams := ins x.streams (sc % 32) (f (s.stream sc)) }

def State.die (d : Nat) : Die := look {} s.dies d
def State.modDie (d : Nat) (f : Die → Die) : State := { s with dies := ins s.dies d (f (s.die d)) }

def State.link (l : Nat) : Link := look {} s.links l
def State.modLink (l : Nat) (f : Link → Link) : State := { s with links := ins s.links l (f (s.link l)) }

def State.job (j : Nat) : Option Job := find s.jobs j
def State.modJob (j : Nat) (f : Job → Job) : State :=
  match s.job j with
  | none => s
  | some x => { s with jobs := ins s.jobs j (f x) }

def State.region (k : Nat) : Option Region := find s.regions k
def State.modRegion (k : Nat) (f : Region → Region) : State :=
  match s.region k with
  | none => s
  | some x => { s with regions := ins s.regions k (f x) }

/-- A change of the parse context of a take, in its core or in the image of an evicted region (R175, R332). -/
def State.modTakeCtx (t : Take) (f : Ctx → Ctx) : State :=
  if (s.ctx t.ctx).tid == t.tid then s.modCtx t.ctx f
  else s.modRegion t.region fun r =>
    { r with savedCtxs := mapTab (fun _ c => if c.tid == t.tid then f c else c) r.savedCtxs }

/-- The parse context of a take, in its core or in the image of an evicted region (R175, R332). -/
def State.takeCtx (t : Take) : Ctx :=
  if (s.ctx t.ctx).tid == t.tid then s.ctx t.ctx
  else (((s.region t.region).bind fun r => r.savedCtxs.find? fun e => e.2.tid == t.tid).map (·.2)).getD {}

def State.take (t : Nat) : Option Take := find s.takes t
def State.modTake (t : Nat) (f : Take → Take) : State :=
  match s.take t with
  | none => s
  | some x => { s with takes := ins s.takes t (f x) }

/-- The job is active on a die now: a firing starts or issues, a granule moves, an operation completes (R30). -/
def State.note (job die : Nat) : State := s.modJob job fun j => { j with active := ins j.active die s.clk }

/-- A fresh serial number. -/
def State.bump : State := { s with serial := s.serial + 1 }

/-- The region key of a job, die and region id. -/
def regionKey (job die rid : Nat) : Nat := job * 2048 + die * 256 + rid

/-- The die cell number of the top-left cell of a core (R13). -/
def topCell (core : Nat) : Nat := core / 4 * 64 + core % 4 * 4

/-- The die cell numbers of a rectangle of cores, ascending (R13). -/
def rectCells (core rows cols : Nat) : List Nat :=
  let x0 := core % 4 * 4
  let y0 := core / 4 * 4
  (List.range (4 * rows)).flatMap fun dy => (List.range (4 * cols)).map fun dx => (y0 + dy) * 16 + x0 + dx

/-- The cores of a rectangle. -/
def rectCores (core rows cols : Nat) : List Nat :=
  (List.range rows).flatMap fun r => (List.range cols).map fun c => core + r * 4 + c

/-- The die cell numbers of a region. -/
def Region.cells (r : Region) : List Nat := rectCells r.core r.image.rows r.image.cols

/-- The plane ids of a region's cells. -/
def Region.pids (r : Region) : List Nat := r.cells.map fun c => pidOf r.die c r.image.plane

/-- The core id that drives a region (R172). -/
def Region.driver (r : Region) : Nat := r.die * 16 + r.core

/-- The cell at an offset from a region's top-left cell. -/
def Region.cellAtOff (r : Region) (dx dy : Nat) : Nat := (r.core / 4 * 4 + dy) * 16 + r.core % 4 * 4 + dx

/-- The stream contexts of a shadow copy are the duplicates (R329). -/
def Region.dup (r : Region) : Nat := if 2 ^ 32 ≤ r.key then 16 else 0

/-- A shadow copy of paired mode, by its key (R329). -/
def Region.isShadow (r : Region) : Bool := decide (2 ^ 32 ≤ r.key)

/-- The key of a region of the same job, die and copy. -/
def Region.sibling (r : Region) (rid : Nat) : Nat :=
  regionKey r.job r.die rid + if r.isShadow then 2 ^ 32 else 0

/-- The regions that share colours and contexts with a region: itself and its partners, those of a shadow copy being
shadow copies (R193, R329). -/
def State.group (k : Nat) : List Region :=
  match s.region k with
  | none => []
  | some r => r :: (r.image.partners.filterMap fun rid => s.region (r.sibling rid))

/-- The plane ids of a region and its partners, as far as their planes are still theirs (R28). -/
def State.groupPids (k : Nat) : List Nat :=
  (s.group k).flatMap fun r => r.pids.filter fun pid => (s.plane pid).owner == r.key

/-- The take that holds a colour in a region or its partners (R193). -/
def State.takeOf (k colour : Nat) : Option Take :=
  let keys := (s.group k).map Region.key
  (s.takes.map (·.2)).find? fun t => t.colour == colour && keys.contains t.region

/-- The ring key of a cell id and base granule. -/
def ringKey (cid base : Nat) : Nat := cid * 1024 + base

/-- The ring that a handle names, on the handle's die. -/
def Handle.key (h : Handle) : Nat := ringKey h.cell h.base

/-- A region whose planes are loaded (R27, R356). -/
def Region.resident (r : Region) : Bool := r.place == .eligible || r.place == .saving

/-- A handle on a ring of a region that is not placed or is evicted holds no ring (R356). -/
def State.farAway (b : Handle) : Bool := b.far != 0 && !(((s.region b.far).map Region.resident).getD false)

/-- The ring of a binding. -/
def State.ringOf (b : Handle) : Option Ring := if s.farAway b then none else s.ring b.key

/-- Folds a state change over a list. -/
def State.fold {α : Type} (l : List α) (f : State → α → State) : State := l.foldl f s

/-- What an event of a cell or a slice of a die does: nothing once the die is fenced, for its cells and slices have stopped
(R392). -/
def State.onDie (die : Nat) (t : State) : State := if (s.die die).fenced then s else t

/-- FRAMESLOT (R271). -/
def State.frameSlot : Nat := s.clk / 256 % 64

/-- An entry of a die's frame table: entries 60 to 63 read KIND 2 (R271). -/
def State.frameEntry (d k : Nat) : BitVec 32 := if 60 ≤ k then 0x8000 else look 0 (s.die d).frame k

/-! ## Registers -/

/-- ReadS, ReadP, ReadM of R58, and the V registers; unlisted registers hold zero. -/
def Regs.rS (r : Regs) (n : Nat) : Word := if n == 0 then 0 else look 0 r.s n
def Regs.rP (r : Regs) (n : Nat) : BitVec 1 := if n == 0 then 1 else look 0 r.p n
def Regs.rM (r : Regs) (n : Nat) : Word := if n == 0 then BitVec.allOnes 64 else look 0 r.m n
def Regs.rV (r : Regs) (n : Nat) : Vec := look 0 r.v n
/-- WriteS, WriteP (R58), and the M and V writes: S0, P0 and M0 ignore writes (R52). -/
def Regs.wS (r : Regs) (n : Nat) (v : Word) : Regs := if n == 0 then r else { r with s := put 0 r.s n v }
def Regs.wP (r : Regs) (n : Nat) (v : BitVec 1) : Regs := if n == 0 then r else { r with p := put 0 r.p n v }
def Regs.wM (r : Regs) (n : Nat) (v : Word) : Regs := if n == 0 then r else { r with m := put 0 r.m n v }
def Regs.wV (r : Regs) (n : Nat) (v : Vec) : Regs := { r with v := put 0 r.v n v }

/-- A register write takes the oldest of the cell's 8 log entries; an earlier entry of the same register is dropped
(R326). -/
def logPush (l : List LogEntry) (e : LogEntry) : List LogEntry :=
  let l := (l.filter fun x => !(x.plane == e.plane && x.file == e.file && x.num == e.num)) ++ [e]
  l.drop (l.length - 8)

/-- Logs a write by a plane (R326). -/
def State.logWrite (pid file num : Nat) (v : Vec) : State :=
  s.modCell (cellOf pid) fun c => { c with log := logPush c.log { plane := planeNoOf pid, file, num, val := v } }

/-- Changes a plane's registers. -/
def State.modRegs (pid : Nat) (f : Regs → Regs) : State := s.modPlane pid fun p => { p with regs := f p.regs }

/-- Register writes of a plane, logged; a write that the file ignores is no write (R52, R326). -/
def State.setS (pid n : Nat) (v : Word) : State :=
  if n == 0 then s else (s.modRegs pid fun r => r.wS n v).logWrite pid 0 n (v.zeroExtend 1024)
def State.setP (pid n : Nat) (v : BitVec 1) : State :=
  if n == 0 then s else (s.modRegs pid fun r => r.wP n v).logWrite pid 1 n (v.zeroExtend 1024)
def State.setV (pid n : Nat) (v : Vec) : State := (s.modRegs pid fun r => r.wV n v).logWrite pid 2 n v
def State.setM (pid n : Nat) (v : Word) : State :=
  if n == 0 then s else (s.modRegs pid fun r => r.wM n v).logWrite pid 3 n (v.zeroExtend 1024)

/-- A register write by a queued operation or a load: to the plane, or to the registers parked with the firing
(R54, R55, R320). -/
def State.lateWrite (pid tid fid : Nat) (plane : State → State) (parked : Regs → Regs) : State :=
  let mine := fun (k : Parked) => k.pid == pid && k.firing.fid == fid && !k.queueOnly
  let inTake := match s.take tid with
    | none => false
    | some t => t.parked.any mine
  if inTake then
    s.modTake tid fun t =>
      { t with parked := t.parked.map fun k => if mine k then { k with regs := parked k.regs } else k }
  else if (s.plane pid).ownParks.any mine then
    s.modPlane pid fun p =>
      { p with ownParks := p.ownParks.map fun k => if mine k then { k with regs := parked k.regs } else k }
  else plane s

end Sys2Proof.Machine
end

