-- ==== Sys2Proof/Machine/Record.lean ====
section
/-!
DEFINITION. Completion entries and error records (17_errors, R382 to R393; R347, R368).
-/
namespace Sys2Proof.Machine

/-- The entry's 32 bytes and, where CODE is nonzero, the 32 bytes of detail (R382, R384). TIME is the clk of the detection: now,
where the raiser kept none. -/
def RecInfo.toRec (r : RecInfo) (now : Nat) : Rec :=
  let rec_ := if r.code == 0 then 0 else 128
  let time := r.at_.getD now
  { entry := BitVec.ofNat 256 (r.cls % 8 + rec_ + r.act % 256 * 2 ^ 8 + r.code % 2 ^ 16 * 2 ^ 16
      + r.unit.toNat * 2 ^ 32 + r.job % 2 ^ 16 * 2 ^ 48 + (r.plane % 4 * 64 + r.colour % 16 * 4) * 2 ^ 64
      + r.region % 256 * 2 ^ 72 + r.tag % 2 ^ 48 * 2 ^ 80 + r.addr % 2 ^ 64 * 2 ^ 128 + time % 2 ^ 64 * 2 ^ 192)
    detail := if r.code == 0 then none else some (BitVec.ofNat 256 r.detail) }

/-- Entries that a record takes in a queue (R368). -/
def Rec.size (r : Rec) : Nat := if r.detail.isSome then 2 else 1

/-- CLASS, CODE, UNIT, JOB and TIME of an entry (R382). -/
def Rec.cls (r : Rec) : Nat := fld r.entry 0 3
def Rec.code (r : Rec) : Nat := fld r.entry 16 16
def Rec.unit (r : Rec) : Nat := fld r.entry 32 16
def Rec.job (r : Rec) : Nat := fld r.entry 48 16
def Rec.time (r : Rec) : Nat := fld r.entry 192 64

/-- A record of a job comes before another of that job: by TIME, and by UNIT where those are equal (R393). -/
def Rec.before (r x : Rec) : Bool :=
  r.detail.isSome && x.detail.isSome && r.job != 0 && r.job == x.job
    && (decide (r.time < x.time) || (r.time == x.time && decide (r.unit < x.unit)))

/-- Takes its place among the held entries: before the records of its job that it precedes, but behind every UNIT-FENCED or
DIE-FENCED record; JOBEND comes last (R393). -/
def Rec.insertIn (r : Rec) : List Rec → List Rec
  | [] => [r]
  | x :: l =>
    if r.before x && r.code != 0x1E32 && (x :: l).all (fun y => y.cls != 5 && y.cls != 6) then r :: x :: l
    else x :: r.insertIn l

/-- Puts a record on a link: into the buffer of held entries, or dropped with CQLOST when it is full (R368). Records
raised while a replacing CQSETUP waits are held behind it. -/
def State.postLink (s : State) (l : Nat) (r : Rec) : State :=
  s.modLink l fun k =>
    let used := (k.held ++ k.heldBehind).foldl (fun n x => n + x.size) 0
    if 4096 < used + r.size then { k with cqlost := true }
    else if k.nextCq.isSome then { k with heldBehind := r.insertIn k.heldBehind }
    else { k with held := r.insertIn k.held }

/-- A record of a job goes to the link that admitted it; a record of a job that is gone is not reported (R368, R393). -/
def State.postJob (s : State) (i : RecInfo) : State :=
  match s.job i.job with
  | none => s
  | some j => s.postLink j.link (i.toRec s.clk)

/-- A record of the package goes to every queue that is set up (R368). -/
def State.postPkg (s : State) (i : RecInfo) : State :=
  s.fold [0, 1] fun s l => if (s.link l).cq.isSome then s.postLink l (i.toRec s.clk) else s

/-- A record concerning a job if it still exists, the package otherwise (R393). -/
def State.post (s : State) (i : RecInfo) : State :=
  if i.job == 0 then s.postPkg i
  else if (s.job i.job).isSome then s.postJob i
  else if i.cls == 1 || i.cls == 5 then s.postPkg { i with job := 0, plane := 0, colour := 0, region := 0xFF }
  else s

/-- The fields of an entry about a take (R383). -/
def State.aboutTake (s : State) (t : Take) (i : RecInfo) : RecInfo :=
  let rg := s.region t.region
  { i with
    job := t.job
    plane := (rg.map fun r => r.image.plane).getD 0
    colour := t.colour
    region := (rg.map fun r => r.rid).getD 0xFF
    tag := t.slate.tag }

/-- A CORRECTED or RECOVERED record joins the record queue of its take; a fifth drops the oldest (R347). -/
def State.queueRec (s : State) (t : Take) (i : RecInfo) : State :=
  let r := i.toRec s.clk
  let w : BitVec 512 := (r.detail.getD 0) ++ r.entry
  s.modTakeCtx t fun c => { c with recs := (c.recs ++ [w]).drop ((c.recs.length + 1) - 4) }

/-- A record about a take: to the host, and to the take's record queue when its class is CORRECTED or RECOVERED
(R347). -/
def State.postTake (s : State) (t : Take) (i : RecInfo) : State :=
  let i := s.aboutTake t i
  let s := s.post i
  if i.cls == 1 || i.cls == 2 then s.queueRec t i else s

/-- 1 ms in clk (R32). -/
def mergeClk : Nat := 1800000

/-- The occurrences that a CORRECTED record covers, in detail bytes 56 to 59 (R384). -/
def RecInfo.times (i : RecInfo) (n : Nat) : RecInfo := { i with detail := i.detail + n % 2 ^ 32 * 2 ^ 192 }

/-- One occurrence of a CORRECTED code: a record at once where none of the code and unit was written in the last 1 ms,
else it is merged into the next (R391). -/
def State.corrected (s : State) (i : RecInfo) : State :=
  let same := fun (m : RecInfo × Nat × Nat) => m.1.code == i.code && m.1.unit == i.unit
  match s.pkg.merging.find? same with
  | none =>
    let s := s.post (i.times 1)
    { s with pkg := { s.pkg with merging := s.pkg.merging ++ [(i, 0, s.clk)] } }
  | some (_, n, at_) =>
    let due := n == 0 && decide (at_ + mergeClk ≤ s.clk)
    let s := if due then s.post (i.times 1) else s
    let upd := fun (m : RecInfo × Nat × Nat) =>
      if same m then (if due then (i, 0, s.clk) else (i, m.2.1 + 1, m.2.2)) else m
    { s with pkg := { s.pkg with merging := s.pkg.merging.map upd } }

/-- The completion entry of a command whose execution took time: class OK, none where it was quiet and done (R366, R367). -/
def State.endCommand (s : State) (l : Nat) (c : BitVec 1024) (code act : Nat) : State :=
  if code == 0 && fld c 8 1 == 1 then s
  else s.postLink l (RecInfo.toRec
    { cls := 0, act, code, unit := unitOfNum 0 0 0x1E, job := fld c 64 16, tag := fld c 16 48 } s.clk)

/-- The ADMIT of a job that still places and loads its regions ends (R370; log 28). -/
def State.admitEnds (s : State) (job code act : Nat) : State :=
  match s.job job with
  | none => s
  | some j =>
    match j.admitting with
    | none => s
    | some (_, c) => (s.modJob job fun j => { j with admitting := none }).endCommand j.link c code act

/-- A record of class JOB-FAILED: the job starts no firing and dequeues no slate (R385). An ADMIT that has still to load its
regions ends with BADCMD (log 28). -/
def State.failJob (s : State) (i : RecInfo) : State :=
  ((s.post i).modJob i.job fun j => { j with stopped := true }).admitEnds i.job 0x1E01 2

/-- ACT of the codes, by the index of R387, for the class given. -/
def actOf (code cls : Nat) : Nat :=
  if code == 0x0007 then 8
  else if code == 0x0402 || code == 0x1411 || code == 0x1412 || code == 0x1413 || code == 0x1701 || code == 0x1704 then 1
  else if code == 0x1410 then (if cls == 3 then 1 else 0)
  else if code == 0x1421 then (if cls == 3 then 1 else 6)
  else if code == 0x000A || code == 0x1501 then 4
  else if code == 0x0801 then (if cls == 3 then 2 else 0)
  else if code == 0x0A02 || code == 0x0F01 || code == 0x1402 || code == 0x1403 || code == 0x1E31 then 5
  else if code == 0x1601 then 3
  else if code == 0x1203 || code == 0x1706 || code == 0x1E0B || code == 0x1E30 then 6
  else if code == 0x1E09 || code == 0x1E0A || code == 0x1E25 || code == 0x1E27 then 7
  else if 0x1E21 ≤ code && code ≤ 0x1E26 then 5
  else if code == 0 || code == 0x0201 || code == 0x0202 || code == 0x0401 || code == 0x0501 || code == 0x0C01
    || code == 0x0D09 || code == 0x1101 || code == 0x1201 || code == 0x1404 || code == 0x1420 || code == 0x1703
    || code == 0x1705 || code == 0x1E32 then 0
  else 2

end Sys2Proof.Machine
end

