-- ==== Sys2Proof/Machine/Memory.lean ====
section
/-!
DEFINITION. Memory: bytes, address translation, stashes, the directory, and what a write does when it performs
(R198 to R210, R219, R222, R335 to R339, R389).
A physical key is space * 2^64 + address: space 0 bonded DRAM by device address, 1 CXL memory, 2 host memory,
3 + p the memory of pod package p. An unlisted byte reads 0: bonded DRAM is cleared by a reset (R373); for the other
spaces this is a DESIGN CHOICE (log 4).
-/
namespace Sys2Proof.Machine

/-- The canonical form of memory: rising addresses, no listed zero. -/
abbrev Memory.wf (m : List (Nat × Byte)) : Prop := canon 0 m = true

/-- One byte of memory. -/
def State.byte (s : State) (k : Nat) : Byte := look 0 s.mem k
def State.setByte (s : State) (k : Nat) (b : Byte) : State := { s with mem := put 0 s.mem k b }

/-- The `n` bytes from a key. -/
def State.bytes (s : State) (k n : Nat) : List Byte := (List.range n).map fun i => s.byte (k + i)
/-- Writes a list of bytes from a key on. -/
def State.setBytes (s : State) : Nat → List Byte → State
  | _, [] => s
  | k, b :: bs => State.setBytes (s.setByte k b) (k + 1) bs

/-- A little-endian number of `n` bytes from a key (R5). -/
def State.num (s : State) (k n : Nat) : Nat := leNat (s.bytes k n)

def hostSpace : Nat := 2 * 2 ^ 64
/-- The key of a host address. -/
def hostKey (a : Nat) : Nat := hostSpace + a % 2 ^ 64

/-- The line of a key. -/
def lineOf (k : Nat) : Nat := k / 64

/-! ## Translation -/

/-- What an access is, for WRITE and for the fault record (R339): 0 load, 1 store, 2 atomic, 3 stream read,
4 stream write, 5 message write. -/
def needsWrite (access : Nat) : Bool := access == 1 || access == 2 || access == 4 || access == 5

/-- Bits below the page size at a level (R337). -/
def pageBits (level : Nat) : Nat := if level == 1 then 40 else if level == 2 then 28 else 16

/-- The index of an address at a level (R337). -/
def vaIndex (va level : Nat) : Nat := va / 2 ^ pageBits level % 4096

/-- The outcome of a walk: a fault kind and level, or the leaf and its level. -/
inductive WalkOut
  | fault (kind level : Nat)
  | leaf (pte : Word) (level : Nat)
  deriving DecidableEq, Repr

/-- Reserved-field faults of a leaf (R339 kind 3). -/
def leafBad (pte : Word) (level : Nat) : Bool :=
  fld pte 62 2 != 0 || fld pte 12 4 != 0 || fld pte 7 1 != 0 || 4 ≤ fld pte 8 4
    || (fld pte 3 1 == 1 && fld pte 8 4 != 0) || (fld pte 52 10 != 0 && fld pte 8 4 != 1)
    || fld pte 16 36 % 2 ^ (pageBits level - 16) != 0

/-- Reserved-field faults of a non-leaf entry: only VALID, LEAF and FRAME may be set (R337, R339). -/
def nodeBad (pte : Word) : Bool := pte.toNat % 2 ^ 16 / 2 != 0 || fld pte 52 12 != 0

/-- The page walk from a table at a device address, level by level (R337 to R339); an entry without LEAF at level 3
breaks the rule that LEAF must be 1 there and is a reserved-field fault. -/
def State.walkFrom (s : State) (va : Nat) (write : Bool) : Nat → Nat → Nat → WalkOut
  | 0, level, _ => .fault 3 level
  | n + 1, level, table =>
    let pte : Word := BitVec.ofNat 64 (s.num (table + 8 * vaIndex va level) 8)
    if fld pte 0 1 == 0 then .fault 1 level
    else if fld pte 1 1 == 1 then
      if leafBad pte level then .fault 3 level
      else if write && fld pte 2 1 == 0 then .fault 2 level
      else .leaf pte level
    else if level == 3 || nodeBad pte then .fault 3 level
    else State.walkFrom s va write n (level + 1) (fld pte 16 36 * 65536)

/-- The walk of a job's address (R337). -/
def State.walk (s : State) (job va : Nat) (write : Bool) : WalkOut :=
  match s.job job with
  | none => .fault 1 1
  | some j => s.walkFrom va write 3 1 j.root

/-- A resolved access: physical key, home die and home slice (R199, R337). -/
structure Phys where
  key : Nat
  die : Nat
  slice : Nat
  deriving DecidableEq, Repr

/-- The home slice of a device address within its home die (R199). -/
def homeSlice (dev : Nat) : Nat :=
  let l := dev / 64 % 2 ^ 24
  (l % 64) ^^^ (l / 64 % 64) ^^^ (l / 4096 % 64) ^^^ (l / 262144 % 64)

/-- The physical place that a leaf gives an address (R199, R337). No rule says what a device address beyond the capacities of R20
reaches: it has memory of its own (DESIGN CHOICE, log 44). The home of a page of pod package p is die d of that package, named
8 + 8p + d here (R291, R337; log 23). A device address of bonded DRAM is one place in the
package: R20 and R199 give FRAME the device address and HOMEDIE the die that performs the access, and do not say that equal
device addresses with two home dies are two places (DESIGN CHOICE, log 44). -/
def physOf (pte : Word) (level va : Nat) : Phys :=
  let dev := fld pte 16 36 * 65536 + va % 2 ^ pageBits level
  let space := match fld pte 8 4 with
    | 0 => 0
    | 1 => 3 + fld pte 52 10
    | 2 => 1
    | _ => 2
  { key := space * 2 ^ 64 + dev
    die := if fld pte 3 1 == 1 then va / 65536 % 8 else if fld pte 8 4 == 1 then 8 + 8 * fld pte 52 10 + fld pte 4 3 else fld pte 4 3
    slice := homeSlice dev }

/-- The translating slice of a cell (R336). -/
def translatingSlice (pid : Nat) : Nat :=
  let c := cellNoOf pid
  dieOf pid * 64 + (if c / 16 < 8 then c % 16 else 32 + c % 16)

/-- Whether a cache entry covers an address of an address space. -/
def Tlb.covers (e : Tlb) (asid va : Nat) : Bool := e.job == asid && va / 2 ^ pageBits e.level == e.vpage

/-- A lookup in a slice's translation cache; a write needs WRITE, and an entry without it is looked up again by a
walk, which faults (R336, R339). -/
def State.tlbFind (s : State) (slice asid va : Nat) (write : Bool) : Option Tlb :=
  (s.slice slice).tlb.find? fun e => e.covers asid va && (!write || fld e.pte 2 1 == 1)

/-- Marks an entry most recently used: it moves to the end (R336). -/
def State.tlbTouch (s : State) (slice : Nat) (e : Tlb) : State :=
  s.modSlice slice fun x => { x with tlb := (x.tlb.filter fun y => !(y == e)) ++ [e] }

/-- A use of the entry that translates an address at a slice's cache (R336). -/
def State.useXlate (s : State) (slice job va access : Nat) : State :=
  match s.tlbFind slice (((s.job job).map Job.asid).getD 0) va (needsWrite access) with
  | some e => s.tlbTouch slice e
  | none => s

/-- Fills an entry: 8 to a set, the least recently used of the set leaves (R336). The set of a page is not given;
below 8 entries in all no set can be full (log 7). -/
def State.tlbFill (s : State) (slice : Nat) (e : Tlb) : State :=
  s.modSlice slice fun x =>
    let t := x.tlb.filter fun y => !(y.job == e.job && y.level == e.level && y.vpage == e.vpage)
    if t.length < 8 then { x with tlb := t ++ [e] }
    else
      let set := fun (y : Tlb) => Config.tlbSet y.job y.level y.vpage % 64
      let same := t.filter fun y => set y == set e
      match same with
      | [] => { x with tlb := t ++ [e] }
      | old :: _ => { x with tlb := (if same.length < 8 then t else t.filter fun y => !(y == old)) ++ [e] }

/-- The address-space identifier of a job. -/
def State.asid (s : State) (job : Nat) : Nat := ((s.job job).map Job.asid).getD 0

/-- The outcome of a translation at a slice's cache. -/
inductive Xlate
  | hit (p : Phys)
  | miss
  deriving DecidableEq, Repr

/-- Translation at a slice's cache (R336). -/
def State.xlate (s : State) (slice job va access : Nat) : Xlate :=
  match s.tlbFind slice (s.asid job) va (needsWrite access) with
  | some e => .hit (physOf e.pte e.level va)
  | none => .miss

/-- Joins a requester to the die's miss queue, to a walk of the same page of the job if there is one (R338); a full queue takes
nothing. A page whose fault is pending is walked again for a new requester, which joins the fault only if its own walk faults
(R339); one that waits for that fault's service asks for no walk. -/
def State.joinMiss (s : State) (slice job va access : Nat) (who : Requester) : State :=
  let d := slice / 64
  let ms := (s.die d).misses
  let w : Waiter := { who, slice, access, va }
  let page := fun (m : Miss) => m.job == job && m.page == va / 65536
  let same := fun (m : Miss) => page m && !m.faulted
  if ms.any fun m => page m && m.faulted && m.who.any fun x => x.who == who then s
  else if ms.any same then
    let join := fun (m : Miss) => if same m && !m.who.contains w then { m with who := m.who ++ [w] } else m
    s.modDie d fun x => { x with misses := x.misses.map join }
  else if 4096 ≤ ms.length then s
  else s.modDie d fun x => { x with misses := x.misses ++ [{ job, page := va / 65536, who := [w] }] }

/-- What a requester finds of its miss: not taken by a full queue, walking or queued, or a pending fault. -/
inductive MissLook
  | full
  | queued
  | faulted
  deriving DecidableEq, Repr

def State.missLook (s : State) (slice : Nat) (who : Requester) : MissLook :=
  match (s.die (slice / 64)).misses.find? fun m => m.who.any fun w => w.who == who with
  | none => .full
  | some m => if m.faulted then .faulted else .queued

/-! ## Windows, poison and performing a write -/

/-- A window counts at a clk: it is armed, or it triggered in this very clk, in which counted writes add in one step, or AWDIS
disarmed it in this clk, in which counted writes come first (R219, R221). -/
def Win.counting (w : Win) (clk : Nat) : Bool :=
  match w.state with
  | .armed => true
  | .triggered => w.trigAt == clk
  | .disarmed => w.dis.any fun d => d.at_ == clk

/-- Bytes of [va, va + n) inside the range of a window that counts (R219). -/
def Win.covers (w : Win) (job va n clk : Nat) : Nat :=
  if w.counting clk && w.job == job then
    min (va + n) (w.base + 64 * w.len) - max va w.base
  else 0

/-- The armed windows that count a write of `n` bytes at a job's address: window id and bytes (R219). -/
def State.windowHits (s : State) (job va n : Nat) : List (Nat × Nat) :=
  s.slices.flatMap fun e => e.2.wins.filterMap fun w =>
    let b := w.2.covers job va n s.clk
    if b == 0 then none else some (e.1 * 64 + w.1, b)

/-- A window by its number: slice id * 64 + window. -/
def State.win (s : State) (w : Nat) : Win := look {} (s.slice (w / 64)).wins (w % 64)
def State.setWin (s : State) (w : Nat) (x : Win) : State :=
  s.modSlice (w / 64) fun k => { k with wins := ins k.wins (w % 64) x }

/-- A trigger wakes the contexts that wait for the window, those of an evicted region included (R194). -/
def State.wakeWin (s : State) (w : Nat) : State :=
  let hit := fun (_ : Nat) (c : Ctx) =>
    if c.waitWin == w && (c.state == .window || (c.state == .parked && c.saved == .window)) then { c with waitHit := true }
    else c
  { s with
    ctxs := mapTab hit s.ctxs
    regions := mapTab (fun _ (r : Region) => { r with savedCtxs := mapTab hit r.savedCtxs }) s.regions }

/-- Counts of a window that are still on their way count nothing once it is disarmed or has triggered (R219, R221). -/
def State.dropCounts (s : State) (w : Nat) : State :=
  s.modDie (w / 64 / 64) fun d => { d with counts := d.counts.filter fun h => !(h.1 == w) }

/-- A window triggers: its actions go on their way, and the contexts that wait for it wake (R194, R220). -/
def State.trigger (s : State) (w k : Nat) : State :=
  let x := s.win w
  let act : WinAct := { win := w, action := x.action, arg0 := x.arg0, arg1 := x.arg1, job := x.job, recAddr := x.recAddr }
  (s.modDie (w / 64 / 64) fun d => { d with actions := d.actions ++ List.replicate k act }).wakeWin w

/-- A count of the clk in which AWDIS disarmed the window: it came first, so it may trigger the window and is part of the count
that AWDIS returns (R221). -/
def State.winLate (s : State) (w n : Nat) (x : Win) (d : Disarm) : State :=
  let c := x.count + n
  let fires := d.armed && decide (x.total ≤ c)
  let count := if fires && x.rearm then c % x.total else c
  let s := s.setWin w { x with count, dis := some { d with armed := d.armed && (x.rearm || !fires) } }
  let s := s.lateWrite d.pid d.tid d.fid (fun s => s.setS d.pid d.reg (w64 count)) fun r => r.wS d.reg (w64 count)
  if fires then s.trigger w (if x.rearm then c / x.total else 1) else s

/-- Adds counted bytes to a window; one that does not count adds nothing. At TOTAL it triggers, once or, rearming, as
often as the count allows (R219 to R221). -/
def State.winAdd (s : State) (w n : Nat) : State :=
  let x := s.win w
  let c := x.count + n
  if !x.counting s.clk then s
  else
    match x.state, x.dis with
    | .disarmed, some d => s.winLate w n x d
    | _, _ =>
      if x.state == .triggered || c < x.total then s.setWin w { x with count := c }
      else
        let k := if x.rearm then c / x.total else 1
        let s := if x.rearm then s.setWin w { x with count := c % x.total }
          else (s.setWin w { x with count := c, state := .triggered, trigAt := s.clk }).dropCounts w
        s.trigger w k

/-- Counts a write made at a slice: at once in that slice's windows, on arrival in other slices' (R219), and sets the
touched bit of the writing take (R221). -/
def State.countHits (s : State) (home : Nat) (tids : List Nat) (hits : List (Nat × Nat)) : State :=
  if hits.isEmpty then s
  else
    let s := s.fold hits fun s h =>
      if h.1 / 64 == home then s.winAdd h.1 h.2
      else s.modDie (h.1 / 64 / 64) fun d => { d with counts := d.counts ++ [h] }
    s.fold tids fun s tid => s.modTake tid fun t => { t with touched := true }

/-- The counts of one write to each window, added up. -/
def sumHits : List (Nat × Nat) → Tab Nat → List (Nat × Nat)
  | [], t => t
  | h :: r, t => sumHits r (ins t h.1 (look 0 t h.1 + h.2))

/-- A job's MEMB bucket at a slice is not empty; requests that the slice serves are charged with their bytes (R272; log 36). The
slices of other packages keep their own. -/
def State.memBudget (s : State) (home job : Nat) : Bool :=
  let limit := (((s.job job).bind fun j => j.contract[home / 64]?).map Contract.memb).getD 0
  decide (512 ≤ home) || decide (look 0 (s.slice home).memb job < (limit + 63) / 64)
def State.charge (s : State) (home job n : Nat) : State :=
  if job == 0 || 512 ≤ home then s
  else s.modSlice home fun x => { x with memb := ins x.memb job (look 0 x.memb job + n) }

/-- A write to perform: physical key, home slice, bytes, the job's address it was
made at, and its writer (plane id + 1, or 0). -/
structure Wr where
  key : Nat
  home : Nat
  data : List Byte
  job : Nat
  va : Nat
  tid : Nat
  writer : Nat
  /-- Bytes that count in windows, where not all do (R214, R219). -/
  cnt : Option Nat := none
  deriving DecidableEq, Repr

/-- Poisoned lines (R389). -/
def State.poisoned (s : State) (key : Nat) : Bool := s.poison.contains (lineOf key)
/-- A line reads as poisoned: it is, or its home die is fenced (R389, R392). No rule says what becomes of another die's write to
memory that is homed on a fenced die: it performs, and is never seen (DESIGN CHOICE, log 61). -/
def State.unreadable (s : State) (home key : Nat) : Bool := s.poisoned key || (s.die (home / 64)).fenced

/-- A write that covers all 64 bytes of a line clears its poison (R389). -/
def State.clearPoison (s : State) (key n : Nat) : State :=
  if key % 64 == 0 && 64 ≤ n then { s with poison := s.poison.filter fun l => !(l == lineOf key) } else s

/-- The runs of dirty bytes of a line as byte offsets and lists, one byte each (R208). -/
def StashLine.dirtyBytes (l : StashLine) : List (Nat × Byte) :=
  (List.range 64).filterMap fun i =>
    if l.dirty.getLsbD i then some (i, l.data.extractLsb' (8 * i) 8) else none

/-- Drops every other plane's copy of a line and gives the dropped lines (R207). -/
def State.dropCopies (s : State) (line writer : Nat) : State × List (Nat × StashLine) :=
  let gone := s.planes.flatMap fun e =>
    if e.1 + 1 == writer then []
    else (e.2.stash.filter fun l => l.key == line * 64).map fun l => (e.1, l)
  if gone.isEmpty then (s, [])
  else
    let keep := fun (k : Nat) (p : Plane) =>
      if k + 1 == writer then p else { p with stash := p.stash.filter fun l => !(l.key == line * 64) }
    let left := fun (_ : Nat) (x : Slice) =>
      { x with dir := put ([], false) x.dir line ((look ([], false) x.dir line).1.filter fun h => h + 1 == writer, false) }
    ({ s with planes := mapTab keep s.planes, slices := mapTab left s.slices }, gone)

/-- The writer's own copy of the line takes the bytes: its later reads follow the write (R222; log 20). -/
def StashLine.refresh (l : StashLine) (key : Nat) (data : List Byte) : StashLine :=
  let off := key % 64
  let n := data.length
  if n == 0 then l
  else
    let mask : Gran := BitVec.ofNat 512 ((2 ^ (8 * n) - 1) * 2 ^ (8 * off))
    let new : Gran := BitVec.ofNat 512 (leNat data * 2 ^ (8 * off))
    let bits : BitVec 64 := BitVec.ofNat 64 ((2 ^ n - 1) * 2 ^ off)
    { l with data := (l.data &&& ~~~mask) ||| (new &&& mask), dirty := l.dirty &&& ~~~bits, bad := l.bad &&& ~~~bits }

def State.refreshOwn (s : State) (w : Wr) : State :=
  if w.writer == 0 then s
  else s.modPlane (w.writer - 1) fun p =>
    { p with stash := p.stash.map fun l => if l.key == lineOf w.key * 64 then l.refresh w.key w.data else l }

/-- Applies a write at its home: bytes, poison and window counts; no copy is left to invalidate (R203, R219). -/
def State.applyWrite (s : State) (w : Wr) : State :=
  ((((s.charge w.home w.job w.data.length).setBytes w.key w.data).clearPoison w.key w.data.length).refreshOwn w).countHits w.home [w.tid]
    (s.windowHits w.job w.va (w.cnt.getD w.data.length))

/-- The dirty bytes of a dropped line, performed after the write that dropped it (R207, R208): one write for
each line, so a line wholly dirty clears its poison. -/
def State.applyDirty (s : State) (pid : Nat) (l : StashLine) : State :=
  let bs := l.dirtyBytes
  if bs.isEmpty then s
  else
    let s := s.charge (dieOf pid * 64 + homeSlice (l.key % 2 ^ 64)) l.job bs.length
    let s := s.fold bs fun s b => s.setByte (l.key + b.1) b.2
    let s := if bs.length == 64 then s.clearPoison l.key 64 else s
    s.countHits (dieOf pid * 64 + homeSlice (l.key % 2 ^ 64)) l.tids
      (sumHits (bs.flatMap fun b => s.windowHits l.job (l.vline * 64 + b.1) 1) [])

/-- A write performs: every other copy of its line is invalidated first, then the write applies, and the dirty
bytes of the dropped copies perform after it, which invalidates the writer's own copy where another plane's bytes
land (R203, R207). -/
def State.performWrite (s : State) (w : Wr) : State :=
  let (s, gone) := s.dropCopies (lineOf w.key) w.writer
  let s := s.applyWrite w
  let dirty := gone.filter fun g => g.2.dirty != 0
  if dirty.isEmpty then s
  else
    let (s, own) := s.dropCopies (lineOf w.key) 0
    let s := s.fold dirty fun s g => s.applyDirty g.1 g.2
    s.fold own fun s g => s.applyDirty g.1 g.2

/-! ## The stash (R205 to R209) -/

/-- Sets of a plane's stash (R205). -/
def Plane.sets (p : Plane) : Nat := p.stashSize / 512

/-- Finds a line by its virtual address (R205). -/
def Plane.stashFind (p : Plane) (job va : Nat) : Option StashLine :=
  p.stash.find? fun l => l.vline == va / 64 && l.job == job

/-- Replaces a line and makes it most recently used (R205). -/
def Plane.stashPut (p : Plane) (l : StashLine) : Plane :=
  { p with stash := (p.stash.filter fun x => !(x.vline == l.vline && x.job == l.job)) ++ [l] }

/-- Writes back the dirty bytes of one line of a plane's stash; the line stays (R208). The write is the holder's,
so only other planes' copies are invalidated. -/
def State.writeBackLine (s : State) (pid : Nat) (l : StashLine) : State :=
  if l.dirty == 0 then s
  else
    let (s, gone) := s.dropCopies (lineOf l.key) (pid + 1)
    let s := s.applyDirty pid l
    let clean := fun (x : StashLine) => if x.vline == l.vline && x.job == l.job then { x with dirty := 0, tids := [] } else x
    let s := s.modPlane pid fun p => { p with stash := p.stash.map clean }
    let dirty := gone.filter fun g => g.2.dirty != 0
    if dirty.isEmpty then s
    else
      let (s, _) := s.dropCopies (lineOf l.key) 0
      s.fold dirty fun s g => s.applyDirty g.1 g.2

/-- Writes back every dirty line of a plane's stash (R208). -/
def State.writeBack (s : State) (pid : Nat) : State :=
  s.fold (s.plane pid).stash fun s l =>
    match (s.plane pid).stash.find? fun x => x.vline == l.vline && x.job == l.job with
    | none => s
    | some x => s.writeBackLine pid x

/-- Writes back a plane's own dirty copy of one line, if it holds one. -/
def State.flushLine (s : State) (pid job va : Nat) : State :=
  match (s.plane pid).stashFind job va with
  | none => s
  | some l => s.writeBackLine pid l

/-- A line of a stash with bytes of a take's store in it, which are dirty (R206, R221). -/
def StashLine.store (l : StashLine) (tid ea : Nat) (bs : List Byte) : StashLine :=
  let bits : BitVec 64 := BitVec.ofNat 64 ((2 ^ bs.length - 1) * 2 ^ (ea % 64))
  let l' := l.refresh ea bs
  { l' with dirty := l.dirty ||| bits, tids := if l.tids.contains tid then l.tids else l.tids ++ [tid] }

/-- Removes a line from the directory's holders when the plane no longer keeps it. -/
def State.dirDrop (s : State) (pid : Nat) (home line : Nat) : State :=
  s.modSlice home fun x =>
    let (hs, bc) := look ([], false) x.dir line
    { x with dir := put ([], false) x.dir line (hs.filter fun h => !(h == pid), bc) }

/-- Entries that a slice's directory surely holds: 128 KiB in lines of 64 bytes (R207; log 7). -/
def dirRoom : Nat := 2048

/-- Makes room for a line that the directory does not track: once it may be full, an entry leaves and its holders are
invalidated as by a write (R207). -/
def State.dirEvict (s : State) (home line : Nat) : State :=
  let d := (s.slice home).dir
  if d.length < dirRoom || (find d line).isSome then s
  else
    match d[Config.dirVictim home line d.length]? with
    | none => s
    | some (old, _) =>
      let (s, gone) := s.dropCopies old 0
      let s := s.fold (gone.filter fun g => g.2.dirty != 0) fun s g => s.applyDirty g.1 g.2
      s.modSlice home fun x => { x with dir := del x.dir old }

/-- Records a holder: four by name, a fifth sets the broadcast bit (R207). -/
def State.dirAdd (s : State) (pid : Nat) (home line : Nat) : State :=
  s.modSlice home fun x =>
    let (hs, bc) := look ([], false) x.dir line
    let v := if hs.contains pid then (hs, bc) else if hs.length < 4 then (hs ++ [pid], bc) else (hs, true)
    { x with dir := put ([], false) x.dir line v }

/-- Drops one line, written back first (R209). -/
def State.stashDrop (s : State) (pid : Nat) (l : StashLine) : State :=
  let s := s.writeBackLine pid l
  s.modPlane pid fun p => { p with stash := p.stash.filter fun x => !(x.vline == l.vline && x.job == l.job) }

/-- Fills a line from its home, evicting the least recently used line of a full set (R205, R206). -/
def State.stashFill (s : State) (pid job va : Nat) (ph : Phys) : State :=
  let p := s.plane pid
  let line := va / 64
  let set := p.stash.filter fun l => l.vline % p.sets == line % p.sets
  let s := match set with
    | old :: _ => if 8 ≤ set.length then s.stashDrop pid old else s
    | [] => s
  let key := ph.key / 64 * 64
  let data : Gran := BitVec.ofNat 512 (s.num key 64)
  let s := (s.dirEvict (ph.die * 64 + ph.slice) (lineOf key)).charge (ph.die * 64 + ph.slice) job 64
  let s := s.modPlane pid fun p => p.stashPut { vline := line, job, key, data, bad := if s.poisoned key then BitVec.allOnes 64 else 0 }
  s.dirAdd pid (ph.die * 64 + ph.slice) (lineOf key)

end Sys2Proof.Machine
end

