-- ==== Sys2Proof/Machine/RingOps.lean ====
section
/-!
DEFINITION. Rings: slots, windows, claims, commits, retires and reclamation (06_rings, R97 to R114).
A slot's sideband has one home, the cell's sideband store at the granule the slot occupies (R97, R101).
-/
namespace Sys2Proof.Machine

/-- Size of a ring in granules (R100). -/
def Ring.size (r : Ring) : Nat := 2 ^ r.lg
/-- FREE (R101). -/
def Ring.free (r : Ring) : Nat := r.size - (r.tail - r.reclaim)
/-- The granule key of a slot: the cell's granules are keyed cell id * 1024 + granule (R100). -/
def Ring.gran (r : Ring) (n : Nat) : Nat := (r.die * 256 + r.cell) * 1024 + r.base + n % r.size
/-- Whether a branch is live (R110). -/
def Ring.isLive (r : Ring) (branch : Nat) : Bool := r.live.getLsbD branch
def Ring.cid (r : Ring) : Nat := r.die * 256 + r.cell
def Ring.key (r : Ring) : Nat := ringKey r.cid r.base

/-! Sideband fields (R97). -/
def sideMark (w : Side) : Nat := fld w 13 3
def sideFmt (w : Side) : Nat := fld w 10 3
def sideValid (w : Side) : Nat := fld w 4 6
def sideColour (w : Side) : Nat := fld w 0 4
/-- A sideband from its fields (R97). -/
def mkSide (mark fmt valid colour : Nat) : Side :=
  BitVec.ofNat 16 (mark % 8 * 8192 + fmt % 8 * 1024 + valid % 64 * 16 + colour % 16)
/-- The level of a mark code (R98). -/
def markLevel (m : Nat) : Nat := if 1 ≤ m && m ≤ 4 then m else 0
/-- Whether a mark has level at least `l`. -/
def levelAtLeast (m l : Nat) : Bool := l ≤ markLevel m

/-- The 64-bit binding word of a ring's place (R107, R183, R388). -/
def Ring.word (r : Ring) (branch dtag : Nat) : Word :=
  w64 (dtag % 8 * 2 ^ 36 + branch % 8 * 2 ^ 32 + r.lg % 16 * 2 ^ 28 + r.base % 1024 * 2 ^ 18
    + r.cell / 16 % 16 * 16 + r.cell % 16)

variable (s : State)

/-- The sideband and the data of a slot. -/
def State.side (r : Ring) (n : Nat) : Side := look 0 s.sideband (r.gran n)
def State.gran (r : Ring) (n : Nat) : Gran := look 0 s.bank (r.gran n)
def State.setSide (r : Ring) (n : Nat) (w : Side) : State := { s with sideband := put 0 s.sideband (r.gran n) w }
def State.setGran (r : Ring) (n : Nat) (g : Gran) : State := { s with bank := put 0 s.bank (r.gran n) g }

/-- Whether a branch has retired a slot. -/
def Slot.gone (x : Slot) (branch : Nat) : Bool := x.retired.getLsbD branch

/-- The slots of a branch that a firing of a colour sees, oldest first: claimed or filled, not retired by the branch,
of the colour on a by-colour ring (R102, R103). -/
def State.visible (r : Ring) (branch colour : Nat) : List Nat :=
  r.slots.filterMap fun e =>
    if !e.2.gone branch && (r.shared || sideColour (s.side r e.1) == colour) then some e.1 else none

/-- Whether a slot is filled. -/
def Ring.isFilled (r : Ring) (n : Nat) : Bool := (look {} r.slots n).filled

/-- The consumer window of `nw` slots beyond those in `skip`, when it is present (R103). -/
def State.windowPast (skip : List Nat) (r : Ring) (branch colour nw : Nat) : Option (List Nat) :=
  let w := ((s.visible r branch colour).filter fun n => !skip.contains n).take nw
  if w.length == nw && w.all r.isFilled then some w else none

/-- The consumer window of `nw` slots, when it is present (R103). -/
def State.window (r : Ring) (branch colour nw : Nat) : Option (List Nat) := s.windowPast [] r branch colour nw

/-- The handle that names the head ring of a region: its `.script` handle in cell 0 of the region, in the region's plane or,
while it is evicted, in its image (R174, R332). -/
def State.headHandleOf (r : Region) : Option Handle :=
  let p := s.plane (pidOf r.die (topCell r.core) r.image.plane)
  if p.owner == r.key then find p.h r.image.headHandle
  else (r.saved.find? fun c => c.dx == 0 && c.dy == 0).bind fun c => find c.plane.h r.image.headHandle

/-- A parse context that reads this ring as its head ring has not passed a slot of its colour: POS is not beyond it (R101,
R174). A slot that a purge or KILL retired for every branch is no terminal and is not waited for (R114, R195). -/
def State.headHolds (r : Ring) (n : Nat) : Bool :=
  !(look {} r.slots n).void && s.takes.any fun e =>
    let t := e.2
    let c := s.takeCtx t
    t.colour == sideColour (s.side r n) && t.job == r.job && c.tid == t.tid && decide (c.pos ≤ n)
      && (((s.region t.region).bind s.headHandleOf).map fun h => !s.farAway h && h.key == r.key).getD false

/-- Every live branch has retired a filled slot; with no live branch a filled slot is retired (R101, R106). -/
def Ring.done (r : Ring) (n : Nat) : Bool :=
  let x := look {} r.slots n
  x.filled && (r.live &&& ~~~x.retired) == 0

/-- The live branches that see an unretired filled slot (R111). -/
def Ring.occupied (r : Ring) (b : Nat) : Bool := r.slots.any fun e => e.2.filled && !e.2.gone b

/-- Reclaims from RECLAIM up: each slot that every live branch has retired and that holds no parse position
(R101). `n` bounds the slots. -/
def State.reclaimFrom (r : Ring) : Nat → Ring
  | 0 => r
  | n + 1 =>
    if r.reclaim < r.tail && r.done r.reclaim && !s.headHolds r r.reclaim then
      State.reclaimFrom { r with slots := del r.slots r.reclaim, reclaim := r.reclaim + 1 } n
    else r

/-- Slots whose last live branch has retired them and whose leaving was not yet seen (R106). -/
def Ring.leaving (r : Ring) : List Nat :=
  r.slots.filterMap fun e => if r.done e.1 && !e.2.left then some e.1 else none

/-- The test that frees a cell's plane (R28): an EOT has left, rings are empty, no firing runs, waits or is parked
there, no token waits there or is withdrawn from there, no matrix work is queued. A token on its way to the cell holds
the plane as one that waits there does: R28 names only the buffer and the park area (DESIGN CHOICE, log 38). -/
def State.planeIdle (pid : Nat) : Bool :=
  let p := s.plane pid
  !p.running && p.tokens.isEmpty && p.mq.isEmpty && p.user.drain.isNone && p.handler.drain.isNone
    && p.user.release.isNone && p.handler.release.isNone && p.ownParks.isEmpty
    && s.rings.all (fun e => !(e.2.pid == pid) || e.2.slots.isEmpty)
    && s.takes.all (fun e => e.2.parked.all fun k => !(k.pid == pid))
    && (s.core (coreOf pid)).park.all (fun k => !(k.1 == pid))
    && s.cores.all (fun e => e.2.tokQ.all fun k => !(k.1 == pid))

/-- The log entries of a plane's registers go: a load, a restore or a release of the whole files leaves none that holds a last
write (log 41). -/
def State.forgetLog (pid : Nat) : State :=
  s.modCell (cellOf pid) fun c => { c with log := c.log.filter fun e => !(e.plane == planeNoOf pid) }

/-- Frees one plane: rings, handles, shares and stash go; memory operations and commits already issued stay (R28, R83),
with the kill horizons that those commits meet (R195). -/
def State.freePlane (pid : Nat) : State :=
  let s := (s.writeBack pid).forgetLog pid
  let s := { s with rings := s.rings.filter fun e => !(e.2.pid == pid) }
  s.modPlane pid fun p =>
    { ({} : Plane) with
      memq := p.memq, commits := p.commits, kills := p.kills.filter fun k => p.commits.any fun c => c.tid == k.1 }

/-- Tears a region down once its last cell is freed: the region leaves the table, with its script share (R28). -/
def State.tearDown (k : Nat) : State :=
  match s.region k with
  | none => s
  | some _ =>
    { s with exits := s.exits.filter fun e => !(e.region == k) }.modRegion k fun r =>
      { r with place := .torn, cellsLeft := [], condemned := false }

/-- Whether a cell still to be freed of a region holds a ring of the plane (R28). -/
def State.ringLeft (r : Region) : Bool :=
  r.cellsLeft.any fun c => s.rings.any fun e => e.2.pid == pidOf r.die c r.image.plane

/-- A cell's plane is freed, and the region is torn down with its last cell (R28). -/
def State.freeCell (key pid : Nat) : State :=
  let s := (s.freePlane pid).modRegion key fun r => { r with cellsLeft := r.cellsLeft.filter fun c => !(c == cellNoOf pid) }
  match s.region key with
  | none => s
  | some r => if r.cellsLeft.isEmpty then s.tearDown key else s

/-- PLANE_FREE (R28): frees the plane of a cell when its conditions hold. The cells of the region that hold no ring of the
plane follow the last cell that does, each one as soon as no firing and no token is there. -/
def State.planeFree (pid : Nat) : State :=
  let p := s.plane pid
  match s.region p.owner with
  | none => s
  | some r =>
    if p.eotLeft && s.planeIdle pid && r.place == .eligible then
      let s := s.freeCell r.key pid
      match s.region r.key with
      | none => s
      | some r =>
        if s.ringLeft r then s
        else s.fold r.cellsLeft fun s c =>
          let q := pidOf r.die c r.image.plane
          if s.planeIdle q then s.freeCell r.key q else s.modPlane q fun p => { p with eotLeft := true }
    else s

/-- What the ring controller does when retires have reached it: EOT granules leave, slots are reclaimed, and a plane
whose last granule left may be freed (R101, R106, R28). -/
def State.reclaim (key : Nat) : State :=
  match s.ring key with
  | none => s
  | some r =>
    let out := r.leaving
    let eot := out.any fun n => sideMark (s.side r n) == 4
    let r1 := { r with slots := mapTab (fun n x => if out.contains n then { x with left := true } else x) r.slots }
    let r2 := s.reclaimFrom r1 r1.slots.length
    let s := s.setRing key r2
    let s := if eot then s.modPlane r.pid fun p => { p with eotLeft := true } else s
    s.planeFree r.pid

/-- A granule of the ring's job moves (R30). -/
def State.noteRing (key : Nat) : State :=
  match s.ring key with
  | none => s
  | some r => s.note r.job r.die

/-- A branch retires slots (R101, R110); the branch's detach clock restarts (R111). -/
def State.retire (key branch : Nat) (ns : List Nat) : State :=
  (s.noteRing key).modRing key fun r =>
    { r with
      slots := mapTab (fun n x => if ns.contains n then { x with retired := x.retired ||| (1#8 <<< branch) } else x) r.slots
      since := ins r.since branch s.clk }

/-- The BAD slot of a detached branch is retired (R111). -/
def State.retireBadSlot (key branch : Nat) : State :=
  s.modRing key fun r =>
    { r with bad := mapTab (fun b k => if b == branch then { k with retired := true } else k) r.bad }

/-- Slots count as retired by every branch, claimed ones included (R114, R195, R401). -/
def Ring.voidSlots (r : Ring) (ns : List Nat) : Ring :=
  { r with
    slots := mapTab (fun n x =>
      if ns.contains n then { x with filled := true, retired := 0xFF, void := true } else x) r.slots }
def State.retireAll (key : Nat) (ns : List Nat) : State := s.modRing key fun r => r.voidSlots ns

/-- Slots that are gone count as retired by every branch, and the claims that `sel` selects and those granted such slots are
withdrawn (R114, R401). -/
def Ring.purged (r : Ring) (gone : List Nat) (sel : ClaimReq → Bool) : Ring :=
  { r.voidSlots gone with
    queue := r.queue.filter fun q => !sel q
    granted := r.granted.filter fun g => !(g.2.any gone.contains) }

/-- Whether claims of `nw` slots can be granted now: whole, and behind no waiting claim (R104). -/
def Ring.canGrant (r : Ring) (nw : Nat) : Bool := r.queue.isEmpty && nw ≤ r.free

/-- The place of a claimant among those that claim in one clk: cells in ascending die cell number, the lower plane first,
then streamers by ascending slice (R114, R242); none for a claimant that the spec does not order. -/
def Claimant.place : Claimant → Option Nat
  | .firing pid _ _ | .drain pid _ => some (pid % 1024 + 1)
  | .stream sc => some (1025 + sc / 32 % 64)
  | .script _ | .bridge _ _ => none

/-- A claim whose place in the clk has passed: one behind it has been granted in this clk. It counts as arriving in the
next clk (R114). -/
def Ring.passedPlace (r : Ring) (who : Claimant) (clk : Nat) : Bool :=
  r.lastGrant.1 == clk && (who.place.map fun k => decide (k < r.lastGrant.2)).getD false

/-- Notes a grant in the order of R114. -/
def Ring.noteGrant (r : Ring) (who : Claimant) (clk : Nat) : Ring :=
  match who.place with
  | none => r
  | some k => { r with lastGrant := (clk, k) }

/-- A waiting claim stands behind those that came before it, and behind those of the same clk that go first (R104,
R114). -/
def insertClaim (q : ClaimReq) : List ClaimReq → List ClaimReq
  | [] => [q]
  | x :: r =>
    let first := q.came == x.came && (match q.who.place, x.who.place with | some a, some b => decide (a < b) | _, _ => false)
    if first then q :: x :: r else x :: insertClaim q r

/-- Grants a claim: the next `nw` slots, each with MARK 0, the claimant's tag and colour and VALID 0; data bytes are
left as they were (R117). -/
def State.grant (key nw dtag colour tid fid : Nat) : State × List Nat :=
  match s.ring key with
  | none => (s, [])
  | some r =>
    let ns := (List.range nw).map fun i => r.tail + i
    let slots := ns.foldl (fun t n => ins t n { tid, fid }) r.slots
    let s := s.fold ns fun s n => s.setSide r n (mkSide 0 dtag 0 colour)
    (s.setRing key { r with tail := r.tail + nw, slots }, ns)

/-- A waiting claim joins the ring's queue, once (R104). -/
def State.enqueueClaim (key : Nat) (q : ClaimReq) : State :=
  s.modRing key fun r =>
    if r.queue.any fun x => { x with came := q.came } == q then r
    else { r with queue := insertClaim { q with came := s.clk } r.queue }

/-- A claim of `nw` slots: granted now, or waiting in the ring's queue (R104); the slots where it is granted. -/
def State.claimNow (key : Nat) (r : Ring) (q : ClaimReq) : State × Option (List Nat) :=
  if r.passedPlace q.who s.clk then (s, none)
  else if r.canGrant q.nw then
    let (s, ns) := s.grant key q.nw q.dtag q.colour q.tid q.fid
    (s.modRing key fun r => r.noteGrant q.who s.clk, some ns)
  else (s.enqueueClaim key q, none)

/-- The slots granted to a claimant that had to wait, which takes them now. -/
def State.takeGranted (key : Nat) (who : Claimant) : Option (State × List Nat) :=
  ((s.ring key).bind fun r => r.granted.find? fun g => g.1 == who).map fun g =>
    (s.modRing key fun r => { r with granted := r.granted.erase g }, g.2)

/-- The region whose exit a ring is, with the copy it belongs to (R330). -/
def State.exitOf (key : Nat) : Option (Exit × Bool) :=
  match s.exits.find? fun e =>
    (e.ring == key || e.shadowRing == key) && ((s.region e.region).map Region.resident).getD false with
  | none => none
  | some e => some (e, e.ring == key)

/-- Slots become filled (R104). With no live branch they count as retired and their space returns at once (R106); a
branch without an earlier filled slot becomes occupied now (R111). -/
def State.fillRaw (key : Nat) (ns : List Nat) : State :=
  let s := (s.noteRing key).modRing key fun r =>
    let since := (List.range 8).foldl (fun t b => if r.occupied b then t else ins t b s.clk) r.since
    { r with
      since
      slots := mapTab (fun n x => if ns.contains n then { x with filled := true, filledAt := s.clk } else x) r.slots }
  match s.ring key with
  | some r => if r.live == 0 then s.reclaim key else s
  | none => s

/-- Slots committed by a cell become filled, or wait for the comparator on an exit ring (R104, R330). -/
def State.fill (key : Nat) (ns : List Nat) (tid cell : Nat) : State :=
  match s.exitOf key with
  | none => s.fillRaw key ns
  | some (e, prim) =>
    let add := ns.map fun n => (tid, n, cell)
    let upd := fun (x : Exit) =>
      if x == e then (if prim then { x with prim := x.prim ++ add } else { x with shad := x.shad ++ add }) else x
    { s with exits := s.exits.map upd }

/-- Whether a commit on a ring must wait for the comparator: 64 granules ahead of the other copy (R330). -/
def State.exitFull (key nw : Nat) : Bool :=
  match s.exitOf key with
  | none => false
  | some (e, prim) => if prim then e.shad.length + 64 < e.prim.length + nw else e.prim.length + 64 < e.shad.length + nw

/-- A live branch leaves (R111 step 1, R112): its unretired slots count as retired, and FREE is recomputed. -/
def State.dropBranch (key branch : Nat) : State :=
  (s.modRing key fun r => { r with live := r.live &&& ~~~(1#8 <<< branch) }).reclaim key

/-- The handles bound to a branch of a ring, over all planes of its die. -/
def State.handlesOn (key branch : Nat) : List (Nat × Nat) :=
  s.planes.flatMap fun e => e.2.h.filterMap fun h =>
    if h.2.key == key && h.2.branch == branch then some (e.1, h.1) else none

/-- Slots between RECLAIM and TAIL that carry a colour (R114, R195, R401). -/
def State.ofColour (r : Ring) (colour : Nat) : List Nat :=
  r.slots.filterMap fun e => if sideColour (s.side r e.1) == colour then some e.1 else none

/-- Claims of the selected claimants are withdrawn: waiting ones leave the queues, and slots granted and not yet taken count as
retired. -/
def State.withdrawClaims (sel : Claimant → Bool) : State :=
  s.fold s.rings fun s e =>
    let mine := fun (g : Claimant × List Nat) => sel g.1
    if e.2.queue.any (fun q => sel q.who) || e.2.granted.any mine then
      let s := s.retireAll e.1 ((e.2.granted.filter mine).flatMap (·.2))
      let s := s.modRing e.1 fun r =>
        { r with queue := r.queue.filter fun q => !sel q.who, granted := r.granted.filter fun g => !mine g }
      s.reclaim e.1
    else s

/-- Slots of a ring that a take claimed and did not fill. -/
def Ring.heldBy (r : Ring) (tid : Nat) : List Nat :=
  r.slots.filterMap fun e => if e.2.tid == tid && !e.2.filled then some e.1 else none

/-- A change of every ring in the image of an evicted region, made with its sidebands (R332). -/
def Region.mapSavedRings (r : Region) (f : SavedCell → Ring → Ring) : Region :=
  { r with saved := r.saved.map fun c => { c with rings := c.rings.map fun e => (e.1, f c e.2) } }

/-- The slots of a colour of a ring in a saved cell: its sidebands stand in the image. -/
def SavedCell.ofColour (c : SavedCell) (r : Ring) (colour : Nat) : List Nat :=
  r.slots.filterMap fun e => if sideColour (look 0 c.sides (r.base + e.1 % r.size)) == colour then some e.1 else none

/-- What a take holds on any ring, rings in the images of evicted regions included: slots that it claimed and did not fill
count as retired by every branch, and its waiting and granted claims are withdrawn (R107, R157, R401). A saved ring settles
when it returns. -/
def State.dropClaims (tid : Nat) : State :=
  let s := { s with regions := mapTab (fun _ (r : Region) =>
    r.mapSavedRings fun _ x => x.purged (x.heldBy tid) fun q => q.tid == tid) s.regions }
  s.fold (s.rings.map (·.1)) fun s k =>
    match s.ring k with
    | none => s
    | some r =>
      let held := r.heldBy tid
      if held.isEmpty && r.queue.all (fun q => q.tid != tid) then s
      else (s.modRing k fun r => r.purged held fun q => q.tid == tid).reclaim k

/-! ## The ring of a stream context (R242, R329) -/

/-- The key of a program's ring on the slice's die. -/
def Prog.ringKeyOn (p : Prog) (die : Nat) : Nat :=
  match p.ring with
  | none => 0
  | some (_, _, _, base, cell) => ringKey (die * 256 + cell) base

/-- The ring of the shadow copy that corresponds to a ring of a paired region (R329). -/
def State.twinKey (key : Nat) : Option Nat :=
  (s.ring key).bind fun x => (s.region (s.plane x.pid).owner).bind fun r => (s.region r.shadow).map fun d =>
    ringKey (r.die * 256 + (x.cell + topCell d.core - topCell r.core)) x.base

/-- The ring key of a context's program: a duplicate's lies in the shadow copy (R329). -/
def State.strKey (sc : Nat) : Nat :=
  let key := (s.stream sc).prog.ringKeyOn (sc / 2048)
  if sc % 32 < 16 then key else (s.twinKey key).getD key

/-- A ring of this key belongs to an evicted region (R332). -/
def State.ringAway (key : Nat) : Bool :=
  s.regions.any fun e => e.2.saved.any fun c => c.rings.any fun r => r.1 == key

/-- The ring of a context's program belongs to an evicted region: the context waits until the plane is restored (R255). -/
def State.strAway (sc : Nat) : Bool :=
  let st := s.stream sc
  if st.far == 0 then (s.ring (s.strKey sc)).isNone && s.ringAway (s.strKey sc)
  else match s.region st.far with
    | none => false
    | some r => !r.resident && !r.saved.isEmpty

/-- The ring of a context's program, where it is there. -/
def State.strRing (sc : Nat) : Option Ring :=
  let st := s.stream sc
  if st.far != 0 && !(((s.region st.far).map Region.resident).getD false) then none else s.ring (s.strKey sc)

/-- The take that a context's stream carries where its program names the colour (CSEL 1): the take that holds it in the region
of the ring (R233, R253). -/
def State.carried (sc : Nat) : Option Nat :=
  let st := s.stream sc
  match st.prog.ring with
  | some (c, true, _, _, _) =>
    (s.strRing sc).map fun r => ((s.takeOf (s.plane r.pid).owner c).map Take.tid).getD 0
  | _ => none

/-- A change of the regions of a region's group whose cells stand in an image, evicted or loading for their restore. -/
def State.modSaved (region : Nat) (f : Region → Region) : State :=
  s.fold ((s.group region).filter fun r => !r.saved.isEmpty) fun s r => s.modRegion r.key f

/-- A change of every plane of a region and its partners, in its cell or in the image of an evicted region (R193, R332). -/
def Region.mapSavedPlanes (r : Region) (f : Plane → Plane) : Region :=
  { r with saved := r.saved.map fun c => { c with plane := f c.plane } }
def State.modGroup (region : Nat) (f : Plane → Plane) : State :=
  (s.fold (s.groupPids region) fun s pid => s.modPlane pid f).modSaved region fun r => r.mapSavedPlanes f

/-- Every plane of a region and its partners, in its cell or in an image, meets a test. -/
def State.allGroup (region : Nat) (f : Plane → Bool) : Bool :=
  (s.groupPids region).all (fun pid => f (s.plane pid)) && (s.group region).all fun r => r.saved.all fun c => f c.plane

/-- Every slot of a colour in the rings of a region and its partners, those in an image included, counts as retired by every
branch, waiting claims of the colour are withdrawn, and the space returns, that of a saved ring when it is restored (R114,
R401). -/
def State.purgeRings (region colour : Nat) : State :=
  let pids := s.groupPids region
  let keys := s.rings.filterMap fun e => if pids.contains e.2.pid then some e.1 else none
  let s := s.modSaved region fun r => r.mapSavedRings fun c x => x.purged (c.ofColour x colour) fun q => q.colour == colour
  s.fold keys fun s k =>
    match s.ring k with
    | none => s
    | some _ => (s.modRing k fun r => r.purged (s.ofColour r colour) fun q => q.colour == colour).reclaim k

end Sys2Proof.Machine
end

