-- ==== Sys2Proof/Machine/Ops.lean ====
section
/-!
DEFINITION. Shared operations: registers of the issuing plane (R58), counters (R261), ending a take's work,
failing and purging a take (R327, R328, R401), taking a trap (R319 to R324) and resolving one (R325).
-/
namespace Sys2Proof.Machine

variable (s : State)

/-! ## Registers of the issuing plane -/

/-- Registers of the issuing plane (R58). -/
def State.rS (n : Nat) : Word := s.pl.regs.rS n
def State.rP (n : Nat) : BitVec 1 := s.pl.regs.rP n
def State.rV (n : Nat) : Vec := s.pl.regs.rV n
def State.rM (n : Nat) : Word := s.pl.regs.rM n
def State.wS (n : Nat) (v : Word) : State := s.setS s.cur n v
def State.wP (n : Nat) (v : BitVec 1) : State := s.setP s.cur n v
def State.wV (n : Nat) (v : Vec) : State := s.setV s.cur n v
def State.wM (n : Nat) (v : Word) : State := s.setM s.cur n v

/-! ## The running firing -/

/-- The firing continues at a word index; the word that transferred control is kept for R51. -/
def State.goto (t : Nat) : State :=
  s.modFiring s.cur fun f => { f with lastPc := f.pc, pc := t, wait := .none }
/-- The firing continues at the next word. -/
def State.adv : State := s.goto (s.pl.firing.pc + 1)
/-- The instruction does not complete: the firing holds its place and waits (R78). -/
def State.hold (k : WaitKind) (arg : Nat) : State :=
  s.modFiring s.cur fun f => { f with wait := k, waitArg := arg }

/-- The running firing's word index. -/
def State.pc : Nat := s.pl.firing.pc

/-! ## Counters (R261) -/

/-- Changes a dependence counter; at zero every slate held on it is released to bidding (R262, R264). -/
def State.setDep (die n : Nat) (v : BitVec 32) : State :=
  let s := s.modDie die fun d => { d with deps := put 0 d.deps n v }
  if v == 0 then
    let free := fun (h : Held) =>
      if !h.released && h.slate.dv && h.slate.dctr == n then { h with released := true, age := s.clk } else h
    s.modDie die fun d => { d with held := d.held.map free }
  else s

/-- Decrements a dependence counter, not below zero (R262). -/
def State.decDep (die n by_ : Nat) : State :=
  let old := look 0 (s.die die).deps n
  s.setDep die n (BitVec.ofNat 32 (old.toNat - by_))

/-- Adds to a timeline counter; an addition that would pass 2^64 - 1 leaves 2^64 - 1 (R261). -/
def State.addTimeline (die n v : Nat) : State :=
  s.modDie die fun d =>
    { d with timelines := put 0 d.timelines n (w64 (min ((look 0 d.timelines n).toNat + v) (2 ^ 64 - 1))) }

/-- A completion action word (R258): kind, UNCOND, die, counter. -/
def actKind (a : Word) : Nat := fld a 0 3
def actUncond (a : Word) : Bool := fld a 3 1 == 1

/-- Runs one completion action; kind 3 posts the entry given (R258). -/
def State.runAct (i : RecInfo) (a : Word) : State :=
  match actKind a with
  | 1 => s.decDep (fld a 8 3) (fld a 16 12) 1
  | 2 => s.addTimeline (fld a 8 3) (fld a 16 8) 1
  | 3 => s.post i
  | _ => s

/-- The entry that completion action 3 posts for a slate that a die serves (R258). -/
def okInfo (die job tag : Nat) : RecInfo := { cls := 0, act := 0, code := 0, unit := unitOfNum die 0 0x14, job, tag }

/-- Runs one completion action of a take; a shadow's are suppressed (R258, R329). -/
def State.runAction (t : Take) (a : Word) : State :=
  if t.shadow then s else s.runAct (s.aboutTake t (okInfo (t.region / 256 % 8) t.job t.slate.tag)) a

/-- Notes a LATENCY cause 1 to 5 that a take met (R274). -/
def State.cause (tid r : Nat) : State := s.modTake tid fun t => { t with causes := t.causes ||| (1#8 <<< r) }

/-! ## Free values and ownership -/

/-- A little-endian number of free bytes, and the state with the counter moved past them (log 5). -/
def State.freeNum (n : Nat) : State × Nat :=
  ({ s with free := s.free + n }, leNat ((List.range n).map fun i => Config.freeByte (s.free + i)))

/-- Whether a window belongs to a job (R215, R370). -/
def State.ownsWindow (job w : Nat) : Bool := ((s.job job).map fun j => j.decl.windows.contains w).getD false

/-! ## Orders of memory (R223, R226) -/

/-- Whether an operation writes (R226). -/
def MemOp.isWrite (o : MemOp) : Bool := match o.kind with | .load => false | .store => true | .atomic _ => true

/-- No write of a firing issued before serial `upTo` is outstanding, an MSAVE that is queued included: a release may take
effect (R223, R169). -/
def Plane.writesDone (p : Plane) (fid upTo : Nat) : Bool :=
  p.memq.all (fun o => !(o.fid == fid && o.isWrite && decide (o.id < upTo)))
    && p.mq.all fun o => !(o.kind == .msave && o.fid == fid && decide (o.id < upTo))

/-- No acquiring operation of the firing is outstanding: later accesses may be made (R223). Acquires are a queued MLOAD so marked
(R169) and a queued operation that has still to read its window (R104, R154). -/
def Plane.acquired (p : Plane) (fid : Nat) : Bool :=
  p.memq.all (fun o => !(o.fid == fid && (o.ord == 1 || o.ord == 3)))
    && p.mq.all fun o => !(o.fid == fid && ((o.kind == .mload && (o.ord == 1 || o.ord == 3)) || (o.useH && !o.took)))

/-- An MSAVE or MLOAD of a firing, queued before serial `upTo` and not yet at its memory operations, has bytes in common
with an access: the two perform in program order (R226, R169). -/
def Plane.behindSave (p : Plane) (fid upTo va n : Nat) : Bool :=
  p.mq.any fun o => (o.kind == .msave || o.kind == .mload) && !o.started && o.fid == fid && decide (o.id < upTo)
    && decide (va < o.d0.toNat + 4096) && decide (o.d0.toNat < va + n)

/-- The running firing has no outstanding write. -/
def State.released : Bool := s.pl.writesDone s.pl.firing.fid s.serial

/-! ## Streams, as far as the end of a take needs them -/

/-- The take that a context's stream acts for: the one that holds COLOUR now where its program names the colour, else that of the
operation it began with (R233, R253, R255). A context in LOAD acts for the firing that issued the SPROG. -/
def State.strTid (sc : Nat) : Nat :=
  let st := s.stream sc
  if st.state == .load || (st.state == .fault && st.back == .load) then st.tid else (s.carried sc).getD st.tid

/-! ### Reading and writing memory for a context (R236, R244, R254, R336) -/

/-- The first address that does not translate at the slice. -/
def State.strMiss (sc access : Nat) (vas : List Nat) : Option Nat :=
  vas.find? fun va => s.xlate (sc / 32) (s.stream sc).job va access == .miss

/-- The place of an address that the slice translates. -/
def State.strPhys (sc access va : Nat) : Phys :=
  match s.xlate (sc / 32) (s.stream sc).job va access with
  | .hit p => p
  | .miss => { key := 0, die := 0, slice := 0 }

/-- The line addresses that `n` bytes from an address touch. -/
def linesFrom (a n : Nat) : List Nat :=
  if n == 0 then [] else (List.range ((a % 64 + n + 63) / 64)).map fun i => (a / 64 * 64 + 64 * i) % 2 ^ 52

/-- Bytes written by a streamer, line by line; each aligned 32-byte sector is whole (R244). -/
def State.strWrite (sc a : Nat) (bs : List Byte) : State :=
  let st := s.stream sc
  s.fold (linesFrom a bs.length) fun s line =>
    let from_ := if line < a then a else line
    let piece := (bs.drop (from_ - a)).take (line + 64 - from_)
    let p := s.strPhys sc 4 from_
    let s := s.useXlate (sc / 32) st.job from_ 4
    s.performWrite { key := p.key, home := p.die * 64 + p.slice, data := piece, job := st.job, va := from_, tid := s.strTid sc,
                     writer := 0 }

/-- The next point of the walk. -/
def Walk.next (w : Walk) : Walk :=
  { w with q := w.q + 1, finished := w.q + 1 == w.total, ahead := w.ahead.filter fun a => w.q < a.q, sectors := [] }

/-- The slot that an SSRC context takes: the oldest filled one that it sees, or the BAD slot of a branch detached by
timeout (R111, R243). -/
inductive SrcSlot
  | none
  | slot (n : Nat) (side : Side) (data : Gran)
  | bad (b : BadSlot)
  deriving DecidableEq, Repr

def State.srcSlot (r : Ring) (branch colour : Nat) : SrcSlot :=
  if !r.isLive branch then
    match find r.bad branch with
    | some k => if k.retired then .none else .bad k
    | none => .none
  else
    match s.window r branch colour 1 with
    | some (n :: _) => .slot n (s.side r n) (s.gran r n)
    | _ => .none

/-- A consumed slot leaves, and the walk goes on or ends after an EOT slot (R243). -/
def State.consumed (sc key branch : Nat) (x : SrcSlot) (fill : Nat) : State :=
  let (s, mark) := match x with
    | .none => (s, 0)
    | .slot n side _ => ((s.retire key branch [n]).reclaim key, sideMark side)
    | .bad k => (s.modRing key fun r => { r with bad := ins r.bad branch { k with retired := true } }, 7)
  s.modStream sc fun st =>
    { st with
      granules := st.granules + 1
      filled := st.filled + (if mark == 7 then 1 else 0) + fill
      walk := { st.walk.next with finished := st.walk.next.finished || mark == 4 } }

/-- The point that an SSRC walk is writing ends: its sectors that have still to perform do so, and its slot is consumed; where one of
them does not translate, the writes still to come are discarded without effect (R250). -/
def State.strSettle (sc : Nat) : State :=
  let st := s.stream sc
  let l := st.walk.sectors
  match s.strRing sc with
  | none => s
  | some r =>
    if l.isEmpty || (s.strMiss sc 4 (l.map (·.1))).isSome then s
    else
      let slot := s.srcSlot r st.prog.branch st.colour
      (s.fold l fun s e => s.strWrite sc e.1 e.2).consumed sc (s.strKey sc) st.prog.branch slot 0

/-! ### Stopping a stream -/

/-- A stream error or completion record (R253): context in detail byte 9. -/
def State.streamRec (sc tid code cls : Nat) (extra : Nat) : State :=
  let st := s.stream sc
  let i : RecInfo := { cls, act := actOf code cls, code, unit := unitOfNum (sc / 2048) (sc / 32 % 64) 0x0D,
                       job := st.job, detail := sc % 16 * 2 ^ 72 + extra }
  match s.take tid with
  | some t => s.postTake t i
  | none => s.post i

/-- The status record of a context (R252). -/
def Stream.statusBytes (st : Stream) (state : Nat) : List Byte :=
  leBytes 8 st.walks ++ leBytes 8 st.granules ++ leBytes 8 st.filled ++ leBytes 8 st.clamps
    ++ leBytes 2 st.lastErr ++ leBytes 1 state ++ leBytes 29 0

/-- The state code of R252. -/
def StrState.code : StrState → Nat
  | .idle => 0 | .load => 1 | .walk => 2 | .held => 3 | .fault => 4

/-- The operation in progress: the first that does not wait for its completion only. -/
def Stream.current (st : Stream) : Option StrOp := st.ops.find? fun o => !o.fin

/-- A program is decoded in the context: it holds or walks it, or waits to walk it (R229). -/
def Stream.decoded (st : Stream) : Bool :=
  st.loaded || st.state == .walk || st.state == .held || (st.state == .fault && st.back != .load)

/-- The take that an operation acts for: a request acts in the colour that the stream carries, every other operation in that of
the firing that issued it (R233, R253, R255). -/
def State.opTid (sc : Nat) (o : StrOp) : Nat :=
  if (o.kind == 1 || o.kind == 2) && (s.stream sc).decoded then (s.carried sc).getD o.tid else o.tid

/-- A context loads or walks, or is stalled in doing so (R229). -/
def Stream.busy (st : Stream) : Bool :=
  let go (x : StrState) : Bool := x == .load || x == .walk
  go st.state || (st.state == .fault && go st.back)

/-- A stream context waits for nothing any more: its miss and its claim are withdrawn (R250). -/
def State.streamForget (sc : Nat) : State :=
  let s := s.modDie (sc / 2048) fun d =>
    let keep := d.misses.map fun m => { m with who := m.who.filter fun w => !(w.who == Requester.stream sc) }
    { d with misses := keep.filter fun m => !m.who.isEmpty }
  s.withdrawClaims fun w => w == .stream sc

/-- Selected operations end with code STOPPED, completing in number order, and a context whose walk or load is among
them becomes IDLE once the point that it is writing has ended (R250, R255); `all` is an SSTOP, which makes a holding context IDLE
too. -/
def State.streamHalt (sc : Nat) (all : Bool) (sel : StrOp → Bool) : State :=
  let st := s.stream sc
  let cur := st.current
  let hit := st.busy && (cur.map sel).getD all
  let stop := fun (o : StrOp) =>
    if !o.fin && sel o then
      { o with fin := true, err := 0x0D09, walked := hit && st.walk.active && cur == some o }
    else o
  let s := (if hit then s.strSettle sc else s).modStream sc fun x => { x with ops := x.ops.map stop }
  if hit || all then
    (s.streamForget sc).modStream sc fun x =>
      { x with state := .idle, back := .idle, walk := {}, loaded := false, stalled := false }
  else s

/-! ## Residencies (R109) -/

/-- The resident window of a handle of a plane. -/
def Plane.residOf (p : Plane) (b : Handle) : Option Resid := if b.resId == 0 then none else find p.resid b.resId

/-- Queued matrix operations still have to read a resident window (R154). -/
def Plane.reading (p : Plane) (id : Nat) : Bool := p.mq.any fun o => o.resId == id && !o.took

/-- What holds a resident window back when its last firing has ended: queued matrix operations that still have to read it
(R154), commits through its handle that its retire may not overtake (R108), and the eviction of its ring (R332). -/
def Plane.holdsBack (p : Plane) (id : Nat) (x : Resid) : Bool :=
  x.far != 0 || p.reading id || p.commits.any fun c => c.h == x.h && c.bind.key == x.key

/-- A resident window ends: its slots, or the BAD slot that it is, are retired once nothing holds it back (R109, R111,
R154). -/
def State.dropResid (pid id : Nat) : State :=
  let p := s.plane pid
  match find p.resid id with
  | none => s
  | some r =>
    if p.holdsBack id r then s.modPlane pid fun p => { p with resid := ins p.resid id { r with ended := true } }
    else
      let s := if r.bad then s.retireBadSlot r.key r.branch
        else if r.slots.isEmpty then s else s.retire r.key r.branch r.slots
      s.modPlane pid fun p => { p with resid := del p.resid id }

/-- A handle without residency. -/
def Handle.clear (b : Handle) : Handle := { b with res := 0, resColour := 0, resTid := 0, resId := 0 }

/-- A residency ends: the handle that still holds its count is cleared, and the window is retired. A handle that was
bound anew since holds another (R114, R121). -/
def State.endResidency (pid id : Nat) : State :=
  (s.modPlane pid fun p =>
    { p with h := mapTab (fun _ b => if b.resId == id then b.clear else b) p.h }).dropResid pid id

/-- The ring that a resident window is on: in its cell, or in the image that it went away with (R332). -/
def State.residRing (x : Resid) : Option Ring :=
  if x.far == 0 then s.ring x.key else (s.region x.far).bind fun r => r.saved.findSome? fun c => find c.rings x.key

/-- The same for a plane in an image: its handles are cleared; a window whose ring went away too is retired when that
returns. -/
def Plane.endSaved (p : Plane) (sel : Resid → Bool) : Plane :=
  let ids := p.resid.filterMap fun e => if sel e.2 then some e.1 else none
  { p with
    h := mapTab (fun _ b => if ids.contains b.resId then b.clear else b) p.h
    resid := (p.resid.filter fun e => !(sel e.2 && e.2.far == 0)).map fun e =>
      if sel e.2 then (e.1, { e.2 with ended := true }) else e }

/-- Residencies that a take owns on by-colour rings are retired; `all` takes those on shared rings too (R109 rule 6,
R401). They are on handles of the take's region and partners, in their cells or in images. -/
def State.endResidencies (t : Take) (all : Bool) : State :=
  let sel := fun (x : Resid) => x.tid == t.tid && (all || !((s.residRing x).map Ring.shared).getD false)
  let saved := (s.group t.region).flatMap fun r => r.saved.flatMap fun c => c.plane.resid.map (·.2)
  let s := s.fold (s.groupPids t.region) fun s pid =>
    s.fold (s.plane pid).resid fun s e => if sel e.2 then s.endResidency pid e.1 else s
  let s := s.fold (saved.filter fun x => sel x && x.far == 0) fun s x =>
    if x.bad then s.retireBadSlot x.key x.branch else if x.slots.isEmpty then s else s.retire x.key x.branch x.slots
  s.modSaved t.region fun r => r.mapSavedPlanes fun p => p.endSaved sel

/-! ## Matrix contexts, as far as the end of a take needs them -/

/-- Clears the accumulator, partial block, KPOS, NBLK and OPEN (R157, R167). -/
def MatCtx.clear (c : MatCtx) : MatCtx :=
  { c with acc := [], partialBlk := [], kpos := 0, nblk := 0, open_ := false, openc := 0, openTid := 0 }

/-- A take's queued operations are discarded with the loads of an MLOAD that has started, its release and drain
abandoned, and the context cleared if the take owns it (R157, R401). -/
def Plane.dropMatrix (p : Plane) (tid : Nat) : Plane :=
  let fix := fun (c : MatCtx) =>
    let c := if c.open_ && c.openTid == tid then c.clear else c
    let c := match c.release with | some r => if r.tid == tid then { c with release := none } else c | none => c
    match c.drain with | some d => if d.tid == tid then { c with drain := none } else c | none => c
  let intoAcc := fun (o : MemOp) => match o.dst with | .acc _ _ => o.tid == tid | .none | .sreg _ | .vreg _ _ => false
  { p with
    mq := p.mq.filter fun o => !(o.tid == tid), memq := p.memq.filter fun o => !intoAcc o,
    user := fix p.user, handler := fix p.handler }

/-- A take that ends by ACCEPT clears the context it still owns, without a drain (R157). -/
def Plane.clearOwned (p : Plane) (tid : Nat) : Plane :=
  let fix := fun (c : MatCtx) => if c.open_ && c.openTid == tid then c.clear else c
  { p with user := fix p.user, handler := fix p.handler }

/-! ## Ending a take's work (R327, R401) -/

/-- What leaves a plane with a take whose work is dropped: its firing stops, its waiting tokens, commits and parks on matrix
ownership are dropped, and its matrix work is discarded (R327, R401). -/
def Plane.strip (p : Plane) (tid : Nat) : Plane :=
  let p := p.dropMatrix tid
  { p with
    running := p.running && !(p.firing.tid == tid)
    tokens := p.tokens.filter fun k => !(k.tid == tid)
    commits := p.commits.filter fun c => !(c.tid == tid)
    ownParks := p.ownParks.filter fun k => !(k.firing.tid == tid)
    kills := p.kills.filter fun k => !(k.1 == tid) }

/-- Tokens of a take leave every core: those withdrawn or under way, its queued trap, and the match tokens that it pushed, in
whatever store or save area they are; the drover drops those that it has not passed on (R268, R327). -/
def State.dropTokens (t : Take) : State :=
  let token := fun (h : Held) => h.released && h.slate.kind == 1 && h.pusherTid == t.tid
  { s with
    cores := mapTab (fun _ (x : Core) =>
      { x with
        park := x.park.filter fun k => !(k.2.tid == t.tid)
        tokQ := x.tokQ.filter fun k => !(k.2.tid == t.tid)
        killQ := x.killQ.filter fun k => !(k.2.1 == t.tid)
        trapQ := x.trapQ.filter fun k => !(k == t.tid)
        store := x.store.filter fun m => !(m.pusher == t.tid)
        spill := x.spill.filter fun m => !(m.pusher == t.tid) }) s.cores
    dies := mapTab (fun _ (d : Die) => { d with held := d.held.filter fun h => !token h }) s.dies
    regions := mapTab (fun _ (r : Region) =>
      { r with
        savedPark := r.savedPark.filter fun k => !(k.2.tid == t.tid)
        savedToks := r.savedToks.filter fun m => !(m.2.pusher == t.tid) }) s.regions }

/-- The queued matrix operations of every plane, in its cell or in an image (R332), and one of them by its number. -/
def State.matOps : List MatOp :=
  (s.planes.flatMap fun e => e.2.mq) ++ s.regions.flatMap fun e => e.2.saved.flatMap fun c => c.plane.mq
def State.matOpOf (op : Nat) : Option MatOp := s.matOps.find? fun o => o.id == op

/-- What a purge and a failure do to the work of a take, in one step at each agent; what stands in the image of an evicted
region of its group goes as what stands in a cell does. -/
def State.dropWork (t : Take) : State :=
  let pids := s.groupPids t.region
  let ops := s.matOps.filterMap fun o => if o.tid == t.tid then some o.id else none
  let s := s.modGroup t.region fun p => p.strip t.tid
  let far := s.planes.filterMap fun e => if e.2.commits.any fun c => c.tid == t.tid then some e.1 else none
  let s := s.fold far fun s pid => s.modPlane pid fun p => { p with commits := p.commits.filter fun c => !(c.tid == t.tid) }
  let s := (s.dropTokens t).endResidencies t true
  let s := (s.purgeRings t.region t.colour).dropClaims t.tid
  let s := { s with exits := s.exits.map fun (e : Exit) =>
    { e with prim := e.prim.filter fun x => !(x.1 == t.tid), shad := e.shad.filter fun x => !(x.1 == t.tid) } }
  -- streams that act for the take stop
  let scs := s.slices.flatMap fun e => e.2.streams.map fun x => e.1 * 32 + x.1
  let s := s.fold scs fun s sc =>
    let st := s.stream sc
    let mine := fun (o : StrOp) =>
      if st.walk.active && st.current == some o then s.strTid sc == t.tid else s.opTid sc o == t.tid
    let s := if st.ops.any mine then s.streamHalt sc false mine else s
    if st.owed.any fun e => e.2.2 == t.tid then s.modStream sc fun x => { x with owed := none } else s
  -- barrier instances of the colour are discarded
  let keys := (s.group t.region).map Region.key
  let s := s.modDie (t.region / 256 % 8) fun d =>
    { d with barriers := d.barriers.filter fun b => !(keys.contains b.region && b.colour == t.colour) }
  -- faults that only the take's firings and matrix operations wait for are withdrawn
  let s := s.modDie (t.region / 256 % 8) fun d =>
    let mine := fun (w : Waiter) => match w.who with
      | .firing pid fid => t.parked.any fun k => k.pid == pid && k.firing.fid == fid
      | .matrix _ op => ops.contains op
      | .stream _ | .message _ => false
    let keep := d.misses.map fun m => { m with who := m.who.filter fun w => !mine w }
    { d with misses := keep.filter fun m => !m.who.isEmpty }
  (s.modTake t.tid fun x => { x with parked := [], traps := [], isParked := false }).fold pids State.planeFree

/-- A take's parse context returns to the free pool, or leaves the image of its evicted region (R172, R332). -/
def State.freeCtx (t : Take) : State :=
  if (s.ctx t.ctx).tid == t.tid then { s with ctxs := del s.ctxs t.ctx }
  else s.modRegion t.region fun r => { r with savedCtxs := r.savedCtxs.filter fun c => !(c.2.tid == t.tid) }

/-- One take of a pair, or a take of its own, begins to fail: its work is dropped at once; the record, its UNCOND actions
and the return of its colour follow when its stores have performed (R25, R401). A later cause changes only the records
(R401, R393). -/
def State.failOne (tid code : Nat) (unit : BitVec 16) (addr detail : Nat) : State :=
  match s.take tid with
  | none => s
  | some t =>
    if t.failing then
      if t.shadow then s
      else s.modTake tid fun x =>
        { x with later := x.later ++ [({ cls := 3, act := actOf code 3, code, unit, tag := t.slate.tag, addr, detail }, s.clk)] }
    else
      let s := s.modTake tid fun x =>
        { x with failing := true, failCode := code, failUnit := unit, failAddr := addr, failDetail := detail,
                 failAt := s.clk }
      let s := s.modTakeCtx t fun c => { c with state := .drain, failing := true }
      s.dropWork t

/-- A take fails with a code, and its twin of paired mode with it (R401, R329). -/
def State.failTake (tid code : Nat) (unit : BitVec 16) (addr detail : Nat) : State :=
  let twin := ((s.take tid).map Take.twin).getD 0
  let s := s.failOne tid code unit addr detail
  match (if twin == 0 then none else s.take twin) with
  | none => s
  | some u => if u.failing then s else s.failOne twin code unit addr detail

/-- The same for a cause that was detected at an earlier clk (R382). -/
def State.failTakeAt (at_ tid code : Nat) (unit : BitVec 16) (addr detail : Nat) : State :=
  let now := fun (k : Nat) => !(((s.take k).map Take.failing).getD false)
  let twin := ((s.take tid).map Take.twin).getD 0
  let due := [tid, twin].filter now
  (s.failTake tid code unit addr detail).fold due fun s k => s.modTake k fun x => { x with failAt := at_ }

/-- A message that XPUT or XGET issued. -/
def Msg.isPut (m : Msg) : Bool := m.kind ≤ 1

/-- Messages that a take issued: those outstanding, neither PACKed nor lost (R304); those not PACKed, a lost one included (R317,
R328); and messages of it, replies included, that counted window bytes. -/
def State.openMsgs (tid : Nat) : Bool := s.msgs.any fun m => m.tid == tid && m.isPut && !m.packed && !m.lostM
def State.unpackedMsgs (tid : Nat) : Bool := s.msgs.any fun m => m.tid == tid && m.isPut && !m.packed
def State.countedMsgs (tid : Nat) : Bool := s.msgs.any fun m => m.tid == tid && m.counted != 0

/-- The reissue of a purged take: the agent that created it asks again for the same entry and arguments (R328). `pair`
is the take where a pair mismatch purged it (R331). A
handler take's agent is its core's sequencer, which serves the trap again (R321). -/
def State.reissue (t : Take) (pair : Nat) : State :=
  if t.colour == 15 then
    s.modCore (t.ctx / 16) fun c => { c with trapQ := t.serves :: c.trapQ, again := t.serves }
  else
    s.modDie (t.region / 256 % 8) fun d =>
      { d with held := d.held ++ [{ job := t.job, slate := t.slate, released := true, age := t.born,
                                    source := t.source, reissue := true, pairOf := pair, causes := t.causes,
                                    issue := t.issue }] }

/-- A take leaves: its work is dropped, its context is freed and its colour returns (R327). -/
def State.eraseTake (tid : Nat) : State :=
  match s.take tid with
  | none => s
  | some t =>
    let s := (s.dropWork t).freeCtx t
    { s with takes := del s.takes tid }

/-- A colour purge (R327) with reissue or failure (R328): the code of the first case that applies, else one reissue.
`code` and `unit` are those of the purge's record. A shadow is purged with its primary (R331); a take that is already
failing stays so (R349). -/
def State.purgeAs (tid : Nat) (noReissue : Bool) (code : Nat) (unit : BitVec 16) : State :=
  match s.take tid with
  | none => s
  | some t0 =>
    let t := if t0.shadow then (s.take t0.twin).getD t0 else t0
    let fail := if noReissue then 0x1410
      else if t.touched || s.unpackedMsgs t.tid || s.countedMsgs t.tid then 0x1411
      else if t.bridged then 0x1413
      else if t.reissued then 0x1412
      else 0
    if t.failing then s
    else
      let s := if noReissue then s else s.postTake t { cls := 2, act := actOf code 2, code, unit }
      let s := if noReissue || code != 0x1420 then s
        else s.postTake t { cls := 2, act := actOf 0x1410 2, code := 0x1410, unit := unitOfNum (t.region / 256 % 8) 0 0x14 }
      if fail != 0 then s.failTake t.tid fail (unitOfNum (t.region / 256 % 8) 0 0x14) 0 0
      else
        let twin := s.take t.twin
        let s := (s.eraseTake t.tid).eraseTake t.twin
        if t.colour == 15 then (t :: twin.toList).foldl (fun s u => s.reissue u 0) s
        else if t.shadow then s
        else s.reissue t (if code == 0x1420 then t.tid else 0)

/-- A colour purge with the record PURGED (R327). -/
def State.purgeTake (tid : Nat) (noReissue : Bool) : State :=
  s.purgeAs tid noReissue 0x1410 (unitOfNum (((s.take tid).map Take.region).getD 0 / 256 % 8) 0 0x14)

/-! ## Taking a trap (R319 to R324) -/

/-- The failing code of an unhandled cause (R348); a lost message of unknown outcome has its own (R316). -/
def causeCode (cause : Nat) (info : Word) : Nat :=
  match cause with
  | 1 => 0x0001 | 2 => 0x1602 | 3 => 0x0002 | 4 => 0x0003 | 7 => 0x0004 | 9 => (if info.getLsbD 62 then 0x1702 else 0x1701) | 10 => 0x0005
  | 11 => 0x0402 | _ => 0x0006

/-- The plane id that a saved cell had when its region was evicted. -/
def Region.savedPid (r : Region) (c : SavedCell) : Nat :=
  pidOf r.die (topCell r.fromCore + c.dy * 16 + c.dx) r.image.plane

/-- A trapped take's queued matrix operations are held, except one that has started (R156). -/
def Plane.holdMatrix (p : Plane) (tid : Nat) : Plane :=
  { p with mq := p.mq.map fun o => if o.tid == tid && !o.started then { o with held := true } else o }

/-- Its held operations may start again (R325). -/
def Plane.freeMatrix (p : Plane) (tid : Nat) : Plane :=
  { p with mq := p.mq.map fun o => if o.tid == tid then { o with held := false } else o }

/-- What a trap of a take does to the image of an evicted region of its group: its tokens are withdrawn, its queued
operations held (R320, R332). -/
def Region.parkSaved (r : Region) (tid : Nat) : Region :=
  { r with
    savedPark := r.savedPark ++ r.saved.flatMap fun c =>
      (c.plane.tokens.filter fun k => k.tid == tid).map fun k => (r.savedPid c, k)
    saved := r.saved.map fun c => { c with plane :=
      { c.plane.holdMatrix tid with tokens := c.plane.tokens.filter fun k => !(k.tid == tid) } } }

/-- What the resolution of its last trap does there: its tokens return, in order, and its operations may start
(R325, R332). -/
def Region.unparkSaved (r : Region) (tid clk : Nat) : Region :=
  let mine := fun (pid : Nat) =>
    (r.savedPark.filter fun k => k.1 == pid && k.2.tid == tid).map fun k => { k.2 with came := clk }
  { r with
    savedPark := r.savedPark.filter fun k => !(k.2.tid == tid)
    saved := r.saved.map fun c => { c with plane :=
      { c.plane.freeMatrix tid with tokens := mine (r.savedPid c) ++ c.plane.tokens } } }

/-- The waiting tokens of a take leave the cells of its region and partners for the park areas of their cores, in
order (R320 step 2). -/
def State.withdrawTokens (t : Take) : State :=
  s.fold (s.groupPids t.region) fun s pid =>
    let mine := (s.plane pid).tokens.filter fun k => k.tid == t.tid
    if mine.isEmpty then s
    else
      let s := s.modPlane pid fun p => { p with tokens := p.tokens.filter fun k => !(k.tid == t.tid) }
      s.modCore (coreOf pid) fun c => { c with park := c.park ++ mine.map fun k => (pid, k) }

/-- The parse context of a take enters PARKED (R184, R320 step 3). -/
def State.parkCtx (t : Take) : State :=
  s.modTakeCtx t fun c => if c.state != .parked then { c with saved := c.state, state := .parked } else c

/-- A take parks: its tokens are withdrawn and its context waits (R320 steps 2 and 3). -/
def State.parkTake (t : Take) : State :=
  (((s.withdrawTokens t).modSaved t.region fun r => r.parkSaved t.tid).parkCtx t).modTake t.tid fun x => { x with isParked := true }

/-- The running firing of a plane, stopped before its instruction has any effect, with its registers (R320 step 1). -/
def State.stopFiring (pid : Nat) : State := s.modPlane pid fun p => { p with running := false }

/-- A parked firing that will resume at `pc`; all ones resumes nothing (R161, R325). -/
def parkedAt (pid : Nat) (p : Plane) (pc : Word) : Parked :=
  { pid
    firing := { p.firing with pc := pc.toNat, lastPc := pc.toNat, wait := .none }
    regs := p.regs
    queueOnly := pc == BitVec.allOnes 64 }

/-- Every queued operation of a take is held (R156). -/
def State.holdTake (t : Take) : State :=
  s.fold (s.groupPids t.region) fun s pid => s.modPlane pid fun p => p.holdMatrix t.tid

/-- What follows a trap that has parked its take (R321, R323, R324, R342): the host services XLATE; a handler firing's
trap fails both takes; BRK under DEBUG reports; a region with a handler entry queues the trap for one; without one
PARITY purges and every other cause fails the take. -/
def State.offerTrap (t : Take) (cause : Nat) (unit : BitVec 16) (addr : Nat) (info : Word) (detail : Nat) : State :=
  if cause == 2 then s
  else if t.colour == 15 then
    let served := t.serves
    let s := s.failTake t.tid (causeCode cause info) unit addr detail
    s.failTake served 0x0009 unit 0 0
  else if cause == 12 && ((s.job t.job).map Job.debug).getD false then
    s.postTake t { cls := 0, act := 8, code := 0x0007, unit, addr }
  else
    let handler := (s.region t.region).bind fun r => r.image.handler
    if handler.isSome then s.modCore (t.ctx / 16) fun c => { c with trapQ := c.trapQ ++ [t.tid] }
    else if cause == 11 then s.purgeTake t.tid false
    else s.failTake t.tid (causeCode cause info) unit addr detail

/-- ADDR of a trap's record: the faulting address where the cause has one (R383), which its TRAPINFO then holds. -/
def trapAddr (cause : Nat) (info : Word) : Nat := if cause == 2 || cause == 3 then info.toNat else 0

/-- A trap record joins those of its take: behind the earlier ones, and in one clk in ascending die cell number, the lower
plane first (R320, R349). -/
def insertTrap (k : TrapRec) : List TrapRec → List TrapRec
  | [] => [k]
  | x :: r => if k.time == x.time && decide (k.pid % 1024 < x.pid % 1024) then k :: x :: r else x :: insertTrap k r

/-- A firing traps (R320): the firing stops with its registers, its take parks, a trap record is queued, and the trap
is offered as R321 to R324 say. `pc` is TRAPPC, `info` TRAPINFO, `kind` the engine that raises it, `addr` the address for its
record. A firing whose take is gone only stops. -/
def State.trapWith (pid cause : Nat) (pc info : Word) (kind addr : Nat) : State :=
  let p := s.plane pid
  let unit := unitOfCell (dieOf pid) (cellNoOf pid) kind
  match s.take p.firing.tid with
  | none => s.stopFiring pid
  | some t =>
    let s := s.stopFiring pid
    let s := s.holdTake t
    let s := s.parkTake t
    let s := s.modTake t.tid fun x =>
      { x with
        parked := x.parked ++ [parkedAt pid p pc]
        traps := insertTrap { cause, pc, info, colour := t.colour, pid, unit, time := s.clk, addr } x.traps }
    s.offerTrap t cause unit addr info 0

/-- The same where TRAPINFO holds the address, if the cause has one. -/
def State.trapAt (pid cause : Nat) (pc info : Word) (kind : Nat) : State :=
  s.trapWith pid cause pc info kind (trapAddr cause info)

/-- A trap of the issuing plane at its own instruction (R319). -/
def State.trap (cause : Nat) (info : Word) (kind : Nat) : State := s.trapAt s.cur cause (w64 s.pc) info kind

/-- ILLEGAL of the word that the issuing plane executes (R51). -/
def State.illegalWord : State := s.trap 1 (look 0 s.pl.prog s.pc) 0

/-- A RINGFAULT: the handle in [3:0] and the subcode in [11:8] (R123). -/
def State.ringFault (h sub : Nat) : State := s.trap 4 (w64 (h + sub * 256)) 3

/-! ## Resolving a trap (R325) -/

/-- Withdrawn tokens of a take return to the front of their cells' buffers, in order; they reach the buffer now (R325 step 1,
R81). -/
def State.returnTokens (t : Take) : State :=
  s.fold ((s.groupPids t.region).map fun pid => (pid, coreOf pid)) fun s e =>
    let mine := (s.core e.2).park.filter fun k => k.1 == e.1 && k.2.tid == t.tid
    if mine.isEmpty then s
    else
      let s := s.modCore e.2 fun c => { c with park := c.park.filter fun k => !(k.1 == e.1 && k.2.tid == t.tid) }
      s.modPlane e.1 fun p => { p with tokens := (mine.map fun k => { k.2 with came := s.clk }) ++ p.tokens }

/-- A take is unparked (R325): tokens return, held matrix operations may start, the context leaves PARKED. Its parked
firings resume when their planes are free; a plane that only a stopped queue held may be free now (R28). -/
def State.unpark (t : Take) : State :=
  let s := s.returnTokens t
  let s := s.fold (s.groupPids t.region) fun s pid => s.modPlane pid fun p => p.freeMatrix t.tid
  let s := s.modSaved t.region fun r => r.unparkSaved t.tid s.clk
  let s := s.modTakeCtx t fun c => if c.state == .parked then { c with state := c.saved } else c
  let s := s.modTake t.tid fun x =>
    { x with isParked := false, parked := x.parked.filter fun k => !k.queueOnly }
  s.fold ((t.parked.filter Parked.queueOnly).map Parked.pid) State.planeFree

/-- A firing of the take is parked on matrix ownership, in its cell or in an image (R155, R332). -/
def State.ownParked (t : Take) : Bool :=
  !s.allGroup t.region fun p => p.ownParks.all fun k => k.firing.tid != t.tid

/-- The first queued trap of a take that `sel` selects is resolved: its parked firing will resume at the record's
TRAPPC; a script ILLEGAL sets the context's PC. The take is unparked once its last trap is resolved (R325). No rule says
what holds for a take that is parked both on a trap and on matrix ownership: the model unparks it once both have ended, its
held operations waiting until then (DESIGN CHOICE, log 52). -/
def State.resolveTrap (tid : Nat) (sel : TrapRec → Bool) : State :=
  match s.take tid with
  | none => s
  | some t =>
    match t.traps.find? sel with
    | none => s
    | some k =>
      let script := fld k.unit 0 5 == 8
      let fix := fun (x : Parked) =>
        if x.pid == k.pid && !script then
          { x with firing := { x.firing with pc := k.pc.toNat, lastPc := k.pc.toNat },
                   queueOnly := k.pc == BitVec.allOnes 64 }
        else x
      let t := { t with traps := t.traps.erase k, parked := t.parked.map fix }
      let s := { s with takes := ins s.takes tid t }
      let s := if script then s.modTakeCtx t fun c =>
          { c with pc := k.pc.toNat, lastPc := k.pc.toNat, saved := .run, head := .none }
        else s
      if t.traps.isEmpty && !s.ownParked t then s.unpark t else s

/-- A trap that is offered to a handler take (R321, R342). -/
def State.offered (job : Nat) (k : TrapRec) : Bool :=
  k.cause != 2 && !(k.cause == 12 && ((s.job job).map Job.debug).getD false)

/-- The trap that a handler take of a take serves: the first that is offered. -/
def State.servedTrap (t : Take) : Option TrapRec := t.traps.find? (s.offered t.job)

/-! ## The choice among planes (R79, R153) -/

/-- The plane that the current frame slot of a die grants, if it grants one (R79, R271). -/
def State.slotPlane (die : Nat) : Option Nat :=
  let e := s.frameEntry die s.frameSlot
  if fld e 14 2 == 1 then some (fld e 12 2) else none

/-- The ready plane that is chosen: the granted one, else the next after the last (R79). -/
def State.choosePlane (die last : Nat) (ready : Nat → Bool) : Option Nat :=
  match s.slotPlane die with
  | some p => if ready p then some p else ([1, 2, 3, 4].map fun i => (last + i) % 4).find? ready
  | none => ([1, 2, 3, 4].map fun i => (last + i) % 4).find? ready

end Sys2Proof.Machine
end

