-- ==== Sys2Proof/Machine/Fetch.lean ====
section
/-!
DEFINITION. Fetching an instruction: from a plane's share of the stage-program store and from a region's share of a
core's script store (R40, R51, R173, R197), and the choice of the next parse context (R197).
-/
namespace Sys2Proof.Machine

variable (s : State)

/-- The stage instruction at a word index of the current plane's share; an index outside the share and an illegal
word give the row that raises ILLEGAL with the TRAPPC and TRAPINFO of R51. -/
def State.fetchStage : Instr :=
  let p := s.pl
  let pc := p.firing.pc
  if p.progSize ≤ pc then .stageIllegal (w64 p.firing.lastPc) (w64 pc)
  else
    let w := look 0 p.prog pc
    match decodeStage w with
    | .ok i => i
    | .error _ => .stageIllegal (w64 pc) w

/-! ## The issue of an instruction (R77 to R79) -/

/-- An instruction of a plane's firing has issued: its cell's port engine notes the issuer and the clk, its take the issue clk
spent, and its job the activity (R79, R272, R30). -/
def State.counted (pid job tid : Nat) : State :=
  let s := (s.note job (dieOf pid)).modTake tid fun t =>
    { t with issue := ins t.issue (cellOf pid) (look 0 t.issue (cellOf pid) + 1) }
  s.modCell (cellOf pid) fun c => { c with lastIssuer := planeNoOf pid, issuedAt := s.clk, everIssued := true }

/-- What the port engine makes of a fetched instruction, from the state before it and the one after it. An instruction whose
firing only waits for its condition has not issued: its plane was passed over, and a plane of the cell may still issue in
this clk (R78, R79); the same holds of one that parked its take on matrix ownership (R155). Every other has issued. -/
def State.issued (before t : State) : State :=
  let p := before.pl
  let q := t.plane before.cur
  let k := q.firing.wait
  if q.running && q.firing.fid == p.firing.fid && (k == .retry || k == .window || k == .walk) then
    t.modFiring before.cur fun f =>
      { f with
        started := p.firing.started || k == .walk
        waitArg := if k == .retry then before.clk else f.waitArg }
  else if p.ownParks.length < q.ownParks.length then t
  else t.counted before.cur p.job p.firing.tid

/-- The current plane issues the instruction that it fetches, by its meaning. -/
def State.issue (run : Instr → State → Out) : Out :=
  match run s.fetchStage ({ s with turn := .agenda }.modFiring s.cur fun f => { f with started := true }) with
  | .next t => .next (State.issued s t)
  | o => o

/-- The region of a parse context, the base of its share and its size (R173). -/
def State.share (c : Nat) : Nat × Nat :=
  match s.region (s.ctx c).region with
  | none => (0, 0)
  | some r => (r.scriptBase, r.image.scriptSize)

/-- A script word of the share of a context; indices outside the share read 0, which is illegal. -/
def State.scriptWord (c i : Nat) : BitVec 32 :=
  let (base, size) := s.share c
  if size ≤ i then 0 else look 0 (s.core (c / 16)).script (base + i)

/-- The script instruction at an index of a context's share (R47, R48, R51). -/
def State.fetchScriptAt (c pc lastPc : Nat) : Instr :=
  let size := (s.share c).2
  if size ≤ pc then .scriptIllegal (w64 lastPc) (w64 pc)
  else
    let w := s.scriptWord c pc
    if hasLiteral w && size ≤ pc + 1 then .scriptIllegal (w64 pc) (w64 (pc + 1))
    else match decodeScript w (s.scriptWord c (pc + 1)) with
      | .ok i => i
      | .error _ => .scriptIllegal (w64 pc) (w.setWidth 64)

/-- The script instruction that the current context executes next. -/
def State.fetchScript : Instr :=
  let c := s.ctx s.curCtx
  s.fetchScriptAt s.curCtx c.pc c.lastPc

/-- The cells of a region or a partner in a plane that hold a stage (R189). R189 does not say what a FIRE into a partner plane does
while that plane is evicted: it finds no cell there, and its take fails with NOSTAGE (DESIGN CHOICE, log 57). -/
def State.stageCells (c plane stage : Nat) : List Nat :=
  (s.group (s.ctx c).region).flatMap fun r =>
    if r.image.plane == plane then
      r.image.cells.filterMap fun k =>
        let pid := pidOf r.die (r.cellAtOff k.dx k.dy) plane
        if k.stage == stage && (s.plane pid).owner == r.key then some pid else none
    else []

/-- Room for a token at a cell: 16 tokens for each plane, tokens on their way included (R189). -/
def State.tokenRoom (pid : Nat) : Bool :=
  (s.plane pid).tokens.length
    + (s.cores.map fun e => (e.2.tokQ.filter fun k => k.1 == pid).length).foldl (· + ·) 0 < 16

/-- Whether a context in TOKWAIT finds room in every cell of the stage its FIRE names (R184). -/
def State.fireRoom (c : Nat) : Bool :=
  match s.fetchScriptAt c (s.ctx c).pc 0 with
  | .fire st _ _ _ => (s.stageCells c (s.ctx c).tplane st.toNat).all fun pid => s.tokenRoom pid
  | _ => true

/-- Whether a context stands at a SYNC whose slots may not be retired yet: a token it sent has not reached END (R187). -/
def State.syncBusy (c : Nat) : Bool :=
  match s.fetchScriptAt c (s.ctx c).pc 0 with
  | .sync _ => (s.ctx c).sent != 0
  | _ => false

/-- The slots granted to a context that waits in SPACE, with the ring that grants them. -/
def State.scriptGrant (c : Nat) : Option (Nat × List Nat) :=
  s.rings.findSome? fun e => (e.2.granted.find? fun g => g.1 == .script c).map fun g => (e.1, g.2)

/-- A context in SPACE may go on or claim anew: it has been granted slots, or no ring holds its claim. -/
def State.scriptTries (c : Nat) : Bool :=
  (s.scriptGrant c).isSome || !(s.rings.any fun e => e.2.queue.any fun q => q.who == .script c)

/-- Whether a context has a word to execute (R184, R197). -/
def State.ctxReady (c : Nat) : Bool :=
  let x := s.ctx c
  match x.state with
  | .run => !x.killing
  | .decide => !x.blind
  | .scan => !x.blind && !s.syncBusy c
  | .tokwait => s.fireRoom c
  | .space => x.synced.isNone && s.scriptTries c
  | .free | .window | .call | .mismatch | .recover | .drain | .parked => false

/-- The ready context of a core that follows the last one served (R197). -/
def State.nextCtx (core : Nat) : Option Nat :=
  let last := (s.core core).lastServed
  ((List.range 16).map fun i => core * 16 + (last + 1 + i) % 16).find? s.ctxReady

/-- The sequencer of a core serves its next ready context: that context executes one word (R197). -/
def State.serve (core : Nat) : State :=
  match s.nextCtx core with
  | none => s
  | some c => { s.modCore core fun k => { k with lastServed := c % 16 } with curCtx := c, turn := .context }

/-- Whether an instruction is a command or an event: neither a word of a store nor what an illegal word becomes. -/
def isEvent (i : Instr) : Bool :=
  match i with
  | .stageIllegal _ _ | .scriptIllegal _ _ => false
  | i => encode i == Code.none

/-! ## Takes that count as outstanding (R30) -/

/-- A wait for an object that the job declared external does not count as outstanding (R30). -/
def State.waitsOutside (t : Take) : Bool :=
  let c := s.takeCtx t
  let win := c.tid == t.tid && c.state == .window
    && ((s.job t.job).map fun j => j.decl.external.contains c.waitWin).getD false
  win || s.planes.any fun e =>
    e.2.running && e.2.firing.tid == t.tid && e.2.firing.wait == .twait
      && match { s with cur := e.1 }.fetchStage with
        | .twait o => fld o.kreg 10 2 == 0
            && ((s.job t.job).map fun j => j.decl.extTimeline.contains (fld o.imm 0 3 * 256 + fld o.kreg 0 8)).getD false
        | _ => false

/-- Takes of a job that count as outstanding on a die. -/
def State.outstanding (job die : Nat) : Bool :=
  s.takes.any fun e => e.2.job == job && e.2.region / 256 % 8 == die && !s.waitsOutside e.2

/-- The interval of R30 begins now on the die of a take, where no take of its job was outstanding there. -/
def State.noteOutstanding (job die : Nat) : State := if s.outstanding job die then s else s.note job die

/-! ## Placing one word where the next step fetches it (log 10) -/

/-- Stores a stage word where the current plane fetches its next word, and lets that plane issue next. -/
def State.placeStage (w : Word) : State :=
  { s.modPl fun p =>
      { p with
        running := true
        progSize := max p.progSize (p.firing.pc + 1)
        prog := put 0 p.prog p.firing.pc w } with
    turn := .plane }

/-- A region for the current context where it has none, so that it has a share to fetch from. -/
def State.withShare : State :=
  if (s.region (s.ctx s.curCtx).region).isSome then s
  else
    let die := s.curCtx / 256
    let key := regionKey 1 die 0
    let image : PlaneImage := { rid := 0, die, plane := 0 }
    let r : Region := { key, job := 1, die, rid := 0, image, place := .eligible, core := s.curCtx / 16 % 16 }
    { s with regions := ins s.regions key r }.modCtx s.curCtx fun c => { c with region := key }

/-- Stores a script word, with a literal word of zero after it, where the current context fetches its next word, and
lets that context execute next; a CHOOSE or LOOK stands in its head. -/
def State.placeScript (w : BitVec 32) : State :=
  let s := s.withShare
  let c := s.ctx s.curCtx
  let i := (s.share s.curCtx).1 + c.pc
  let s := s.modCore (s.curCtx / 16) fun k => { k with script := put 0 (put 0 k.script i w) (i + 1) 0 }
  let head : Head := match fld w 26 6 with | 2 => .atLook c.pc | 3 => .atChoose | _ => c.head
  { s.modCtx s.curCtx fun c => { c with state := .run, head } with turn := .context }

end Sys2Proof.Machine
end

