-- ==== Sys2Proof/Machine/Script.lean ====
section
/-!
DEFINITION. Script instructions and the events of parse contexts (09_script, R172 to R197).
-/
namespace Sys2Proof.Machine

variable (s : State)

/-! ## The head ring and its terminals (R174, R176) -/

/-- The plane id of cell 0 of a region in a plane. -/
def Region.cell0 (r : Region) (plane : Nat) : Nat := pidOf r.die (r.core / 4 * 64 + r.core % 4 * 4) plane

/-- The handle that names the head ring of a context's region (R174). -/
def State.headHandle (c : Nat) : Option Handle :=
  (s.region (s.ctx c).region).bind s.headHandleOf

/-- The head ring of a context's region. -/
def State.headRing (c : Nat) : Option Ring :=
  match s.headHandle c with
  | none => none
  | some h => s.ringOf h

/-- The colour of a context's take. -/
def State.ctxColour (c : Nat) : Nat := ((s.take (s.ctx c).tid).map Take.colour).getD 0

/-- The terminals that a context can read from a slot number on: slots of its colour, oldest first, up to the first
claimed one (R176); slots that a purge or KILL retired for every branch are gone (R114, R195). -/
def State.termsFrom (c pos : Nat) : List (Nat × Nat) :=
  match s.headRing c with
  | none => []
  | some r =>
    let mine := r.slots.filter fun e =>
      decide (pos ≤ e.1) && sideColour (s.side r e.1) == s.ctxColour c && !e.2.void
    (mine.takeWhile fun e => e.2.filled).map fun e => (e.1, sideMark (s.side r e.1))

/-- The terminals at or after POS. -/
def State.terms (c : Nat) : List (Nat × Nat) := s.termsFrom c (s.ctx c).pos

/-- COORD after a mark of a level (R37, R179). -/
def Coord.next (c : Coord) (level : Nat) : Coord :=
  if level == 0 then c
  else if level == 1 then { c with row := c.row + 1 }
  else if level == 2 then { c with grp := c.grp + 1, row := 0 }
  else { seq := c.seq + 1, grp := 0, row := 0 }

/-- Coordinates compare by sequence, group, row (R195). -/
def Coord.lt (a b : Coord) : Bool :=
  a.seq.ult b.seq || (a.seq == b.seq && (a.grp.ult b.grp || (a.grp == b.grp && a.row.ult b.row)))

/-- LASTLVL of every stage raised to a level (R179). -/
def raiseLevels (t : Tab Nat) (level : Nat) : Tab Nat :=
  if level == 0 then t else (List.range 256).map fun i => (i, max (look 0 t i) level)

/-- A context passes a slot with its mark (R174, R179). -/
def State.pass (c : Nat) (e : Nat × Nat) : State :=
  let level := markLevel e.2
  s.modCtx c fun x =>
    { x with
      pos := e.1 + 1
      lastSlot := some e.1
      coord := x.coord.next level
      lastlvl := raiseLevels x.lastlvl level }

/-- The current context completes its word and goes on. -/
def State.ctxAdv (c n : Nat) : State :=
  s.modCtx c fun x => { x with lastPc := x.pc, pc := x.pc + n, state := .run, head := .none, blind := false }

/-- The current context waits. -/
def State.ctxWait (c : Nat) (k : CtxState) (blind : Bool) : State := s.modCtx c fun x => { x with state := k, blind }

/-! ## Records, failure and illegal words (R51, R181, R183) -/

/-- The unit of a sequencer (R183). -/
def seqUnit (c : Nat) : BitVec 16 := unitOfCore (c / 16) 8

/-- The binding word of the head ring (R183). -/
def State.headWord (c : Nat) : Nat :=
  match s.headHandle c, s.headRing c with
  | some h, some r => (r.word h.branch h.dtag).toNat
  | _, _ => 0

/-- The recovery clause of CURNT: its index, RESUME, LEVEL, FWD and HO (R180, R186). -/
def State.clause (c : Nat) : Option (Nat × Nat × Nat × Bool × Nat) :=
  let x := s.ctx c
  match (s.region x.region).bind fun r => find r.nts x.curnt with
  | none => none
  | some i =>
    match s.fetchScriptAt c (i + 1) i with
    | .onerr r l f h => some (i + 1, r.toNat, l.toNat, f == 1, h.toNat)
    | _ => none

/-- The detail of a sequencer record (R183). -/
def State.seqDetail (c word term slot : Nat) : Nat :=
  let x := s.ctx c
  let (cl, re) := match s.clause c with
    | some (_, r, l, f, _) => (128 + (if f then 64 else 0) + l, r)
    | none => (0, 0)
  word % 2 ^ 16 + term * 2 ^ 16 + x.curnt * 2 ^ 24 + slot % 2 ^ 64 * 2 ^ 32 + x.coord.seq.toNat * 2 ^ 96
    + x.coord.grp.toNat * 2 ^ 128 + x.coord.row.toNat * 2 ^ 160 + x.stack.length * 2 ^ 192 + cl * 2 ^ 200 + re * 2 ^ 208

/-- A sequencer code that tests no terminal fails the take (R182, R183). -/
def State.failSeq (c code : Nat) : State :=
  s.failTake (s.ctx c).tid code (seqUnit c) (s.headWord c) (s.seqDetail c (s.ctx c).pc 0xFF (s.ctx c).pos)

/-- A mismatch: the context enters MISMATCH with the offending slot and what its record will say (R181 step 1). -/
def State.mismatch (c code word term slot : Nat) : State :=
  let d := s.seqDetail c word term slot
  s.modCtx c fun x =>
    { x with
      state := .mismatch
      head := .none
      blind := false
      offend := slot
      code := code
      coordAt := x.coord
      synced := Option.none
      missedAt := s.clk
      detail := d }

/-- A script ILLEGAL: the take parks and its trap is offered, with engine kind 0x08 (R51, R184). -/
def State.scriptTrap (c : Nat) (pc info : Word) : State :=
  match s.take (s.ctx c).tid with
  | none => s
  | some t =>
    let unit := seqUnit c
    let pid := match s.region t.region with
      | some r => r.cell0 r.image.plane
      | none => 0
    let s := s.parkTake t
    let s := s.modTake t.tid fun x =>
      { x with traps := insertTrap { cause := 1, pc, info, colour := t.colour, pid, unit, time := s.clk } x.traps }
    s.offerTrap t 1 unit 0 info 0

/-- The word at an index of the share, executed where R180 forbids it. -/
def State.badPlace (c i : Nat) : State := s.scriptTrap c (w64 i) ((s.scriptWord c i).setWidth 64)

/-- The context goes to the NTDEF of a nonterminal (R180). -/
def State.toNT (c i : Nat) : State :=
  s.modCtx c fun x => { x with lastPc := x.pc, pc := i, state := .run, head := .none, blind := false }

/-- Index of the NTDEF of a nonterminal of the context's region. -/
def State.ntAt (c n : Nat) : Option Nat := (s.region (s.ctx c).region).bind fun r => find r.nts n

/-- Whether an index of the share holds a literal word (R48). -/
def State.isLiteral (c : Nat) : Nat → Bool
  | 0 => false
  | i + 1 => hasLiteral (s.scriptWord c i) && !State.isLiteral c i

/-! ## Heads and decisions (R177, R180, R186) -/

/-- NTDEF begins its nonterminal: CURNT and DEPTH0 are set; a recovery clause is stepped over; a choose group is
decided, a body executed (R180). -/
def execNtdef (n : BitVec 8) (s : State) : Out :=
  let c := s.curCtx
  let pc := (s.ctx c).pc
  let i := match s.fetchScriptAt c (pc + 1) pc with
    | .onerr _ _ _ _ => pc + 2
    | _ => pc + 1
  let choose := match s.fetchScriptAt c i pc with
    | .choose _ _ => true
    | _ => false
  .next (s.modCtx c fun x =>
    { x with
      curnt := n.toNat
      depth0 := x.stack.length
      lastPc := pc
      pc := i
      state := if choose then .decide else .run
      head := if choose then .atChoose else .none
      blind := false })

/-- ONERR reached other than as part of a head is illegal (R180). -/
def execOnerr (_r : BitVec 8) (_l : BitVec 3) (_f : BitVec 1) (_h : BitVec 4) (s : State) : Out :=
  .next (s.badPlace s.curCtx (s.ctx s.curCtx).pc)

/-- The production of the CHOOSE at an index is taken (R177); a TARGET on a literal word is illegal (R180). -/
def State.takeTarget (c choose tgt : Nat) : State :=
  if s.isLiteral c tgt then s.badPlace c choose
  else s.modCtx c fun x => { x with lastPc := choose, pc := tgt, state := .run, head := .none, blind := false }

/-- The word at an index of a choose group is a LOOK, or a CHOOSE, by its SOP: one whose fields are illegal is still a word
of the group, and raises ILLEGAL when the context would execute it (R47, R51, R177). -/
def State.isLook (c i : Nat) : Bool := fld (s.scriptWord c i) 26 6 == 0x02
def State.isChoose (c i : Nat) : Bool := fld (s.scriptWord c i) 26 6 == 0x03

/-- The production of the CHOOSE at an index does not match: the next one is tested, and after the last one the
context raises MISMATCH (R177). `word`, `term` and `slot` say what the failing test examined. -/
def State.nextProduction (c choose word term slot : Nat) : State :=
  let i := if s.isLook c (choose + 1) then choose + 2 else choose + 1
  if s.isChoose c i then
    s.modCtx c fun x => { x with lastPc := word, pc := i, state := .decide, head := .atChoose, blind := false }
  else if s.isLook c i then s.badPlace c i
  else s.mismatch c 0x0801 word term slot

/-- The CHOOSE at an index matched: a LOOK after it is tested next, else its production is taken. -/
def State.chosen (c choose tgt : Nat) : State :=
  if s.isLook c (choose + 1) then
    s.modCtx c fun x => { x with lastPc := choose, pc := choose + 1, state := .decide, head := .atLook choose, blind := false }
  else s.takeTarget c choose tgt

/-- CHOOSE (R177): ANY matches at once, DATA is decided by the current granule, a mark code by the next mark. -/
def execChoose (t : BitVec 4) (tgt : BitVec 12) (s : State) : Out :=
  let c := s.curCtx
  let pc := (s.ctx c).pc
  .next <|
    if (s.ctx c).head != .atChoose then s.badPlace c pc
    else if t == 8 then s.chosen c pc tgt.toNat
    else
      let ts := s.terms c
      match (if t == 0 then ts.head? else ts.find? fun e => e.2 != 0) with
      | none => s.ctxWait c .decide true
      | some e => if e.2 == t.toNat then s.chosen c pc tgt.toNat else s.nextProduction c pc pc e.2 e.1

/-- LOOK (R177, R186): the second mark after a CHOOSE of a mark code, the next mark after DATA or ANY. -/
def execLook (t : BitVec 4) (ge : BitVec 1) (s : State) : Out :=
  let c := s.curCtx
  let pc := (s.ctx c).pc
  .next <|
    match (s.ctx c).head with
    | .none | .atChoose => s.badPlace c pc
    | .atLook choose =>
      let (term, tgt) := match s.fetchScriptAt c choose choose with
        | .choose t tgt => (t.toNat, tgt.toNat)
        | _ => (8, 0)
      let marks := (s.terms c).filter fun e => e.2 != 0
      match (if 1 ≤ term && term ≤ 7 then marks.drop 1 else marks).head? with
      | none => s.ctxWait c .decide true
      | some e =>
        let ok := if ge == 1 then levelAtLeast e.2 t.toNat else e.2 == t.toNat
        if ok then s.takeTarget c choose tgt else s.nextProduction c choose pc e.2 e.1

/-! ## Parse actions (R187, R188) -/

def execExpect (t : BitVec 4) (ge : BitVec 1) (s : State) : Out :=
  let c := s.curCtx
  let pc := (s.ctx c).pc
  let ts := s.terms c
  .next <|
    if t == 0 then
      match ts with
      | [] => s.ctxWait c .scan true
      | e :: _ => if e.2 == 0 then (s.pass c e).ctxAdv c 1 else s.mismatch c 0x0801 pc e.2 e.1
    else
      let s := s.fold (ts.takeWhile fun e => e.2 == 0) fun s e => s.pass c e
      match ts.find? fun e => e.2 != 0 with
      | none => s.ctxWait c .scan true
      | some e =>
        if (if ge == 1 then levelAtLeast e.2 t.toNat else e.2 == t.toNat) then (s.pass c e).ctxAdv c 1
        else (s.modCtx c fun x => { x with pos := e.1 }).mismatch c 0x0801 pc e.2 e.1

/-- The terminals up to and including the first mark of a level, and whether it is among them. -/
def upToLevel (l : Nat) : List (Nat × Nat) → List (Nat × Nat) × Bool
  | [] => ([], false)
  | e :: r => if levelAtLeast e.2 l then ([e], true) else let (a, b) := upToLevel l r; (e :: a, b)

/-- A context passes slots and retires them for every branch (R181, R187). -/
def State.passRetire (c : Nat) (ts : List (Nat × Nat)) : State :=
  match s.headRing c with
  | none => s
  | some r => (s.fold ts fun s e => s.pass c e).retireAll r.key (ts.map (·.1))

/-- SYNC waits for the tokens it sent, then passes and retires slots as they fill (R187). -/
def execSync (l : BitVec 3) (s : State) : Out :=
  let c := s.curCtx
  .next <|
    if (s.ctx c).sent != 0 then s.ctxWait c .scan false
    else
      let (ts, found) := upToLevel l.toNat (s.terms c)
      let s := s.passRetire c ts
      if found then s.ctxAdv c 1 else s.ctxWait c .scan true

def execPushn (n : BitVec 8) (s : State) : Out :=
  let c := s.curCtx
  .next <|
    match s.ntAt c n.toNat with
    | none => s.badPlace c (s.ctx c).pc
    | some _ =>
      if 32 ≤ (s.ctx c).stack.length then s.failSeq c 0x0803
      else (s.modCtx c fun x => { x with stack := x.stack ++ [n.toNat] }).ctxAdv c 1

def execRetn (s : State) : Out :=
  let c := s.curCtx
  .next <|
    match (s.ctx c).stack.getLast? with
    | none => s.failSeq c 0x0804
    | some n =>
      match s.ntAt c n with
      | none => s.badPlace c (s.ctx c).pc
      | some i => (s.modCtx c fun x => { x with stack := x.stack.dropLast }).toNT c i

/-! ## Actions sent outward (R189, R190, R193) -/

/-- Whether a plane number is the region's own or a partner's (R193). -/
def State.partnerPlane (c plane : Nat) : Bool := (s.group (s.ctx c).region).any fun r => r.image.plane == plane

/-- The token of a FIRE (R189). -/
def State.tokenOf (c stage entry asel : Nat) (lit : BitVec 32) : Token :=
  let x := s.ctx c
  { tid := x.tid
    colour := s.ctxColour c
    stage
    entry
    arg := if asel == 0 then lit else x.args.getD (asel - 1) 0
    coord := x.coord
    clayer := look 0 x.lastlvl stage }

/-- The trigger counts a token sent (R193). -/
def Ctx.countTrig (x : Ctx) : Ctx :=
  if x.trigcnt == 0 then x
  else if x.trigcnt == 1 then { x with trigcnt := 0, tplane := x.trigpl }
  else { x with trigcnt := x.trigcnt - 1 }

def execFire (stage : BitVec 8) (entry : BitVec 10) (asel : BitVec 3) (lit : BitVec 32) (s : State) : Out :=
  let c := s.curCtx
  let x := s.ctx c
  .next <|
    if (match x.horizon with | some h => h.lt x.coord | none => false) then s.ctxAdv c 2
    else if !s.partnerPlane c x.tplane then s.failSeq c 0x0808
    else
      let cells := s.stageCells c x.tplane stage.toNat
      if cells.isEmpty then s.failSeq c 0x0806
      else if !cells.all s.tokenRoom then s.ctxWait c .tokwait false
      else
        let k := s.tokenOf c stage.toNat entry.toNat asel.toNat lit
        let s := s.modCore (c / 16) fun q => { q with tokQ := q.tokQ ++ cells.map fun pid => (pid, k) }
        let s := s.modCtx c fun x =>
          { x with
            sent := x.sent + cells.length
            lastlvl := put 0 x.lastlvl stage.toNat 0 }.countTrig
        s.ctxAdv c 2

/-- The handle of cell 0 in a plane of the context's region or a partner. -/
def State.ctxHandle (c plane h : Nat) : Option Handle :=
  match (s.group (s.ctx c).region).find? fun r => r.image.plane == plane with
  | none => none
  | some r =>
    let p := s.plane (r.cell0 plane)
    if p.owner == r.key then find p.h h else none

/-- Writes and commits granules that a context claimed: marks and data in slot order, FMT from DTAG, VALID 0, the
take's colour (R181, R190). -/
def State.scriptFill (c key dtag : Nat) (ns : List Nat) (gs : List (Nat × Gran)) : State :=
  match s.ring key with
  | none => s
  | some r =>
    let colour := s.ctxColour c
    let s := s.fold (ns.zip gs) fun s e => (s.setGran r e.1 e.2.2).setSide r e.1 (mkSide e.2.1 dtag 0 colour)
    s.fill key ns (s.ctx c).tid (((s.region (s.ctx c).region).map fun g => g.die * 256 + topCell g.core).getD 0)

/-- The slots of a context's claim: granted earlier, granted now, or the claim waits (R104). -/
def State.scriptClaim (c : Nat) (b : Handle) (nw : Nat) : State × Option (List Nat) :=
  match s.ringOf b with
  | none => (s, none)
  | some r =>
    match s.takeGranted b.key (.script c) with
    | some (s, ns) => (s, some ns)
    | none =>
      s.claimNow b.key r { who := .script c, nw, colour := s.ctxColour c, tid := (s.ctx c).tid, fid := 0, dtag := b.dtag }

/-- EMIT (R190); on an exit ring it waits where its copy is 64 granules ahead (R330). -/
def execEmit (h : BitVec 4) (m : BitVec 3) (s : State) : Out :=
  let c := s.curCtx
  .next <|
    match s.ctxHandle c (s.ctx c).tplane h.toNat with
    | none => s.failSeq c 0x0807
    | some b =>
      if s.exitFull b.key 1 then s.ctxWait c .space false else
      let (s, got) := s.scriptClaim c b 1
      match got with
      | none => s.ctxWait c .space false
      | some ns => (s.scriptFill c b.key b.dtag ns [(m.toNat, 0)]).ctxAdv c 1

def execTrig (p : BitVec 2) (n : BitVec 16) (s : State) : Out :=
  let c := s.curCtx
  .next ((s.modCtx c fun x => { x with trigpl := p.toNat, trigcnt := n.toNat }).ctxAdv c 1)

def execPlsw (p : BitVec 2) (s : State) : Out :=
  let c := s.curCtx
  .next ((s.modCtx c fun x => { x with tplane := p.toNat, trigcnt := 0 }).ctxAdv c 1)

/-! ## Ending, calling, spawning (R191, R192) -/

/-- ACCEPT puts the context in DRAIN; TAKE_END follows when the take's work is done (R191). -/
def execAccept (s : State) : Out := .next (s.ctxWait s.curCtx .drain false)

/-- The outcome of a SCALL child reaches the caller that still waits for it, in its context or in the image of an
evicted region (R192): 1 accepted, 2 failed, 3 SRET. That of a shadow's child is kept for a caller that has still to come to its
SCALL (R329). -/
def State.callDone (t : Take) (outcome : Nat) : State :=
  match t.source with
  | .call k who =>
    let mark := fun (x : Ctx) =>
      if x.tid == who && (x.state == CtxState.call || x.saved == CtxState.call) && x.childDone == 0 then
        { x with childDone := outcome }
      else if x.tid == who && t.shadow then { x with early := x.early ++ [outcome] }
      else x
    if (s.ctx k).tid == who then s.modCtx k mark
    else { s with regions := mapTab (fun _ r =>
      { r with savedCtxs := r.savedCtxs.map fun e => if e.1 == k then (e.1, mark e.2) else e }) s.regions }
  | _ => s

/-- SRET releases the caller, then acts as ACCEPT (R192). -/
def execSret (s : State) : Out :=
  let c := s.curCtx
  let s := match s.take (s.ctx c).tid with
    | some t => (s.callDone t 3).modTake t.tid fun t => match t.source with
        | .call _ _ => { t with source := .spawn }
        | _ => t
    | none => s
  .next ((s.modCtx c fun x => { x with caller := none }).ctxWait c .drain false)

/-- The region of a launch entry when it is placed on the die, or was evicted from it and becomes a region request (R192,
R265). -/
def State.launchRegion (c n : Nat) : Option (Region × Launch) :=
  match s.region (s.ctx c).region with
  | none => none
  | some r =>
    match r.image.launch.find? fun e => e.1 == n with
    | none => none
    | some e =>
      match s.region (regionKey r.job r.die e.2.region) with
      | none => none
      | some g => if g.place == .requested || g.place == .torn then none else some (g, e.2)

/-- Asks the drover for a take of a launch entry (R192). -/
def State.askTake (r : Region) (l : Launch) (lit : BitVec 32) (source : Source) (tid : Nat) : State :=
  s.modDie r.die fun d =>
    { d with
      held := d.held ++ [
        { job := r.job
          slate := { prio := l.prio, region := l.region, entry := l.entry, args := [lit] }
          released := true
          age := s.clk
          pusherTid := tid
          source }] }

/-- The context's take is a shadow: its primary asks for takes, and the twins of those run in the shadow copy (R329). -/
def State.shadowCtx (c : Nat) : Bool := ((s.take (s.ctx c).tid).map Take.shadow).getD false

def execScall (n : BitVec 6) (lit : BitVec 32) (s : State) : Out :=
  let c := s.curCtx
  .next <|
    match s.launchRegion c n.toNat with
    | none => s.failSeq c 0x0809
    | some (r, l) =>
      if s.shadowCtx c then
        s.modCtx c fun x => { x with state := .call, childDone := x.early.headD 0, early := x.early.drop 1 }
      else
        (s.askTake r l lit (.call c (s.ctx c).tid) (s.ctx c).tid).modCtx c fun x => { x with state := .call, childDone := 0 }

def execSpawn (n : BitVec 6) (lit : BitVec 32) (s : State) : Out :=
  let c := s.curCtx
  .next <|
    match s.launchRegion c n.toNat with
    | none => s.failSeq c 0x0809
    | some (r, l) => (if s.shadowCtx c then s else s.askTake r l lit .spawn (s.ctx c).tid).ctxAdv c 2

/-! ## Windows and kills (R194, R195) -/

def execWaitw (d : BitVec 3) (sl w : BitVec 6) (s : State) : Out :=
  let c := s.curCtx
  let id := (d.toNat * 64 + sl.toNat) * 64 + w.toNat
  let job := ((s.take (s.ctx c).tid).map Take.job).getD 0
  .next <|
    if !s.ownsWindow job id then s.failSeq c 0x080A
    else if (s.win id).state == .triggered then s.ctxAdv c 1
    else
      let external := ((s.job job).map fun j => j.decl.external.contains id).getD false
      let s := if external then s.cause (s.ctx c).tid 5 else s
      s.modCtx c fun x => { x with state := .window, waitWin := id, waitHit := false }

/-- The horizon that a KILL asks for: COORD, or the coordinate in the data of the last slot passed; the spec states no
value where no slot has been passed, and it is then free (R195; log 5). -/
def State.killTarget (c : Nat) (src : BitVec 1) : State × Coord :=
  let x := s.ctx c
  let of (n : Nat) : Coord :=
    { seq := BitVec.ofNat 32 n, grp := BitVec.ofNat 32 (n / 2 ^ 32), row := BitVec.ofNat 32 (n / 2 ^ 64) }
  if src == 0 then (s, x.coord)
  else
    match s.headRing c, x.lastSlot with
    | some r, some n => (s, of (s.gran r n).toNat)
    | _, _ => let (s, n) := s.freeNum 12; (s, of n)

/-- A token lies beyond a kill horizon (R195). -/
def Token.killed (k : Token) (tid : Nat) (h : Coord) : Bool := k.tid == tid && h.lt k.coord

/-- A firing of a take beyond a horizon that has not issued: it counts as a waiting token (R195; log 11). -/
def Plane.unstarted (p : Plane) (tid : Nat) (h : Coord) : Bool :=
  p.running && p.firing.tid == tid && !p.firing.started && h.lt p.firing.coord

/-- What a kill message finds beyond its horizon in a plane, and what it leaves (R195). -/
def Plane.beyond (p : Plane) (tid : Nat) (h : Coord) : Nat :=
  (p.tokens.filter fun k => k.killed tid h).length + (if p.unstarted tid h then 1 else 0)
def Plane.kill (p : Plane) (tid : Nat) (h : Coord) : Plane :=
  { p with
    tokens := p.tokens.filter fun k => !k.killed tid h
    running := p.running && !p.unstarted tid h
    kills := (p.kills.filter fun k => !(k.1 == tid)) ++ [(tid, h)] }

/-- The same in the image of an evicted region, with the tokens withdrawn there (R320, R332). -/
def Region.beyond (r : Region) (tid : Nat) (h : Coord) : Nat :=
  r.saved.foldl (fun n c => n + c.plane.beyond tid h) (r.savedPark.filter fun k => k.2.killed tid h).length
def Region.kill (r : Region) (tid : Nat) (h : Coord) : Region :=
  { r with
    saved := r.saved.map fun c => { c with plane := c.plane.kill tid h }
    savedPark := r.savedPark.filter fun k => !k.2.killed tid h }

/-- KILL (R195): the message goes to every cell of the region and its partners; one whose cells stand in an image is reached at
once. -/
def execKill (src : BitVec 1) (s : State) : Out :=
  let c := s.curCtx
  let (s, want) := s.killTarget c src
  let h := match (s.ctx c).horizon with
    | some old => if want.lt old then want else old
    | none => want
  let tid := (s.ctx c).tid
  let region := (s.ctx c).region
  let cells := s.groupPids region
  let gone := ((s.group region).map fun r => if r.saved.isEmpty then 0 else r.beyond tid h).foldl (· + ·) 0
  let s := s.modSaved region fun r => r.kill tid h
  let s := s.modCore (c / 16) fun k => { k with killQ := k.killQ ++ cells.map fun pid => (pid, tid, h) }
  let s := s.modTake tid fun t => { t with killed := some h }
  .next ((s.modCtx c fun x => { x with horizon := some h, killing := !cells.isEmpty, sent := x.sent - gone }).ctxAdv c 1)

def execScriptIllegal (pc info : BitVec 64) (s : State) : Out := .next (s.scriptTrap s.curCtx pc info)

/-! ## Events of parse contexts -/

/-- Whether the scan of a waiting context shows the slot that it waits for: the test of a choose group needs the current
granule, the next mark or the second mark (R177), every other word a slot at POS (R187). -/
def State.scanShows (c : Nat) : Bool :=
  let x := s.ctx c
  let ts := s.terms c
  let marks := ts.filter fun e => e.2 != 0
  let isCode := fun (t : BitVec 4) => t != 0 && t != 8
  match s.fetchScriptAt c x.pc x.lastPc, x.head with
  | .choose t _, _ => if isCode t then !marks.isEmpty else !ts.isEmpty
  | .look _ _, .atLook choose =>
    match s.fetchScriptAt c choose choose with
    | .choose t _ => if isCode t then !(marks.drop 1).isEmpty else !marks.isEmpty
    | _ => !marks.isEmpty
  | _, _ => !ts.isEmpty

/-- HEAD_SLOT_VISIBLE (R197): a slot that a waiting context may read has become visible to its scan. -/
def execHeadSlotVisible (core ctx : Nat) (s : State) : Out :=
  let c := core * 16 + ctx
  let x := s.ctx c
  .next (if x.blind && (x.state == .decide || x.state == .scan) && s.scanShows c then
      s.modCtx c fun x => { x with blind := false }
    else s)

/-- LOOKSTARVE (R178): the slot that a decision needs can never be claimed. -/
def execLookstarve (core ctx : Nat) (s : State) : Out :=
  let c := core * 16 + ctx
  let x := s.ctx c
  .next <|
    match s.headRing c with
    | none => s
    | some r =>
      if x.state == .decide && x.blind && r.free == 0 && decide (r.reclaim < r.tail)
          && sideColour (s.side r r.reclaim) == s.ctxColour c && decide (x.pos ≤ r.reclaim) then
        s.mismatch c 0x0802 x.pc 0xFF x.pos
      else s

/-- The slots a recovery retires: those of the colour up to the sync slot, filled so far, and the sync mark when it is
reached (R181 step 4). -/
def syncScan (offend level : Nat) : List (Nat × Nat) → List (Nat × Nat) × Option Nat
  | [] => ([], none)
  | e :: r =>
    if offend ≤ e.1 && levelAtLeast e.2 level then ([e], some e.2)
    else let (a, b) := syncScan offend level r; (e :: a, b)

/-- The data of a FWD clause's BAD granule (R181 step 5). -/
def badData (at_ : Coord) (code : Nat) : Gran :=
  BitVec.ofNat 512 (at_.seq.toNat + at_.grp.toNat * 2 ^ 32 + at_.row.toNat * 2 ^ 64 + code * 2 ^ 96)

/-- The end of a recovery: the stack is cut back and the resume nonterminal begins (R181 step 6). -/
def State.resume (c clause re : Nat) : State :=
  let s := s.modCtx c fun x => { x with stack := x.stack.take x.depth0, synced := none, state := .run }
  match s.ntAt c re with
  | none => s.badPlace c clause
  | some i => s.toNT c i

/-- The FWD clause and the end of a recovery whose sync is reached (R181 steps 5 and 6). R181 names no plane for HO: it is looked up
as EMIT's handle is, in cell 0's plane TPLANE; and R183 lists no ONERR under WORD: the NOHANDLE record holds the index of the ONERR
and COORD after the sync (DESIGN CHOICE, log 56). On an exit ring the granules wait as a commit does (R330). -/
def State.recoverTail (c : Nat) (cl : Nat × Nat × Nat × Bool × Nat) (mark : Nat) : State :=
  let (idx, re, _, fwd, ho) := cl
  if !fwd then s.resume c idx re
  else
    match s.ctxHandle c (s.ctx c).tplane ho with
    | none => s.failTake (s.ctx c).tid 0x0807 (seqUnit c) (s.headWord c) (s.seqDetail c idx 0xFF (s.ctx c).pos)
    | some b =>
      if s.exitFull b.key 2 then s.ctxWait c .space false else
      let (s, got) := s.scriptClaim c b 2
      match got with
      | none => s.ctxWait c .space false
      | some ns =>
        let x := s.ctx c
        (s.scriptFill c b.key b.dtag ns [(7, badData x.coordAt x.code), (mark, 0)]).resume c idx re

/-- SCRIPT_RECOVERY (R181): the record is written, then the context recovers or its take fails; a recovery waits for
the tokens sent, syncs as slots fill, writes the FWD granules and resumes. -/
def execScriptRecovery (core ctx : Nat) (s : State) : Out :=
  let c := core * 16 + ctx
  let x := s.ctx c
  .next <|
    match x.state, s.clause c with
    | .mismatch, none => s.failTakeAt x.missedAt x.tid x.code (seqUnit c) (s.headWord c) x.detail
    | .mismatch, some _ =>
      let s := match s.take x.tid with
        | none => s
        | some t => s.postTake t
            { cls := 2, act := actOf x.code 2, code := x.code, unit := seqUnit c, addr := s.headWord c, detail := x.detail,
              at_ := some x.missedAt }
      s.modCtx c fun x => { x with state := .recover }
    | .recover, some cl =>
      match x.synced with
      | some m => s.recoverTail c cl m
      | none =>
        if x.sent != 0 then s
        else
          match s.headRing c with
          | none => s
          | some r =>
            -- slots below POS that some live branch has not retired, then the terminals from POS on
            let old := (s.termsFrom c 0).filter fun e => decide (e.1 < x.pos) && !r.done e.1
            let (ts, m) := syncScan x.offend cl.2.2.1 (s.termsFrom c x.pos)
            let s := s.retireAll r.key (old.map (·.1))
            let s := s.passRetire c ts
            match m with
            | none => s
            | some m => (s.modCtx c fun x => { x with synced := some m }).recoverTail c cl m
    | .space, some cl =>
      match x.synced with
      | some m => if s.scriptTries c then s.recoverTail c cl m else s
      | none => s
    | _, _ => s

/-- CALL_RETURN (R192): the child has ended, executed SRET or failed. -/
def execCallReturn (core ctx : Nat) (s : State) : Out :=
  let c := core * 16 + ctx
  let x := s.ctx c
  .next <|
    if x.state != .call || x.childDone == 0 then s
    else
      let s := s.modCtx c fun x => { x with childDone := 0 }
      if x.childDone == 2 then s.mismatch c 0x0805 x.pc 0xFF x.pos else s.ctxAdv c 2

/-- WAITW_WAKE (R194): the window has triggered since the WAITW executed. A take that waited for an external window is
outstanding again (R30). -/
def execWaitwWake (core ctx : Nat) (s : State) : Out :=
  let c := core * 16 + ctx
  let x := s.ctx c
  .next <|
    if x.state == .window && x.waitHit then
      let s := match s.take x.tid with
        | none => s
        | some t => s.noteOutstanding t.job (t.region / 256 % 8)
      s.ctxAdv c 1
    else s

end Sys2Proof.Machine
end

