-- ==== Sys2Proof/Machine/Links.lean ====
section
/-!
DEFINITION. Links: classes and paths, the coding of messages, ports, the issue of a message, and the accesses that leave
their die as messages of class 7 (13_messages, R290 to R298).
-/
namespace Sys2Proof.Machine

variable (s : State)

/-! ## Paths (R15, R292) -/

/-- The compute die at the far end of a die port; the row's ends lead to the I/O dies (R15). -/
def farEnd (d p : Nat) : Option Nat :=
  match p with
  | 0 => if d % 4 == 0 then none else some (d - 1)
  | 1 => if d % 4 == 3 then none else some (d + 1)
  | 2 => some (d ^^^ 4)
  | 3 => some (d ^^^ 5)
  | _ => none

/-- The port of a die toward another in its row's direction (R292). -/
def rowPort (x e : Nat) : Nat := if e % 4 < x % 4 then 0 else 1

/-- NextHop: the port by which a fragment leaves die `x` for die `e` (R292). -/
def nextHop (x e : Nat) : Nat :=
  match (List.range 4).find? fun p => farEnd x p == some e with
  | some p => p
  | none => if x % 4 / 2 != e % 4 / 2 then rowPort x e else if x / 4 != e / 4 then 2 else rowPort x e

/-- The ports crossed from die `x` to die `e`; `n` bounds them (R292). -/
def hopsTo (e : Nat) : Nat → Nat → List (Nat × Nat)
  | 0, _ => []
  | n + 1, x =>
    if x == e then []
    else
      let p := nextHop x e
      (x, p) :: match farEnd x p with | some y => hopsTo e n y | none => []

/-- The die ports that a fragment on path `p` from die `d` to die `e` leaves (R292). -/
def routeTo (d p e : Nat) : List (Nat × Nat) := (d, p) :: match farEnd d p with | some x => hopsTo e 16 x | none => []

/-- The die ports from a die along its row to an I/O die (R292), and from an I/O die along the row to a die (log 24). -/
def routeOut (d io : Nat) : List (Nat × Nat) :=
  if io == 0 then ((List.range (d % 4 + 1)).map fun i => (d - i, 0)) else (List.range (4 - d % 4)).map fun i => (d + i, 1)
def routeIn (io e : Nat) : List (Nat × Nat) := hopsTo e 16 (e / 4 * 4 + if io == 0 then 0 else 3)

/-- The I/O die of an external port: UALink p is p, Ultra Ethernet p is 16 + p (R16). -/
def ioOf (x : Nat) : Nat := if x < 16 then x / 8 else (x - 16) / 4

/-- The name of pod package p as the destination of an access: the firmware's table gives its endpoint (R290, R337; log 23). -/
def podEp (p : Nat) : Nat := 2 ^ 22 + p

/-- The target of a destination: 0 to 7 a die of the package, 8 UALink, 9 Ultra Ethernet (R290, R292); 16 and 17 the I/O dies. -/
def State.targetOf (job ep die : Nat) : Nat :=
  if ep == s.pkg.endpoint then (if die < 8 then die else 8 + die)
  else if 2 ^ 22 ≤ ep then 8
  else if ((s.job job).map fun j => j.endpoints.any fun e => e.1 == ep && e.2).getD false then 8
  else 9

/-- The paths that exist from a die to a target (R292); one along a row between an I/O die and a die. -/
def existing (d t : Nat) : List Nat :=
  if 8 ≤ d || 16 ≤ t then [0]
  else if t < 8 then (List.range 4).filter fun p => (farEnd d p).isSome else List.range 8

/-- The mask that enables every existing path. -/
def fullMask (d t : Nat) : BitVec 8 := BitVec.ofNat 8 ((existing d t).foldl (fun n p => n + 2 ^ p) 0)

def State.cls (d c : Nat) : MsgClass := look {} (s.die d).classes c
def State.modClass (d c : Nat) (f : MsgClass → MsgClass) : State :=
  s.modDie d fun x => { x with classes := ins x.classes c (f (look {} x.classes c)) }

/-- The path mask of a class for a target; at reset it enables every path that exists (R292). -/
def State.mask (d c t : Nat) : BitVec 8 := (find (s.cls d c).paths t).getD (fullMask d t)

/-- The enabled paths that exist, ascending (R296). -/
def State.pathsFor (d c t : Nat) : List Nat := (existing d t).filter fun p => (s.mask d c t).getLsbD p

/-! ## Coding (R294, R295) -/

/-- A product in GF(2^8) with the polynomial 0x11D, by shift and add. -/
def gmulFrom : Nat → Nat → Nat → Nat
  | 0, _, _ => 0
  | n + 1, a, b =>
    let a2 := if 128 ≤ a then (2 * a) ^^^ 0x11D else 2 * a
    (if b % 2 == 1 then a else 0) ^^^ gmulFrom n a2 (b / 2)
def gmul (a b : Nat) : Nat := gmulFrom 8 a b

/-- The inverse of a nonzero element: the one `y` with x · y = 1. -/
def ginv (x : Nat) : Nat := ((List.range 256).find? fun y => gmul x y == 1).getD 0

/-- The coefficient of data fragment `j` in parity fragment `i` (R294). -/
def cauchy (i j : Nat) : Nat := ginv (i ^^^ (4 + j))

/-- Data and parity fragments of a message (R294). -/
def Msg.k (m : Msg) : Nat := (m.data.length + 255) / 256
def mOf (code : Nat) : Nat := if code == 3 then 4 else code
def Msg.total (m : Msg) : Nat := m.k + mOf m.mcode

/-- The bytes of a data fragment, padded with zeros. -/
def Msg.dataFrag (m : Msg) (j : Nat) : List Byte :=
  let b := (m.data.drop (256 * j)).take 256
  b ++ List.replicate (256 - b.length) 0

/-- The bytes of fragment `n` (R294). -/
def Msg.fragBytes (m : Msg) (n : Nat) : List Byte :=
  if n < m.k then m.dataFrag n
  else (List.range m.k).foldl (fun acc j =>
    let c := cauchy (n - m.k) j
    (acc.zip (m.dataFrag j)).map fun x => BitVec.ofNat 8 (x.1.toNat ^^^ gmul c x.2.toNat)) (List.replicate 256 0)

/-- CRC-32C, reflected: eight steps for each byte. -/
def crcStep : Nat → Nat → Nat
  | 0, c => c
  | n + 1, c => crcStep n (if c % 2 == 1 then (c / 2) ^^^ 0x82F63B78 else c / 2)
def crc32c (bs : List Byte) : BitVec 32 :=
  BitVec.ofNat 32 ((bs.foldl (fun c b => crcStep 8 (c ^^^ b.toNat)) 0xFFFFFFFF) ^^^ 0xFFFFFFFF)

/-- Header bytes 0 to 23 (R295). -/
def Frag.header (f : Frag) : List Byte :=
  leBytes 4 f.msgid ++ leBytes 4 (f.die * 2 ^ 22 + f.srcEp % 2 ^ 22) ++ leBytes 4 (f.dstDie * 2 ^ 22 + f.dstEp % 2 ^ 22)
    ++ leBytes 1 f.idx ++ leBytes 1 f.k
    ++ leBytes 1 (f.mcode % 4 + (if f.ord then 4 else 0) + f.cls % 8 * 8 + f.ftype % 4 * 64) ++ leBytes 1 f.hops
    ++ leBytes 2 f.len ++ leBytes 2 f.job ++ leBytes 4 0

/-- CHECK of a fragment's header and payload (R295). -/
def Frag.crc (f : Frag) : BitVec 32 := crc32c (f.header ++ leBytes 256 f.payload.toNat)

/-! ## Ports (R15, R292, R295) -/

/-- Delivered inside its die: it uses no link and cannot be lost (R290). -/
def Msg.inside (m : Msg) (own : Nat) : Bool := m.srcEp == own && m.dstEp == own && m.dstDie == m.die

/-- The ports that a fragment leaves on its way: the die ports of its path, or those along its row to the I/O die of an external
port and that port (R292). -/
def portsTo (die dstDie path : Nat) (ext : Option Nat) : List Port :=
  match ext with
  | some x => ((routeOut die (ioOf x)).map fun e => Port.die e.1 e.2) ++ [.ext x]
  | none =>
    if die == dstDie then []
    else (if 8 ≤ die then routeIn (die - 8) dstDie else if 8 ≤ dstDie then routeOut die (dstDie - 8) else routeTo die path dstDie).map
      fun e => Port.die e.1 e.2

/-- The external port of a path: UALink alternates between two ports by fragment, `n` counting those sent (R292). -/
def extPort (t path n : Nat) : Option Nat :=
  if t < 8 || 16 ≤ t then none else if t == 8 then some (2 * path + n % 2) else some (16 + path)

/-- The external port that the next fragment of a die on a path leaves by, and the state in which the path's two UALink ports have
taken turns (R292; log 24). -/
def State.turnPort (die t path : Nat) : State × Option Nat :=
  let n := look 0 (s.die die).alternate path
  (if t == 8 then s.modDie die fun d => { d with alternate := ins d.alternate path ((n + 1) % 2) } else s, extPort t path n)

/-- UNIT of a port (R18, R316). -/
def Port.unit : Port → BitVec 16
  | .die d p => unitOfNum d p 0x17
  | .ext x => if x < 16 then unitOfNum (ioOf x) x 0x1B else unitOfNum (ioOf x) (x - 16) 0x1C

/-- A port is out of use, at either end of a die link (R292, R316). -/
def State.portDown : Port → Bool
  | .die d p =>
    (s.die d).portDown.getLsbD p
      || match farEnd d p with
        | some e => (s.die e).portDown.getLsbD (if p == 0 then 1 else if p == 1 then 0 else p)
        | none => false
  | .ext x => s.pkg.extDown.contains x

/-- A job's LINKB bucket of a port is not empty; external ports carry no budget (R272, R307). -/
def State.inBudget (job : Nat) : Port → Bool
  | .die d p =>
    let limit := (((s.job job).bind fun j => j.contract[d]?).bind fun c => c.linkb[p]?).getD 0
    decide (look 0 (s.die d).linkb (job * 4 + p) < limit)
  | .ext _ => true

/-- LINKB counts data and parity fragments, no control fragment (R307). -/
def Frag.budgeted (f : Frag) : Bool := f.ctl == 0

/-- A fragment whose bucket at its port is empty gives way to one in budget that waits there (R272). -/
def State.givesWay (f : Frag) (p : Port) : Bool :=
  f.budgeted && !s.inBudget f.job p && s.wire.any fun g => g.budgeted && g.ports.head? == some p && s.inBudget g.job p

/-- 25 µs in clk (R295). -/
def holdClk : Nat := 45000

/-- The port that holds a fragment lets it go: it works, HOPS lasts, CHECK holds, the fragment has been held for less than 25 µs,
and LINKB allows it (R272, R295). -/
def State.mayCross (f : Frag) : Bool :=
  match f.ports with
  | [] => true
  | p :: _ => !s.portDown p && 1 < f.hops && f.check == f.crc && decide (s.clk < f.since + holdClk) && !s.givesWay f p

/-- A fragment can come to the end of its path: no port is left but the one that holds it. -/
def State.crosses (f : Frag) : Bool := f.ports.length ≤ 1 && s.mayCross f

/-- The clk of the last crossing of a port, or since which traffic waits there (R316). -/
def State.setPortLast : Port → State
  | .die d p => s.modDie d fun x => { x with portLast := ins x.portLast p s.clk }
  | .ext x => { s with pkg := { s.pkg with extLast := ins s.pkg.extLast x s.clk } }

/-- Traffic comes to a port; it begins to wait there where none waited (R316). -/
def State.nowWaits (f : Frag) : State :=
  match f.ports with
  | [] => s
  | p :: _ => if s.wire.any fun g => g.ports.head? == some p then s else s.setPortLast p

/-- A fragment is put at its first port, its CHECK computed (R295). -/
def State.putFrag (f : Frag) : State :=
  let s := s.nowWaits f
  { s with wire := s.wire ++ [{ f with since := s.clk, check := f.crc }] }

def State.msgOf (mid : Nat) : Option Msg := s.msgs.find? fun m => m.mid == mid
def State.modMsg (mid : Nat) (f : Msg → Msg) : State :=
  { s with msgs := s.msgs.map fun m => if m.mid == mid then f m else m }

/-- A port has let a fragment go: its bucket is charged 256 bytes at a die port, and a delay at an external port is observed as
cause 4 of the message's take (R272, R274, R307; log 36). -/
def State.portLeft (f : Frag) (p : Port) : State :=
  let s := s.setPortLast p
  match p with
  | .die d q =>
    if !f.budgeted then s
    else s.modDie d fun x => { x with linkb := ins x.linkb (f.job * 4 + q) (look 0 x.linkb (f.job * 4 + q) + 256) }
  | .ext _ => if f.since < s.clk then s.cause (((s.msgOf f.mid).map Msg.tid).getD 0) 4 else s

/-- A fragment goes on to the next port of its path: HOPS falls by one and CHECK is computed anew (R295). -/
def State.hop (idx : Nat) (f : Frag) (p : Port) (rest : List Port) : State :=
  let s := { s with wire := s.wire.eraseIdx idx }
  (s.portLeft f p).putFrag { f with ports := rest, hops := f.hops - 1 }

/-! ## Issue of a message (R294, R296, R298, R299) -/

/-- A message is unresolved until it is PACKed or has raised SPRAYLOSS (R304). -/
def Msg.unresolved (m : Msg) : Bool := !m.packed && !m.lostM

def roundUp256 (n : Nat) : Nat := (n + 255) / 256 * 256

/-- Bytes of the retransmit store that a message takes (R299). -/
def State.storeOf (m : Msg) : Nat :=
  if m.inside s.pkg.endpoint || m.dacked || !m.unresolved then 0 else roundUp256 m.data.length
def State.storeRoom (die n : Nat) : Bool :=
  decide ((s.msgs.foldl (fun k m => if m.die == die then k + s.storeOf m else k) 0) + roundUp256 n ≤ 4194304)

def State.dstEntry (die ep ed : Nat) : Option DstEntry := (s.die die).dsts.find? fun x => x.ep == ep && x.die == ed

/-- The identifier that the next message to a destination gets (R298). -/
def State.nextMsgid (die ep ed : Nat) : Nat := ((s.dstEntry die ep ed).map DstEntry.next).getD 0

/-- A destination entry, the issue limit and store room allow `c` messages of `n` bytes in all: none of the identifiers 4,096 below
theirs is unresolved (R298, R299). -/
def State.mayIssueAll (c die ep ed n : Nat) : Bool :=
  let old := (s.nextMsgid die ep ed + 2 ^ 32 - 4096) % 2 ^ 32
  ((s.dstEntry die ep ed).isSome || (s.die die).dsts.length < 1024)
    && s.msgs.all (fun m => !(m.srcEp == s.pkg.endpoint && m.die == die && m.dstEp == ep && m.dstDie == ed
      && decide ((m.msgid + 2 ^ 32 - old) % 2 ^ 32 < c) && m.unresolved))
    && ((ep == s.pkg.endpoint && die == ed) || s.storeRoom die n)
def State.mayIssue (die ep ed n : Nat) : Bool := s.mayIssueAll 1 die ep ed n

/-- A message of this package gets its identifiers and its sending begins; one to its own die is there at once (R290, R294,
R298). -/
def State.launch (m : Msg) : State :=
  let id := s.nextMsgid m.die m.dstEp m.dstDie
  let m := { m with srcEp := s.pkg.endpoint }
  let inside := m.inside s.pkg.endpoint
  let m := { m with
    mid := s.serial
    msgid := id
    mcode := (s.cls m.die m.cls).m
    paths := s.pathsFor m.die m.cls (s.targetOf m.job m.dstEp m.dstDie)
    lastSent := s.clk
    dacked := inside
    decoded := inside }
  let m := { m with todo := if inside then [] else List.range m.total }
  let e : DstEntry := { ep := m.dstEp, die := m.dstDie, next := (id + 1) % 2 ^ 32, last := s.clk }
  let s := s.bump.modDie m.die fun d =>
    { d with dsts := (d.dsts.filter fun x => !(x.ep == e.ep && x.die == e.die)) ++ [e] }
  { s with msgs := s.msgs ++ [m] }

/-! ## Messages at their destination (R297, R298, R303) -/

/-- The external port at which a message of another package is decoded (R297). -/
def State.outsidePort (job ep msgid : Nat) : Nat := if s.targetOf job ep 0 == 8 then msgid % 16 else 16 + msgid % 8

/-- Where a message is decoded: the die, or 8 and 9 for the I/O dies, and its port (R297). -/
def State.decodes (m : Msg) : Nat × Nat :=
  if m.srcEp == s.pkg.endpoint then (m.dstDie, m.msgid % 4)
  else let x := s.outsidePort m.job m.srcEp m.msgid; (8 + ioOf x, x)

/-- `a` is at or below `b`, as serial numbers (R298). -/
def serialLe (a b : Nat) : Bool := (b + 2 ^ 32 - a) % 2 ^ 32 < 2 ^ 31

/-- An identifier at or below H - 4,096 (R298). -/
def SrcEntry.below (e : SrcEntry) (id : Nat) : Bool := serialLe id e.high && 4096 ≤ (e.high + 2 ^ 32 - id) % 2 ^ 32

def State.srcEntry (m : Msg) : Option SrcEntry :=
  let at_ := s.decodes m
  (s.die at_.1).srcs.find? fun e => e.port == at_.2 && e.srcEp == m.srcEp && e.srcDie == m.die

/-- A message's identifier no longer holds back later ordered ones: it has performed, is ABORTED, or has left the
destination's window (R298, R303). -/
def State.passed (m : Msg) : Bool :=
  m.performed || m.aborted || match s.srcEntry m with | some e => e.below m.msgid | none => false

/-- An ordered message is the next of its source and destination: every lower ordered identifier has passed. Of another package's
messages the one before it is known, and is waited for even where no fragment of it has arrived (R303). -/
def State.inTurn (m : Msg) : Bool :=
  !m.ord ||
    if m.srcEp == s.pkg.endpoint then
      s.msgs.all fun x => !(x.ord && x.srcEp == m.srcEp && x.die == m.die && x.dstEp == m.dstEp && x.dstDie == m.dstDie
        && decide (x.mid < m.mid)) || s.passed x
    else
      match m.pred with
      | none => true
      | some id =>
        s.msgs.any (fun x => x.srcEp == m.srcEp && x.die == m.die && x.dstDie == m.dstDie && x.msgid == id && s.passed x)
          || ((s.srcEntry m).map fun e => e.below id).getD false

/-- The writes of one link perform in the order in which the link received them (R365). -/
def State.linkTurn (m : Msg) : Bool :=
  m.kind != 6 || s.msgs.all fun x => !(x.kind == 6 && x.access == m.access && decide (x.mid < m.mid)) || x.performed || x.lostM

/-- A decoded message may perform: an ordered one only in its turn (R303), a host write in its link's. One whose writes travel on
as messages performs with the last of them (R297). -/
def State.mayPerform (m : Msg) : Bool :=
  m.decoded && !m.performed && !m.stalled && !m.carried && m.dstEp == s.pkg.endpoint && s.inTurn m && s.linkTurn m

/-- The slice whose cache translates a message's addresses at its destination (log 24). -/
def Msg.slice (m : Msg) : Nat := m.dstDie * 64

/-- A message that carries the place of its bytes: writes that another package's message has translated (R297), and a host access
to the memory of another package (log 23). -/
def Msg.placed (m : Msg) : Bool := m.kind == 5 || (6 ≤ m.kind && 2 ^ 22 ≤ m.dstEp)

/-- The die of a message's destination, one of pod package p as a home names it. -/
def Msg.homeDie (m : Msg) : Nat := if 2 ^ 22 ≤ m.dstEp then 8 + 8 * (m.dstEp - 2 ^ 22) + m.dstDie else m.dstDie

/-- The place of an address of a message: carried with it, or as the destination's cache translates it. -/
def State.msgPlace (m : Msg) (va : Nat) : Option Phys :=
  if m.placed then
    let key := m.laddr + (va - m.raddr)
    some { key, die := m.homeDie, slice := homeSlice (key % 2 ^ 64) }
  else (s.tlbFind m.slice (s.asid m.job) va false).map fun e => physOf e.pte e.level va

/-- The writes of a message of another package go on to their homes as messages of class 7 (R297). -/
def State.goesOn (m : Msg) : Bool := m.srcEp != s.pkg.endpoint && m.kind != 1

/-- The home slices of the lines that a message itself reads or writes at its destination, where they are translated: a stream
message fills a ring, and an access of a plane waits as that plane's operation. -/
def State.msgHomes (m : Msg) : List Nat :=
  if s.goesOn m || m.kind == 2 || m.kind == 4 then []
  else (List.range ((m.raddr % 64 + m.len + 63) / 64)).filterMap fun i =>
    (s.msgPlace m (max m.raddr ((m.raddr / 64 + i) * 64))).map fun p => p.die * 64 + p.slice

/-! ## Acknowledgements (R298, R299) -/

/-- A control fragment of a class and job, sent on the first two enabled paths, or once inside a die (R299). -/
def State.sendCtl (m : Msg) (die ep ed ctl : Nat) (list : List Nat) (report : List (Nat × Nat)) (arg : Nat) : State :=
  let t := s.targetOf m.job ep ed
  let inside := ep == s.pkg.endpoint && die == ed
  let paths := if inside then [0] else (s.pathsFor die m.cls t).take 2
  let ack := s.serial
  s.bump.fold paths fun s p =>
    let (s, ext) := if inside then (s, none) else s.turnPort die t p
    s.putFrag
      { die, ports := portsTo die ed p ext, mid := m.mid, msgid := 0, srcEp := s.pkg.endpoint, dstEp := ep, dstDie := ed,
        cls := m.cls, ftype := 2, job := m.job, ctl, ack, list, report, arg }

/-- A source entry in use now takes its place at its port (R298). -/
def State.putSrc (d : Nat) (e : SrcEntry) : State :=
  let e := { e with last := s.clk }
  s.modDie d fun x =>
    { x with srcs := (x.srcs.filter fun y => !(y.port == e.port && y.srcEp == e.srcEp && y.srcDie == e.srcDie)) ++ [e] }

/-- The loss counts that an acknowledgement carries: those owed to the source, which are then settled (R298). -/
def State.settleOwed (m : Msg) : State × List (Nat × Nat) :=
  match s.srcEntry m with
  | none => (s, [])
  | some e => (s.putSrc (s.decodes m).1 { e with owed := [] }, e.owed)

/-- An acknowledgement to the source of a message: 1 DACK, 2 PACK, 3 NACK, 4 LOSS. -/
def State.acknowledge (m : Msg) (ctl : Nat) (list : List Nat) : State :=
  let (s, owed) := s.settleOwed m
  let report := if list.isEmpty then owed else owed ++ [(m.cls, list.length)]
  s.sendCtl m m.dstDie m.srcEp m.die ctl list report 0

/-- A message has performed, and PACK goes back (R302). -/
def State.performed (m : Msg) : State := (s.modMsg m.mid fun m => { m with performed := true }).acknowledge m 2 []

/-! ## Accesses of class 7 (R291) -/

/-- A memory operation leaves its die as a message of class 7: its home lies on another die, and it is no suppressed write of a
shadow (R291, R329). -/
def MemOp.leavesDie (o : MemOp) (pid : Nat) : Bool := !(o.home / 64 == dieOf pid) && !(o.suppressed && o.isWrite)

/-- The pod package that a memory operation's home lies in (R291). -/
def MemOp.pod (o : MemOp) : Option Nat := if o.home < 512 then none else some (o.home / 512 - 1)

/-- The message of a memory operation. -/
def MemOp.isMsg (o : MemOp) (pid : Nat) (m : Msg) : Bool := m.kind == 4 && m.pid == pid && m.access == o.id && m.raddr == o.va

/-- A destination entry, the issue limit and store room allow accesses of `n` bytes in all to lines at home on a die (R298,
R299). -/
def State.farRoom (pid die n : Nat) : Bool :=
  die == dieOf pid
    || s.mayIssueAll (n / 256) (dieOf pid) (if die < 8 then s.pkg.endpoint else podEp (die / 8 - 1)) (die % 8) n

/-- The message of class 7 that carries a memory operation to its home's die (R291). Its LEN is the size of the access (log 24). -/
def State.accessMsg (pid : Nat) (o : MemOp) : Msg :=
  { mid := 0, die := dieOf pid, dstEp := (o.pod.map podEp).getD s.pkg.endpoint, dstDie := o.home / 64 % 8, job := o.job,
    tid := o.tid, pid, cls := 7,
    kind := 4, ord := false, data := if o.kind == .store then o.data else List.replicate o.size 0, len := o.size,
    raddr := o.va, laddr := 0, lv := false, lctr := 0, ract := 0, rctr := 0, msgid := 0, mcode := 0, access := o.id }

/-- A memory operation begins its way home: one message where its home lies on another die (R291). -/
def State.sendAccess (pid : Nat) (o : MemOp) : State := if o.leavesDie pid then s.launch (s.accessMsg pid o) else s

/-- A memory operation is at its home: its message, where it needs one, has been decoded. -/
def State.atHome (pid : Nat) (o : MemOp) : Bool :=
  !o.leavesDie pid || s.msgs.any fun m => o.isMsg pid m && m.dstEp == s.pkg.endpoint && m.decoded && !m.performed

/-- The message of an operation that performs at its home: PACK goes back and brings the result (R291, R302; log 24). -/
def State.accessDone (pid : Nat) (o : MemOp) : State :=
  match s.msgs.find? fun m => o.isMsg pid m && !m.performed with
  | none => s
  | some m => s.performed m

/-! ## The order of outstanding operations, and a slice's budget (R213, R226, R272) -/

/-- Whether an outstanding operation may perform: accesses of one firing to one address perform in program order
(R226), its atomics on one home line in issue order (R213), and a release after its earlier writes (R223): for the line
operations of an MSAVE those before the MSAVE, for the second line of a 128-byte access those before the access (R203). -/
def Plane.mayPerform (p : Plane) (o : MemOp) : Bool :=
  let isAtomic (x : MemOp) : Bool := match x.kind with | .atomic _ => true | .load => false | .store => false
  let release := o.isWrite && (o.ord == 2 || o.ord == 3)
  o.got.isNone && p.memq.all (fun x =>
    !(decide (x.id < o.id) && x.fid == o.fid && x.got.isNone
      && ((decide (x.va < o.va + o.size) && decide (o.va < x.va + x.size))
        || (isAtomic x && isAtomic o && lineOf x.key == lineOf o.key))))
    && (o.mat != 0 || !p.behindSave o.fid o.id o.va o.size)
    && (!release || p.writesDone o.fid (if o.mat != 0 then o.mat else if o.second then o.id - 1 else o.id))

/-- A request from a job whose bucket at the slice is not empty waits there: an outstanding operation or a message (R272;
log 36). -/
def State.waitsAt (home : Nat) : Bool :=
  s.planes.any (fun e => e.2.memq.any fun x =>
      x.home == home && s.memBudget home x.job && e.2.mayPerform x && s.atHome e.1 x)
    || s.msgs.any fun m => s.memBudget home m.job && s.mayPerform m && (s.msgHomes m).contains home

/-- A slice serves a job's request: one whose bucket is empty waits while an in-budget one waits there (R272). -/
def State.served (home job : Nat) : Bool := s.memBudget home job || !s.waitsAt home

/-- The homes of a plane's dirty lines serve its write-back now: of all of them, or of those that `sel` takes (R208, R272). -/
def State.backServed (pid : Nat) (sel : StashLine → Bool) : Bool :=
  (s.plane pid).stash.all fun l =>
    l.dirty == 0 || !sel l || s.served (dieOf pid * 64 + homeSlice (l.key % 2 ^ 64)) l.job

/-- The least recently used line of a full set, which a fill evicts (R205). -/
def Plane.stashVictim (p : Plane) (va : Nat) : Option StashLine :=
  let set := p.stash.filter fun l => l.vline % p.sets == va / 64 % p.sets
  if 8 ≤ set.length then set.head? else none

/-- The homes of a line and of the line that its fill evicts serve the plane now (R206, R208, R272). -/
def State.fillServed (pid job va : Nat) (ph : Phys) : Bool :=
  s.served (ph.die * 64 + ph.slice) job
    && match (s.plane pid).stashVictim va with
      | some l => s.backServed pid fun x => x.vline == l.vline && x.job == l.job
      | none => true

/-- A release of die scope or wider: it waits until its write-back is served, and writes the plane's stash back (R208, R272). -/
def State.afterBack (body : State → State) : State :=
  if s.backServed s.cur fun _ => true then body (s.writeBack s.cur) else s.hold .retry 0

end Sys2Proof.Machine
end

