-- ==== Sys2Proof/Machine/Operands.lean ====
section
/-!
DEFINITION. Operand forms of stage instructions: the guard (R42), scalar width (R84), immediates, addresses and the
helper functions of R58.
-/
namespace Sys2Proof.Machine

/-- ScalarIn of a register value (R58). -/
def scalarIn (x : Word) (w : BitVec 2) : Word :=
  if w == 0 then x
  else if w == 1 then (x.setWidth 32).signExtend 64
  else (x.setWidth 32).setWidth 64

/-- ScalarOut (R58): the low bits of the result, extended by W. -/
def scalarOut (x : Word) (w : BitVec 2) : Word := scalarIn x w

/-- N of R84. -/
def scalarWidth (w : BitVec 2) : Nat := if w == 0 then 64 else 32

/-- SignExtend(x, N) of a register value (R84). -/
def signedIn (x : Word) (w : BitVec 2) : Int := if w == 0 then x.toInt else (x.setWidth 32).toInt

/-- ZeroExtend(x, N) of a register value (R84). -/
def unsignedIn (x : Word) (w : BitVec 2) : Nat := x.toNat % 2 ^ scalarWidth w

/-- Imm of ADDI (R58): sign-extended. -/
def signImm (i : BitVec 32) : Word := i.signExtend 64
/-- Imm of ANDI, ORI, XORI and LUI (R58): zero-extended. -/
def zeroImm (i : BitVec 32) : Word := i.setWidth 64

/-- Guard (R42, R58). -/
def State.guard (s : State) (g : BitVec 3) (gn : BitVec 1) : Bool := (s.rP g.toNat ^^^ gn) == 1

/-- A stage instruction: with a true guard its effect, with a false guard none but the next index (R42). -/
def stage (g : BitVec 3) (gn : BitVec 1) (s : State) (body : State → State) : Out :=
  .next (if s.guard g gn then body s else s.adv)

/-- A stage instruction that writes one S register and goes on. -/
def stageS (g : BitVec 3) (gn : BitVec 1) (s : State) (d : BitVec 5) (v : State → Word) : Out :=
  stage g gn s fun s => (s.wS d.toNat (v s)).adv

/-- EA (R58). -/
def State.ea (s : State) (a : BitVec 5) (off : BitVec 24) : Word := s.rS a.toNat + off.signExtend 64

/-- An indexed access of a vector: element `i` of width `w` (R52, R58). -/
def elem (v : Vec) (i w : Nat) : Nat := v.toNat / 2 ^ (i * w) % 2 ^ w

/-- The vector whose elements of width `w` are listed, element 0 first; missing elements are zero. -/
def vecOf (w : Nat) (l : List Nat) : Vec :=
  BitVec.ofNat 1024 (l.foldr (fun x acc => acc * 2 ^ w + x % 2 ^ w) 0)

/-- The bytes of a vector register, byte 0 first. -/
def vbytes (v : Vec) : List Byte := (List.range 128).map fun i => v.extractLsb' (8 * i) 8

/-- The low half of a V register, granule 0, and the high half, granule 1 (R36). -/
def half (v : Vec) (n : Nat) : Gran := v.extractLsb' (512 * n) 512

/-- Whether the mask lets element `i` of width `w` through (MaskBit, R58). -/
def maskBit (m : Word) (i w : Nat) : Bool := m.getLsbD (if 16 ≤ w then i else if w == 8 then i / 2 else i / 4)

end Sys2Proof.Machine
end

