-- ==== Sys2Proof/Machine/Ring.lean ====
section
/-!
DEFINITION. Ring, binding and multicast instructions, and the events of ring controllers (06_rings, R103 to R123).
-/
namespace Sys2Proof.Machine

variable (s : State)

/-! ## Handles and windows -/

/-- A bound handle of the current plane with its ring; a handle whose ring is gone holds nothing. -/
def State.handle (h : Nat) : Option (Handle × Ring) :=
  match find s.pl.h h with
  | none => none
  | some b => (s.ringOf b).map fun r => (b, r)

/-- A bound handle of the current plane waits for the region of its ring (R356). -/
def State.away (h : Nat) : Bool := ((find s.pl.h h).map s.farAway).getD false

/-- A ring instruction waits at issue for earlier queued matrix operations on its handle to take their windows
(R154), and for an acquire of its firing to have performed (R223). -/
def State.ringBusy (h : Nat) : Bool :=
  s.pl.mq.any (fun o => o.useH && o.h == h && !o.took && !o.held) || !s.pl.acquired s.pl.firing.fid

/-- DETACH on a handle, which is unbound from then on (R111 step 4, R319). -/
def State.detachTrap (h : Nat) : State := (s.modPl fun p => { p with h := del p.h h }).trap 10 (w64 h) 3

/-- Slots of resident windows that have ended and whose retire is held back: for later instructions they are retired (R108,
R109). -/
def Plane.ending (p : Plane) (key branch : Nat) : List Nat :=
  p.resid.flatMap fun e => if e.2.ended && e.2.key == key && e.2.branch == branch then e.2.slots else []

/-- The slots of a branch that later operations on the handle pass over: those that started matrix operations of the plane have
taken and will retire (R154), and those of resident windows that have ended. -/
def Plane.taken (p : Plane) (key branch : Nat) : List Nat :=
  (p.mq.flatMap fun o => if o.adv && o.took && o.bind.key == key && o.bind.branch == branch then o.slots else [])
    ++ p.ending key branch

/-- The BAD slot of a detached branch is retired, or is a resident window that has ended (R109, R111). -/
def Plane.badRetired (p : Plane) (b : Handle) (k : BadSlot) : Bool :=
  k.retired || p.resid.any fun e => e.2.ended && e.2.bad && e.2.key == b.key && e.2.branch == b.branch

/-- What a consumer instruction finds on its handle (R103, R109, R111, R112). -/
inductive RingLook
  /-- RINGFAULT with a subcode. -/
  | fault (sub : Nat)
  | detach
  | wait
  | window (ns : List Nat)
  /-- The BAD slot of a branch detached by timeout. -/
  | bad (b : BadSlot)
  deriving DecidableEq, Repr

/-- The window of a firing of a colour through a binding: the resident one, or the oldest `nw` slots (R103, R109).
`moves` says that the instruction advances or retires. The BAD slot of a detached branch is a window of its own that firings
of every colour see, also on a by-colour ring: R111 states no colour that it is kept from (DESIGN CHOICE, log 39); where it
is the resident window, R109 rule 2 governs it as any other (log 39). A window whose count a firing has brought to zero is the
resident window until that firing's END: a firing that runs meanwhile, the other being parked, addresses it and leaves the count
(DESIGN CHOICE, log 39: R109 does not say). -/
def State.lookAt (b : Handle) (r : Ring) (colour nw : Nat) (moves : Bool) : RingLook :=
  let sticky := fun (x : Resid) => (!r.shared && b.res != 0 && b.resColour != colour) || x.nw < nw || moves
  if !r.isLive b.branch then
    match find r.bad b.branch with
    | none => .fault 6
    | some k =>
      if ((s.pl.residOf b).map fun x => x.bad && sticky x).getD false then .fault 5
      else if s.pl.badRetired b k || 1 < nw then .detach
      else .bad k
  else
    match s.pl.residOf b with
    | some x =>
      if sticky x then .fault 5
      else if x.slots.isEmpty then .wait
      else .window (x.slots.take nw)
    | none =>
      match s.windowPast (s.pl.taken b.key b.branch) r b.branch colour nw with
      | none => .wait
      | some ns => .window ns

/-- The slots that RADV awaits one at a time: up to the first mark of a level, or `nw` of them; none while one it needs
is not filled (R120). -/
def State.radvScan (r : Ring) (ml : Nat) : Nat → List Nat → Option (List Nat × Bool)
  | 0, _ => some ([], false)
  | _ + 1, [] => none
  | k + 1, n :: rest =>
    if !r.isFilled n then none
    else if levelAtLeast (sideMark (s.side r n)) ml then some ([n], true)
    else (State.radvScan r ml k rest).map fun x => (n :: x.1, x.2)

/-- Sticky accounting of a consumer instruction or a matrix instruction at issue (R109 rules 1, 3, 4, R154): the
state and the number of the resident window that the instruction reads, 0 for none. `ns` are the slots of a new
resident window, where they are known. -/
def State.stick (h : Nat) (b : Handle) (st nw : Nat) (ns : List Nat) : State × Nat :=
  let f := s.pl.firing
  if b.resId == 0 then
    if st == 0 then (s, 0)
    else
      let id := s.serial
      let b' := { b with res := st, resColour := f.colour, resTid := f.tid, resId := id }
      (s.bump.modPl fun p =>
        { p with
          h := ins p.h h b'
          resid := ins p.resid id { key := b.key, branch := b.branch, nw, slots := ns, h, tid := f.tid }
          firing := { p.firing with counted := p.firing.counted ++ [h] } }, id)
  else if f.counted.contains h then (s, b.resId)
  else
    let n := b.res - 1
    (s.modPl fun p =>
      { p with
        h := ins p.h h { b with res := n }
        firing := { p.firing with
          counted := p.firing.counted ++ [h]
          retireAtEnd := if n == 0 then p.firing.retireAtEnd ++ [b.resId] else p.firing.retireAtEnd } }, b.resId)

/-- Sticky accounting of a consumer instruction that reads a BAD slot, which becomes the resident window as any window
does (R109, R111). -/
def State.stickBad (h : Nat) (b : Handle) (st : Nat) : State :=
  let (s, id) := s.stick h b st 1 []
  s.modPl fun p => { p with resid := mapTab (fun i x => if i == id then { x with bad := true } else x) p.resid }

/-- The slots that an advance retires: NW of them, or through the first mark of a level (R116). -/
def State.advanceOf (r : Ring) (am ml : Nat) (ns : List Nat) : List Nat :=
  if am == 0 then []
  else if am == 1 then ns
  else
    let before := ns.takeWhile fun n => !levelAtLeast (sideMark (s.side r n)) ml
    before ++ (ns.drop before.length).take 1

/-- Retires slots of a handle's branch, if there are any. -/
def State.retireSome (b : Handle) (ns : List Nat) : State := if ns.isEmpty then s else s.retire b.key b.branch ns

/-- An earlier commit through the handle, of this firing or of one before it, is not complete: a retire may not overtake it
(R108). -/
def State.commitPending (h : Nat) : Bool := s.pl.commits.any fun c => c.h == h

/-! ## The common rules of MAJ 0x0C (R116) -/

/-- The branch of a handle was detached by timeout and its BAD slot is retired: the next instruction on the handle raises
DETACH (R111 step 4). -/
def State.badGone (h : Nat) : Bool :=
  match s.handle h with
  | none => false
  | some (b, r) => !r.isLive b.branch && ((find r.bad b.branch).map fun k => s.pl.badRetired b k).getD false

/-- The checks that every ring operand instruction makes before any effect (R116). R116 does not say which subcode is
raised where NWSIZE and DETACHED or STICKY both hold: the model raises NWSIZE (DESIGN CHOICE, log 40). -/
def ringOp (o : OpH) (s : State) (body : State → Handle → Ring → State) : Out :=
  stage o.g o.gn s fun s =>
    let h := o.h.toNat
    if s.ringBusy h then s.hold .retry 0
    else
      match s.handle h with
      | none => if s.away h then s.hold .window 0 else s.ringFault h 1
      | some (b, r) =>
        if r.size < o.nw.toNat then s.ringFault h 2
        else if s.badGone h then s.detachTrap h
        else body s b r

/-- A consumer instruction: it awaits its window, acts on the sidebands and data it sees, accounts for residency, and
advances (R103, R109, R116, R119). -/
def consumer (o : OpH) (s : State) (act : State → List (Side × Gran) → State) : Out :=
  ringOp o s fun s b r =>
    let h := o.h.toNat
    if o.am != 0 && s.commitPending h then s.hold .retry 0
    else
      match s.lookAt b r s.pl.firing.colour o.nw.toNat (o.am != 0) with
      | .fault sub => s.ringFault h sub
      | .detach => s.detachTrap h
      | .wait => s.hold .window 0
      | .bad k =>
        let s := (act s [(k.side, 0)]).stickBad h b o.st.toNat
        (if o.am == 0 then s else s.retireBadSlot b.key b.branch).adv
      | .window ns =>
        let s' := act s (ns.map fun n => (s.side r n, s.gran r n))
        let s' := (s'.stick h b o.st.toNat o.nw.toNat ns).1
        (s'.retireSome b (s.advanceOf r o.am.toNat o.ml.toNat ns)).adv

/-- The claimed window of a handle for the running firing (R104). -/
def State.claimed (h : Nat) : List Nat := look [] s.pl.firing.claims h

/-- An instruction on the oldest NW slots of the claimed window; fewer raise NOCLAIM (R117, R118). -/
def producer (o : OpH) (s : State) (act : State → Handle → Ring → List Nat → State) : Out :=
  ringOp o s fun s b r =>
    let c := (s.claimed o.h.toNat).take o.nw.toNat
    if c.length < o.nw.toNat then s.ringFault o.h.toNat 3 else act s b r c

/-! ## CLAIM, COMMIT (R117) -/

/-- The slots of a granted claim join the claimed window of a firing's handle. -/
def Firing.addClaim (f : Firing) (h : Nat) (ns : List Nat) : Firing :=
  { f with claims := ins f.claims h (look [] f.claims h ++ ns) }

def execClaim (o : OpH) (s : State) : Out :=
  ringOp o s fun s b r =>
    let h := o.h.toNat
    let f := s.pl.firing
    let q : ClaimReq := { who := .firing s.cur f.fid h, nw := o.nw.toNat, colour := f.colour, tid := f.tid, fid := f.fid,
                          dtag := b.dtag }
    match s.takeGranted b.key q.who with
    | some (s, ns) => (s.modFiring s.cur fun f => f.addClaim h ns).adv
    | none =>
      if r.passedPlace q.who s.clk then s.hold .retry 0
      else
        match s.claimNow b.key r q with
        | (s, some ns) => (s.modFiring s.cur fun f => f.addClaim h ns).adv
        | (s, none) => s.hold .claim 0

/-- COMMIT issues at once; its slots become filled by COMMIT_FILLED when the release is complete (R104, R117). -/
def execCommit (o : OpH) (s : State) : Out :=
  producer o s fun s b _ c =>
    let h := o.h.toNat
    let f := s.pl.firing
    let p : PendCommit := { id := s.serial, bind := b, slots := c, fid := f.fid, tid := f.tid, h, upTo := s.serial,
                            coord := f.coord }
    let s := s.bump.modPl fun q =>
      { q with
        commits := q.commits ++ [p]
        firing := { q.firing with claims := put [] q.firing.claims h ((look [] q.firing.claims h).drop c.length) } }
    s.adv

/-! ## RST, RMARK, RFMT (R118) -/

def execRst (o : OpH) (s : State) : Out :=
  producer o s fun s _ r c =>
    let v := s.rV o.v.toNat
    (s.fold (c.zip [half v 0, half v 1]) fun s e => s.setGran r e.1 e.2).adv

/-- Writes the sideband of the slot at GO. -/
def State.editSide (r : Ring) (w : List Nat) (go : Nat) (f : Side → Side) : State :=
  match w[go]? with
  | none => s
  | some n => s.setSide r n (f (s.side r n))

def execRmark (o : OpH) (s : State) : Out :=
  producer o s fun s _ r c =>
    let m := fld (s.rS o.v.toNat) 13 3
    (s.editSide r c o.go.toNat fun w => mkSide m (sideFmt w) (sideValid w) (sideColour w)).adv

def execRfmt (o : OpH) (s : State) : Out :=
  producer o s fun s _ r c =>
    let x := s.rS o.v.toNat
    (s.editSide r c o.go.toNat fun w => mkSide (sideMark w) (fld x 10 3) (fld x 4 6) (sideColour w)).adv

/-! ## AWAIT, RLD, RPEEK (R119) -/

def execAwait (o : OpH) (s : State) : Out := consumer o s fun s _ => s

def execRld (o : OpH) (s : State) : Out :=
  consumer o s fun s w =>
    let g := fun (i : Nat) => ((w[i]?).map fun e => e.2).getD 0
    s.wV o.v.toNat ((if o.nw == 2 then g 1 else 0) ++ g 0)

def execRpeek (o : OpH) (s : State) : Out :=
  consumer o s fun s w => s.wS o.v.toNat ((((w[o.go.toNat]?).map Prod.fst).getD 0 : Side).setWidth 64)

/-! ## RETIRE, RADV (R120) -/

def execRetire (o : OpH) (s : State) : Out :=
  ringOp o s fun s b r =>
    let h := o.h.toNat
    if s.commitPending h then s.hold .retry 0
    else
      match s.lookAt b r s.pl.firing.colour o.nw.toNat true with
      | .fault sub => s.ringFault h sub
      | .detach => s.detachTrap h
      | .wait => s.hold .window 0
      | .bad _ => (s.retireBadSlot b.key b.branch).adv
      | .window ns => (s.retireSome b ns).adv

/-- The slots that RADV may await: those of its window that no started matrix operation has taken (R120, R154). -/
def State.radvSlots (b : Handle) (r : Ring) : List Nat :=
  (s.visible r b.branch s.pl.firing.colour).filter fun n => !(s.pl.taken b.key b.branch).contains n

/-- The result word of RADV: found in bit 7, the count in [6:0]. -/
def radvWord (found : Bool) (count : Nat) : Word := w64 ((if found then 128 else 0) + count % 128)

def execRadv (o : OpH) (s : State) : Out :=
  ringOp o s fun s b r =>
    let h := o.h.toNat
    if s.commitPending h then s.hold .retry 0
    else if !r.isLive b.branch || b.resId != 0 then
      match s.lookAt b r s.pl.firing.colour o.nw.toNat true with
      | .fault sub => s.ringFault h sub
      | .detach => s.detachTrap h
      | .wait | .window _ => s.hold .window 0
      | .bad _ => ((s.retireBadSlot b.key b.branch).wS o.v.toNat (radvWord false 1)).adv
    else
      match s.radvScan r o.ml.toNat o.nw.toNat (s.radvSlots b r) with
      | none => s.hold .window 0
      | some (ns, found) => ((s.retireSome b ns).wS o.v.toNat (radvWord found ns.length)).adv

/-! ## Binding, multicast and status (R121, R122) -/

/-- Firings whose state holds claims on a plane: the running one and the parked ones (R105, R114). -/
def State.planeFirings (pid : Nat) : List Firing :=
  let p := s.plane pid
  (if p.running then [p.firing] else []) ++ p.ownParks.map Parked.firing
    ++ s.takes.flatMap fun e => (e.2.parked.filter fun k => k.pid == pid).map Parked.firing

/-- A handle in use: a nonzero residency count, or claims held by any colour (R114). -/
def State.handleInUse (h : Nat) : Bool :=
  ((find s.pl.h h).map fun b => b.res != 0).getD false
    || (s.planeFirings s.cur).any fun f => !(look [] f.claims h).isEmpty

/-- The binding that a word of R107 asks for, when RBIND may make it (R121). -/
def State.bindingOf (w : Word) : Option Handle :=
  let lg := fld w 28 4
  let cid := dieOf s.cur * 256 + fld w 4 4 * 16 + fld w 0 4
  let base := fld w 18 10
  let branch := fld w 32 3
  if fld w 39 25 != 0 || fld w 35 1 != 0 || fld w 8 10 != 0 || lg < 2 || 10 < lg then none
  else
    match s.ring (ringKey cid base) with
    | none => none
    | some r =>
      if r.job == s.pl.job && r.lg == lg && r.isLive branch then some { cell := cid, base, lg, branch, dtag := fld w 36 3 }
      else none

/-- A handle instruction of MAJ 0x0D: it waits for queued matrix operations on the handle (R154) and while the region of the handle's
ring is away (R356), and raises the DETACH that R111 step 4 names. -/
def handleOp (o : OpK) (s : State) (body : State → Nat → State) : Out :=
  stage o.g o.gn s fun s =>
    let h := fld o.kreg 0 4
    if s.ringBusy h then s.hold .retry 0
    else if s.away h then s.hold .window 0
    else if s.badGone h then s.detachTrap h
    else body s h

def execRbind (o : OpK) (s : State) : Out :=
  handleOp o s fun s h =>
    if s.handleInUse h then s.ringFault h 9
    else
      match s.bindingOf (s.rS o.a.toNat) with
      | none => s.ringFault h 7
      | some b => (s.modPl fun p => { p with h := ins p.h h b }).adv

def execRunbind (o : OpK) (s : State) : Out :=
  handleOp o s fun s h =>
    if s.handleInUse h then s.ringFault h 9 else (s.modPl fun p => { p with h := del p.h h }).adv

/-- Sets a ring's live mask and timeout; branches that become live start afresh (R112, R121). -/
def Ring.recast (r : Ring) (live : BitVec 8) (timeout clk : Nat) : Ring :=
  let fresh := (List.range 8).filter fun b => live.getLsbD b && !r.live.getLsbD b
  { r with
    live
    timeout
    bad := r.bad.filter fun e => !fresh.contains e.1
    since := fresh.foldl (fun t b => ins t b clk) r.since }

def execRcast (o : OpK) (s : State) : Out :=
  handleOp o s fun s h =>
    match s.handle h with
    | none => if s.away h then s.hold .window 0 else s.ringFault h 1
    | some (b, r) =>
      let w := s.rS o.a.toNat
      let live := w.setWidth 8
      if fld w 8 8 != 0 || fld w 40 24 != 0 || ((live &&& ~~~r.live) != 0 && !r.slots.isEmpty) then s.ringFault h 8
      else ((s.modRing b.key fun r => r.recast live (fld w 16 24) s.clk).reclaim b.key).adv

def execRdet (o : OpK) (s : State) : Out :=
  handleOp o s fun s h =>
    match s.handle h with
    | none => if s.away h then s.hold .window 0 else s.ringFault h 1
    | some (b, _) => (s.dropBranch b.key b.branch).adv

/-- The status word of a handle (R122). -/
def State.statusWord (h : Nat) : Word :=
  match s.handle h with
  | none => 0
  | some (b, r) =>
    let live := r.isLive b.branch
    let seen := (s.visible r b.branch s.pl.firing.colour).filter fun n => !(s.pl.ending b.key b.branch).contains n
    let filled := if live then (seen.filter r.isFilled).length
      else if ((find r.bad b.branch).map fun k => !s.pl.badRetired b k).getD false then 1 else 0
    w64 ((if r.shared then 2 ^ 61 else 0) + (if live then 0 else 2 ^ 60) + r.live.toNat * 2 ^ 52 + b.branch % 8 * 2 ^ 49
      + b.res % 16 * 2 ^ 45 + (s.claimed h).length % 2 ^ 11 * 2 ^ 32 + r.free % 2 ^ 11 * 2 ^ 16 + filled % 2 ^ 11)

/-- RSTAT (R122): it waits while the region of the handle's ring is away (R356). -/
def execRstat (o : OpK) (s : State) : Out :=
  stage o.g o.gn s fun s =>
    let h := fld o.kreg 0 4
    if s.away h then s.hold .window 0
    else if s.badGone h then s.detachTrap h
    else (s.wS o.d.toNat (s.statusWord h)).adv

/-! ## Events of ring controllers -/

/-- CLAIM_GRANT (R104, R114): the oldest waiting claim is granted once FREE allows it. A firing's slots join its claimed
window and it goes on; the slots of any other claimant, and of a firing that has been parked at its CLAIM, wait for it in
`granted`. -/
def execClaimGrant (ring : Nat) (s : State) : Out :=
  .next <| s.onDie (ring / 2 ^ 18) <|
    match s.ring ring with
    | none => s
    | some r =>
      match r.queue with
      | [] => s
      | q :: rest =>
        if r.free < q.nw then s
        else
          let (s, ns) := s.grant ring q.nw q.dtag q.colour q.tid q.fid
          let s := s.modRing ring fun r =>
            let r := if q.came == s.clk then r.noteGrant q.who s.clk else r
            { r with queue := rest }
          let keep := s.modRing ring fun r => { r with granted := r.granted ++ [(q.who, ns)] }
          match q.who with
          | .firing pid fid h =>
            let p := s.plane pid
            if p.running && p.firing.fid == fid && p.firing.wait == .claim then
              s.modFiring pid fun f =>
                { f.addClaim h ns with lastPc := f.pc, pc := f.pc + 1, wait := .none }
            else keep
          | .drain _ _ | .stream _ | .script _ | .bridge _ _ => keep

/-- Whether a kill horizon that reached the plane is below a coordinate of a take's firing (R195 step 2). -/
def Plane.killsCoord (p : Plane) (tid : Nat) (c : Coord) : Bool :=
  p.kills.any fun k => k.1 == tid &&
    (k.2.seq.ult c.seq || (k.2.seq == c.seq && (k.2.grp.ult c.grp || (k.2.grp == c.grp && k.2.row.ult c.row))))

/-- Resident windows that a commit held back and nothing holds back any more are retired (R108, R109). -/
def State.freeResids (pid : Nat) : State :=
  s.fold ((s.plane pid).resid.filter fun e => e.2.ended) fun s e => s.dropResid pid e.1

/-- COMMIT_FILLED (R104): the release is complete, and the granules become filled, or are retired for every branch
when the firing lies beyond the kill horizon (R195). A release of die scope writes the stash back (R208). A commit waits
while the region of its ring is away (R356); one whose ring is gone for good has nothing to fill. -/
def execCommitFilled (pid idx : Nat) (s : State) : Out :=
  let p := s.plane pid
  .next <| s.onDie (dieOf pid) <|
    match p.commits[idx]? with
    | none => s
    | some c =>
      let key := c.bind.key
      let earlier := p.commits.any fun d => decide (d.id < c.id) && (d.bind.key == key || d.fid == c.fid)
      if !p.writesDone c.fid c.upTo || earlier || s.farAway c.bind || s.exitFull key c.slots.length
          || !s.backServed pid fun _ => true then s
      else
        let s := s.writeBack pid
        let s := s.modPlane pid fun p => { p with commits := p.commits.erase c }
        let s := if p.killsCoord c.tid c.coord then (s.retireAll key c.slots).reclaim key
          else s.fill key c.slots c.tid (cellOf pid)
        (s.freeResids pid).planeFree pid

/-- Whether the consumer instruction that a plane's firing waits in would not wait now. -/
def State.windowReady (pid : Nat) : Bool :=
  let s := { s with cur := pid }
  let ready (o : OpH) (moves : Bool) : Bool :=
    match s.handle o.h.toNat with
    | none => !s.away o.h.toNat
    | some (b, r) => s.lookAt b r s.pl.firing.colour o.nw.toNat moves != .wait
  match s.fetchStage with
  | .rld o | .rpeek o | .await o => ready o (o.am != 0)
  | .retire o => ready o true
  | .claim o | .commit o | .rst o | .rmark o | .rfmt o | .mldbHandle o | .mldbtHandle o => !s.away o.h.toNat
  | .mma o | .mmaAdv o | .mscaHandle o => !s.away o.ha.toNat
  | .mscbHandle o | .mkb o => !s.away o.hb.toNat
  | .rcast o | .rdet o | .rstat o | .rbind o | .runbind o => !s.away (fld o.kreg 0 4)
  | .radv o =>
    match s.handle o.h.toNat with
    | none => !s.away o.h.toNat
    | some (b, r) =>
      if !r.isLive b.branch || b.resId != 0 then true
      else (s.radvScan r o.ml.toNat o.nw.toNat (s.radvSlots b r)).isSome
  | _ => true

/-- WINDOW_PRESENT (R103): the window that a firing awaits is present, and its instruction may issue. -/
def execWindowPresent (pid : Nat) (s : State) : Out :=
  let p := s.plane pid
  .next <| s.onDie (dieOf pid) (if p.running && p.firing.wait == .window && s.windowReady pid then
      s.modFiring pid fun f => { f with wait := .none }
    else s)

/-- RETIRE_ARRIVAL (R101, R106): retires have reached the ring controller. -/
def execRetireArrival (ring : Nat) (s : State) : Out := .next (s.onDie (ring / 2 ^ 18) (s.reclaim ring))

/-- The oldest filled slot that a branch has not retired (R111 step 2). -/
def Ring.oldestHeld (r : Ring) (branch : Nat) : Option Nat :=
  (r.slots.find? fun e => e.2.filled && !e.2.gone branch).map (·.1)

/-- Residencies through a branch end when it is detached by timeout: its window is the BAD slot from then on. -/
def State.clearResidencies (key branch : Nat) : State :=
  s.fold (s.handlesOn key branch) fun s e => s.modPlane e.1 fun p =>
    { p with
      h := match find p.h e.2 with
        | none => p.h
        | some b => ins p.h e.2 b.clear
      resid := p.resid.filter fun x => !(x.2.key == key && x.2.branch == branch) }

/-- BRANCH_DETACH_TIMEOUT (R111). -/
def execBranchDetachTimeout (ring branch : Nat) (s : State) : Out :=
  .next <| s.onDie (ring / 2 ^ 18) <|
    match s.ring ring with
    | none => s
    | some r =>
      match r.oldestHeld branch with
      | none => s
      | some n =>
        if r.timeout == 0 || !r.isLive branch || s.clk < look 0 r.since branch + r.timeout then s
        else
          let w := s.side r n
          let bad : BadSlot := { side := mkSide 7 (sideFmt w) 0 (sideColour w) }
          let s := s.dropBranch ring branch
          let s := s.modRing ring fun r => { r with bad := ins r.bad branch bad }
          let s := s.clearResidencies ring branch
          s.post { cls := 2, act := actOf 0x0301 2, code := 0x0301, unit := unitOfCell r.die r.cell 3, job := r.job,
                   addr := (r.word branch r.fmt).toNat, detail := branch }

end Sys2Proof.Machine
end

