-- ==== Sys2Proof/Machine/Num.lean ====
section
/-!
DEFINITION. Number formats and arithmetic (04_numbers, R59 to R70).
A finite value is a sign and a magnitude in units of 2^-512; `more` says that the exact value lies above the
magnitude by less than its last computed digit, which is how an irrational or non-terminating result keeps its rounding.
-/
namespace Sys2Proof.Machine

/-- An exact value: NaN, an infinity, or a finite value with its sign (zeros are signed). -/
inductive Num
  | nan
  | inf (neg : Bool)
  | fin (neg : Bool) (mag : Nat) (more : Bool)
  deriving DecidableEq, Repr

/-- The unit exponent: magnitudes count 2^-512. -/
def unitExp : Nat := 512

/-- A floating format (R59): fraction width, bias, encoding of the largest finite value, and whether the format has
infinities and NaNs; encodings without the sign bit. -/
structure Fmt where
  frac : Nat
  bias : Nat
  width : Nat
  maxEnc : Nat
  hasInf : Bool
  hasNan : Bool
  deriving DecidableEq, Repr

/-- The floating formats by tag (R59); tags 5 and 7 are integers and are not read through this table. -/
def fmtOf (t : Nat) : Fmt :=
  match t with
  | 0 => ⟨23, 127, 32, 0x7F7FFFFF, true, true⟩
  | 1 => ⟨7, 127, 16, 0x7F7F, true, true⟩
  | 2 => ⟨10, 15, 16, 0x7BFF, true, true⟩
  | 3 => ⟨3, 7, 8, 0x7E, false, true⟩
  | 4 => ⟨2, 15, 8, 0x7B, true, true⟩
  | _ => ⟨1, 1, 4, 0x7, false, false⟩

/-- Whether a tag number is floating. -/
def isFlt (t : Nat) : Bool := t != 5 && t != 7

/-- ElemWidth of a tag number (R58). -/
def widthOf (t : Nat) : Nat := elemWidth (BitVec.ofNat 3 t)

/-- An `n`-bit pattern read as two's complement (SignExtend, R58). -/
def toInt (n : Nat) (x : Nat) : Int := let y := x % 2 ^ n; if 2 ^ n ≤ 2 * y then (y : Int) - 2 ^ n else y

/-- The low `n` bits of an integer. -/
def ofInt (n : Nat) (x : Int) : Nat := (x % (2 ^ n : Int)).toNat

/-- The sign bit of an encoding. -/
def signOf (f : Fmt) (x : Nat) : Bool := x / 2 ^ (f.width - 1) % 2 == 1

/-- The encoding without its sign bit. -/
def magOf (f : Fmt) (x : Nat) : Nat := x % 2 ^ (f.width - 1)

/-- NaN encodings (R59). -/
def isNanEnc (t : Nat) (x : Nat) : Bool :=
  let f := fmtOf t
  f.hasNan && (if f.hasInf then f.maxEnc + 1 < magOf f x else f.maxEnc < magOf f x)

/-- Value (R60), with the subnormals of tags 0, 1 and 2 read as zeros of their sign when `ftz` holds (R68). -/
def value (t : Nat) (ftz : Bool) (x : Nat) : Num :=
  if isFlt t then
    let f := fmtOf t
    let m := magOf f x
    let neg := signOf f x
    if isNanEnc t x then .nan
    else if f.hasInf && m == f.maxEnc + 1 then .inf neg
    else
      let e := m / 2 ^ f.frac
      let fr := m % 2 ^ f.frac
      if e == 0 then
        if ftz && t ≤ 2 then .fin neg 0 false else .fin neg (fr * 2 ^ (unitExp + 1 - f.bias - f.frac)) false
      else .fin neg ((2 ^ f.frac + fr) * 2 ^ (unitExp + e - f.bias - f.frac)) false
  else
    let v := toInt (widthOf t) x
    .fin (v < 0) (v.natAbs * 2 ^ unitExp) false

/-- The canonical NaN of a tag (R61); tags without NaN give the NaN row of R66. -/
def canonNan (t : Nat) : Nat :=
  match t with
  | 0 => 0x7FC00000 | 1 => 0x7FC0 | 2 => 0x7E00 | 3 => 0x7F | 4 => 0x7E | _ => 0

/-- One step of the LFSR (R64). -/
def lfsrStep (l : BitVec 32) : BitVec 32 :=
  let r := l >>> 1
  if l.getLsbD 0 then r ^^^ 0x80200003 else r

/-- Rounds `mag`, given in units, to a multiple of 2^k units by mode: the count of multiples and the new LFSR
(R63, R64). The value is on the grid when no remainder is left. -/
def roundUnits (neg : Bool) (mag : Nat) (more : Bool) (k : Nat) (rm : Nat) (l : BitVec 32) : Nat × BitVec 32 :=
  let lo := mag / 2 ^ k
  let rem := mag % 2 ^ k
  if rem == 0 && !more then (lo, l)
  else
    let twice := 2 * rem
    let cmp : Nat := if twice < 2 ^ k then 0 else if twice == 2 ^ k && !more then 1 else 2
    match rm with
    | 0 => (if cmp == 2 || (cmp == 1 && lo % 2 == 1) then lo + 1 else lo, l)
    | 1 => (lo, l)
    | 2 => (if neg then lo else lo + 1, l)
    | 3 => (if neg then lo + 1 else lo, l)
    | 4 => (if cmp == 0 then lo else lo + 1, l)
    | _ =>
      let l' := lfsrStep l
      (if l'.toNat % 2 ^ 24 < rem * 2 ^ 24 / 2 ^ k then lo + 1 else lo, l')

/-- The sign bit of a width. -/
def signBit (w : Nat) (neg : Bool) : Nat := if neg then 2 ^ (w - 1) else 0

/-- Overflow to infinity or to the largest finite value by mode (second table of R66). -/
def ieeeOverflow (f : Fmt) (neg : Bool) (rm : Nat) : Nat :=
  let toMax := match rm with
    | 1 => true
    | 2 => neg
    | 3 => !neg
    | _ => false
  signBit f.width neg + (if toMax then f.maxEnc else f.maxEnc + 1)

/-- An integer clamped to a tag's range and encoded (R66, R67). -/
def clampInt (w : Nat) (v : Int) : Nat :=
  if v < -(2 ^ (w - 1) : Int) then 2 ^ (w - 1)
  else if (2 ^ (w - 1) : Int) - 1 < v then 2 ^ (w - 1) - 1
  else ofInt w v

/-- The result of an infinite input by destination (R66). -/
def infEnc (t : Nat) (neg sat : Bool) : Nat :=
  if isFlt t then
    let f := fmtOf t
    if f.hasInf then signBit f.width neg + f.maxEnc + 1
    else if f.hasNan then signBit f.width neg + (if sat then f.maxEnc else f.maxEnc + 1)
    else signBit f.width neg + f.maxEnc
  else if neg then 2 ^ (widthOf t - 1) else 2 ^ (widthOf t - 1) - 1

/-- RoundTo (R58, R63 to R68): the encoding in tag `t` and the LFSR after it. -/
def roundTo (x : Num) (t rm : Nat) (sat ftz : Bool) (l : BitVec 32) : Nat × BitVec 32 :=
  match x with
  | .nan => (canonNan t, l)
  | .inf neg => (infEnc t neg sat, l)
  | .fin neg mag more =>
    if isFlt t then
      let f := fmtOf t
      -- the exponents of the least and the greatest quantum, in units
      let kmin := unitExp + 1 - f.bias - f.frac
      let kmax := kmin + f.maxEnc / 2 ^ f.frac - 1
      let k := if mag == 0 then kmin else min (max (mag.log2 - f.frac) kmin) kmax
      let (n, l') := roundUnits neg mag more k rm l
      let enc := (k - kmin) * 2 ^ f.frac + n
      let sg := signBit f.width neg
      if f.maxEnc < enc then
        (if !f.hasInf then (if f.hasNan && !sat then sg + f.maxEnc + 1 else sg + f.maxEnc)
         else if t != 0 && sat then sg + f.maxEnc
         else if t == 4 then sg + f.maxEnc + 1
         else ieeeOverflow f neg rm, l')
      else if ftz && t ≤ 2 && enc < 2 ^ f.frac then (sg, l')
      else (sg + enc, l')
    else
      let (n, l') := roundUnits neg mag more unitExp rm l
      (clampInt (widthOf t) (if neg then -(n : Int) else n), l')

/-- Negation, for x - y = x + (-y) (R69). -/
def Num.neg : Num → Num
  | .nan => .nan
  | .inf n => .inf (!n)
  | .fin n m r => .fin (!n) m r

/-- The exact sum with the sign of a zero result by mode (R62, R69). -/
def Num.add (rm : Nat) (x y : Num) : Num :=
  match x, y with
  | .nan, _ => .nan
  | _, .nan => .nan
  | .inf a, .inf b => if a == b then .inf a else .nan
  | .inf a, .fin _ _ _ => .inf a
  | .fin _ _ _, .inf b => .inf b
  | .fin a m _, .fin b n _ =>
    if a == b then .fin a (m + n) false
    else if m == n then .fin (rm == 3) 0 false
    else if n < m then .fin a (m - n) false
    else .fin b (n - m) false

/-- The exact product (R62, R69). Magnitudes of encodings are multiples of 2^(512-149) units, so the product of two
is a whole number of units. -/
def Num.mul (x y : Num) : Num :=
  match x, y with
  | .nan, _ => .nan
  | _, .nan => .nan
  | .inf a, .inf b => .inf (a != b)
  | .inf a, .fin b n _ => if n == 0 then .nan else .inf (a != b)
  | .fin a m _, .inf b => if m == 0 then .nan else .inf (a != b)
  | .fin a m _, .fin b n _ => .fin (a != b) (m * n / 2 ^ unitExp) false

/-- The value times 2^k, exact for encodings and k from -256 to 255 (R137). -/
def Num.scale (x : Num) (k : Int) : Num :=
  match x with
  | .nan => .nan
  | .inf n => .inf n
  | .fin n m r => if 0 ≤ k then .fin n (m * 2 ^ k.toNat) r else .fin n (m / 2 ^ (-k).toNat) r

/-- The order of two values that are not NaN, zeros by sign when `signedZero` holds (R70): less than. -/
def Num.lt (signedZero : Bool) (x y : Num) : Bool :=
  let key : Num → Int := fun
    | .nan => 0
    | .inf n => if n then -(2 ^ 2048 : Int) else 2 ^ 2048
    | .fin n m _ => if n then -(m : Int) else m
  let ng : Num → Bool := fun
    | .nan => false
    | .inf n => n
    | .fin n _ _ => n
  key x < key y || (signedZero && key x == key y && ng x && !ng y)

/-- Whether a value is NaN. -/
def Num.isNan : Num → Bool
  | .nan => true
  | .inf _ | .fin _ _ _ => false

/-- The integer square root, bit by bit from bit `i - 1` down. -/
def isqrtFrom (n : Nat) : Nat → Nat → Nat
  | 0, r => r
  | i + 1, r => let r' := r + 2 ^ i; isqrtFrom n i (if r' * r' ≤ n then r' else r)

/-- The integer square root of a number below 2^2048. -/
def isqrt (n : Nat) : Nat := isqrtFrom n 1024 0

/-- 1/x (R136). -/
def recipOf : Num → Num
  | .nan => .nan
  | .inf n => .fin n 0 false
  | .fin n m _ =>
    if m == 0 then .inf n
    else .fin n (2 ^ 1024 / m) (2 ^ 1024 % m != 0)

/-- 1/sqrt x (R136). -/
def rsqrtOf : Num → Num
  | .nan => .nan
  | .inf n => if n then .nan else .fin false 0 false
  | .fin n m _ =>
    if m == 0 then .inf n
    else if n then .nan
    else
      let y := isqrt (2 ^ 1536 / m)
      .fin false y (y * y * m != 2 ^ 1536)

/-- ln 2 times 2^512, rounded down. -/
def ln2 : Nat :=
  9293584264128987901384440660653081117630633404975079641076009770578364573633075645167623918067512986930843040596952636663673675798576024949780480621393957

/-- The Taylor sum of e^z from term `t` of order `i`, all in units, with `n` terms left. -/
def expTail (z : Nat) : Nat → Nat → Nat → Nat
  | 0, _, _ => 0
  | n + 1, i, t => t + expTail z n (i + 1) (t * z / 2 ^ unitExp / i)

/-- 2^x (R136): 2^n for the integer part, e^(f ln 2) for the fraction; beyond +-1024 the result overflows or is below
every quantum whatever its value. -/
def exp2Of : Num → Num
  | .nan => .nan
  | .inf n => if n then .fin false 0 false else .inf false
  | .fin n m _ =>
    let i := m / 2 ^ unitExp
    let f := m % 2 ^ unitExp
    -- x = e + g / 2^512 with 0 <= g < 2^512
    let e : Int := if n then (if f == 0 then -(i : Int) else -(i : Int) - 1) else i
    let g := if n && f != 0 then 2 ^ unitExp - f else f
    let frac := if g == 0 then 2 ^ unitExp else expTail (g * ln2 / 2 ^ unitExp) 120 1 (2 ^ unitExp)
    if 1024 < e then .fin false (2 ^ (unitExp + 1024)) (g != 0)
    else if e < -500 then .fin false 0 true
    else if 0 ≤ e then .fin false (frac * 2 ^ e.toNat) (g != 0)
    else
      let d := 2 ^ (-e).toNat
      .fin false (frac / d) (g != 0 || frac % d != 0)

/-- The binary digits of log2 of a number in [1, 2), given in units: `n` digits, by repeated squaring. -/
def log2Digits : Nat → Nat → Nat → Nat
  | 0, _, acc => acc
  | n + 1, y, acc =>
    let q := y * y / 2 ^ unitExp
    if 2 * 2 ^ unitExp ≤ q then log2Digits n (q / 2) (2 * acc + 1) else log2Digits n q (2 * acc)

/-- log2 x (R136): the exponent and 160 digits of the logarithm of the significand. No rule gives the sign of the exact zero
log2 1: the model takes +0 under every RM (DESIGN CHOICE, log 51). -/
def log2Of : Num → Num
  | .nan => .nan
  | .inf n => if n then .nan else .inf false
  | .fin n m _ =>
    if m == 0 then .inf true
    else if n then .nan
    else
      let b := m.log2
      let y := if unitExp ≤ b then m / 2 ^ (b - unitExp) else m * 2 ^ (unitExp - b)
      let e : Int := (b : Int) - unitExp
      if m == 2 ^ b then .fin (e < 0) (e.natAbs * 2 ^ unitExp) false
      else
        -- e + d / 2^160 < log2 x < e + (d + 1) / 2^160
        let d := log2Digits 160 y 0
        let v : Int := e * 2 ^ 160 + d
        if 0 ≤ v then .fin false (v.toNat * 2 ^ 352) true
        else .fin true (((-v).toNat - 1) * 2 ^ 352) true

end Sys2Proof.Machine
end

