-- ==== Sys2Proof/Machine/Flags.lean ====
section
/-!
DEFINITION. Conditions and the predicate and mask bits they give: CMP and CMPI (R92), VCMP (R70, R134).
-/
namespace Sys2Proof.Machine

/-- The condition of a scalar compare on two 64-bit values (R92). -/
def condHolds (cc : Cond) (a b : Word) : Bool :=
  match cc with
  | .eq => a == b
  | .ne => a != b
  | .lt => a.slt b
  | .ge => b.sle a
  | .ltu => a.ult b
  | .geu => b.ule a
  | .gt => b.slt a
  | .le => a.sle b
  | .gtu => b.ult a
  | .leu => a.ule b

/-- A predicate value (R92, R93). -/
def predBit (b : Bool) : BitVec 1 := if b then 1 else 0

/-- The condition of VCMP on two element encodings of a tag: floating tags compare by Value, with a NaN unordered;
integer tags compare signed or unsigned by the condition (R70, R134). -/
def elemHolds (cc : Cond) (t : Nat) (ftz : Bool) (a b : Nat) : Bool :=
  if isFlt t then
    let x := value t ftz a
    let y := value t ftz b
    if x.isNan || y.isNan then cc == .ne
    else match cc with
      | .eq => !x.lt false y && !y.lt false x
      | .ne => x.lt false y || y.lt false x
      | .lt | .ltu => x.lt false y
      | .ge | .geu => !x.lt false y
      | .gt | .gtu => y.lt false x
      | .le | .leu => !y.lt false x
  else
    let w := widthOf t
    let x := toInt w a
    let y := toInt w b
    match cc with
    | .eq => x == y
    | .ne => x != y
    | .lt => x < y
    | .ge => y ≤ x
    | .ltu => a < b
    | .geu => b ≤ a
    | .gt => y < x
    | .le => x ≤ y
    | .gtu => b < a
    | .leu => a ≤ b

end Sys2Proof.Machine
end

