-- ==== Sys2Proof/Machine/Vector.lean ====
section
/-!
DEFINITION. Vector instructions (07_vector, R125 to R145).
An element function takes the LFSR of the plane and gives it back, so stochastic roundings step it in element order.
-/
namespace Sys2Proof.Machine

/-- A value with the LFSR after it. -/
abbrev Drawn := Nat × BitVec 32

/-- Elements of a tag in a register (R125). -/
def lanesOf (t : Nat) : Nat := 1024 / widthOf t

/-- Runs an element function over indices in ascending order (R65). -/
def runLanes (f : Nat → BitVec 32 → Drawn) : List Nat → BitVec 32 → List Nat × BitVec 32
  | [], l => ([], l)
  | i :: r, l =>
    let (v, l1) := f i l
    let (vs, l2) := runLanes f r l1
    (v :: vs, l2)

/-- The plane's matrix queue holds an operation with RM 5: it draws stochastic roundings first, a release as the operation
that asks for it executes (R57, R65, R145). -/
def Plane.drawsQueued (p : Plane) : Bool := p.mq.any MatOp.sr

/-- A vector instruction: with RM 5 it waits for queued matrix operations with RM 5 (R145). -/
def vec (o : OpV) (s : State) (body : State → State) : Out :=
  stage o.g o.gn s fun s => if o.rm == 5 && s.pl.drawsQueued then s.hold .retry 0 else body s

/-- Writes a V register and the LFSR, and goes on. -/
def State.putV (s : State) (d : Nat) (v : Vec) (l : BitVec 32) : State :=
  ((s.wV d v).modPl fun p => { p with lfsr := l }).adv

/-- An element operation on the active elements; inactive ones keep the destination's element (R126). -/
def lanes (o : OpV) (s : State) (f : Nat → BitVec 32 → Drawn) : State :=
  let t := o.t.toNat
  let w := widthOf t
  let m := s.rM o.m.toNat
  let old := s.rV o.vd.toNat
  let (r, l) := runLanes (fun i l => if maskBit m i w then f i l else (elem old i w, l)) (List.range (lanesOf t)) s.pl.lfsr
  s.putV o.vd.toNat (vecOf w r) l

/-- An element operation on the elements of VA, VB and VC. -/
def lanes3 (o : OpV) (s : State) (f : Nat → Nat → Nat → BitVec 32 → Drawn) : Out :=
  vec o s fun s =>
    let w := widthOf o.t.toNat
    let a := s.rV o.va.toNat
    let b := s.rV o.vb.toNat
    let c := s.rV o.vc.toNat
    lanes o s fun i l => f (elem a i w) (elem b i w) (elem c i w) l

/-- A two-operand element operation that rounds nothing. -/
def lanes2 (o : OpV) (s : State) (f : Nat → Nat → Nat) : Out := lanes3 o s fun a b _ l => (f a b, l)

/-- An arithmetic instruction: floating tags round `f` of the values, integer tags keep the low bits of `g` (R130). -/
def arith (o : OpV) (s : State) (f : Num → Num → Num → Num) (g : Int → Int → Int → Int) : Out :=
  let t := o.t.toNat
  let ftz := s.pl.ftz
  lanes3 o s fun a b c l =>
    if isFlt t then roundTo (f (value t ftz a) (value t ftz b) (value t ftz c)) t o.rm.toNat (o.sat == 1) ftz l
    else
      let w := widthOf t
      (ofInt w (g (toInt w a) (toInt w b) (toInt w c)), l)

/-! ## Arithmetic (R130, R131) -/

def execVadd (o : OpV) (s : State) : Out := arith o s (fun a b _ => a.add o.rm.toNat b) fun a b _ => a + b
def execVsub (o : OpV) (s : State) : Out := arith o s (fun a b _ => a.add o.rm.toNat b.neg) fun a b _ => a - b
def execVmul (o : OpV) (s : State) : Out := arith o s (fun a b _ => a.mul b) fun a b _ => a * b
def execVfma (o : OpV) (s : State) : Out := arith o s (fun a b c => (a.mul b).add o.rm.toNat c) fun a b c => a * b + c
def execVfms (o : OpV) (s : State) : Out :=
  arith o s (fun a b c => (a.mul b).add o.rm.toNat c.neg) fun a b c => a * b - c

def execVadds (o : OpV) (s : State) : Out :=
  let w := widthOf o.t.toNat
  lanes2 o s fun a b => clampInt w (toInt w a + toInt w b)

/-- An operand as VMIN and VMAX write it: a subnormal that FTZ reads as zero becomes that zero (R131). -/
def asRead (t : Nat) (ftz : Bool) (x : Nat) : Nat :=
  let f := fmtOf t
  if ftz && t ≤ 2 && magOf f x < 2 ^ f.frac then signBit f.width (signOf f x) else x

/-- The smaller or the larger of two operands of a tag (R70, R131). -/
def choose (t : Nat) (ftz : Bool) (larger : Bool) (a b : Nat) : Nat :=
  if isFlt t then
    let x := value t ftz a
    let y := value t ftz b
    if x.isNan && y.isNan then canonNan t
    else if x.isNan then asRead t ftz b
    else if y.isNan then asRead t ftz a
    else if (if larger then x.lt true y else y.lt true x) then asRead t ftz b else asRead t ftz a
  else
    let w := widthOf t
    if (if larger then toInt w a < toInt w b else toInt w b < toInt w a) then b else a

def execVmin (o : OpV) (s : State) : Out := lanes2 o s (choose o.t.toNat s.pl.ftz false)
def execVmax (o : OpV) (s : State) : Out := lanes2 o s (choose o.t.toNat s.pl.ftz true)

def execVabs (o : OpV) (s : State) : Out :=
  let t := o.t.toNat
  let w := widthOf t
  lanes2 o s fun a _ => if isFlt t then a % 2 ^ (w - 1) else ofInt w (toInt w a).natAbs

def execVneg (o : OpV) (s : State) : Out :=
  let t := o.t.toNat
  let w := widthOf t
  lanes2 o s fun a _ => if isFlt t then (a + 2 ^ (w - 1)) % 2 ^ w else ofInt w (-toInt w a)

/-! ## Logic, shifts, selection, compares (R132 to R134) -/

def execVand (o : OpV) (s : State) : Out := lanes2 o s fun a b => a &&& b
def execVor (o : OpV) (s : State) : Out := lanes2 o s fun a b => a ||| b
def execVxor (o : OpV) (s : State) : Out := lanes2 o s fun a b => a ^^^ b
def execVshl (o : OpV) (s : State) : Out :=
  let w := widthOf o.t.toNat
  lanes2 o s fun a b => a * 2 ^ (b % w) % 2 ^ w
def execVshr (o : OpV) (s : State) : Out :=
  let w := widthOf o.t.toNat
  lanes2 o s fun a b => a / 2 ^ (b % w)
def execVsar (o : OpV) (s : State) : Out :=
  let w := widthOf o.t.toNat
  lanes2 o s fun a b => ofInt w (toInt w a / (2 ^ (b % w) : Int))

/-- VSEL writes every element; M is its selector (R133). -/
def execVsel (o : OpV) (s : State) : Out :=
  vec o s fun s =>
    let w := widthOf o.t.toNat
    let m := s.rM o.m.toNat
    let a := s.rV o.va.toNat
    let b := s.rV o.vb.toNat
    let r := (List.range (lanesOf o.t.toNat)).map fun i => if maskBit m i w then elem a i w else elem b i w
    s.putV o.vd.toNat (vecOf w r) s.pl.lfsr

/-- The elements that a mask bit governs (R125). -/
def governed (t j : Nat) : List Nat :=
  let w := widthOf t
  let k := if 16 ≤ w then 1 else if w == 8 then 2 else 4
  ((List.range k).map fun i => j * k + i).filter fun i => decide (i < lanesOf t)

/-- A mask from its bits. -/
def maskOf (f : Nat → Bool) : Word := w64 ((List.range 64).foldr (fun j acc => 2 * acc + (if f j then 1 else 0)) 0)

def execVcmp (cc : Cond) (o : OpV) (s : State) : Out :=
  vec o s fun s =>
    let t := o.t.toNat
    let w := widthOf t
    let m := s.rM o.m.toNat
    let a := s.rV o.va.toNat
    let b := s.rV o.vb.toNat
    let bit (j : Nat) : Bool :=
      let e := governed t j
      !e.isEmpty && e.all fun i => maskBit m i w && elemHolds cc t s.pl.ftz (elem a i w) (elem b i w)
    (s.wM (o.vd.toNat % 8) (maskOf bit)).adv

/-! ## Conversions and functions (R135 to R137) -/

/-- VCVT: fills part PART of VD when narrowing, reads part PART of VA when widening (R135). -/
def execVcvt (o : OpV) (s : State) : Out :=
  vec o s fun s =>
    let t := o.t.toNat
    let td := fld o.imm 0 3
    let part := fld o.imm 3 3
    let ws := widthOf t
    let wd := widthOf td
    let c := 1024 / max ws wd
    let m := s.rM o.m.toNat
    let ftz := s.pl.ftz
    let src := s.rV o.va.toNat
    let old := s.rV o.vd.toNat
    let base := if wd ≤ ws then part * c else 0
    -- the destination element di is converted from source element si
    let f (di : Nat) (l : BitVec 32) : Drawn :=
      let j := di - base
      if base ≤ di && j < c && maskBit m j (max ws wd) then
        let si := if wd ≤ ws then j else part * c + j
        roundTo (value t ftz (elem src si ws)) td o.rm.toNat (o.sat == 1) ftz l
      else (elem old di wd, l)
    let (r, l) := runLanes f (List.range (lanesOf td)) s.pl.lfsr
    s.putV o.vd.toNat (vecOf wd r) l

/-- A function of one operand, its exact value rounded once (R136, R137). -/
def unary (o : OpV) (s : State) (f : Num → Num) : Out :=
  let t := o.t.toNat
  let ftz := s.pl.ftz
  lanes3 o s fun a _ _ l => roundTo (f (value t ftz a)) t o.rm.toNat (o.sat == 1) ftz l

def execVrcp (o : OpV) (s : State) : Out := unary o s recipOf
def execVrsq (o : OpV) (s : State) : Out := unary o s rsqrtOf
def execVexp2 (o : OpV) (s : State) : Out := unary o s exp2Of
def execVlog2 (o : OpV) (s : State) : Out := unary o s log2Of
def execVscale (o : OpV) (s : State) : Out := unary o s fun x => x.scale (toInt 9 (fld o.imm 0 9))

/-! ## Reductions, scans, counts (R138 to R140, R74, R75) -/

/-- One level of the tree: adjacent results combine, an absent child passes the other (R74). -/
def treeLevel (f : Nat → Nat → BitVec 32 → Drawn) : List (Option Nat) → BitVec 32 → List (Option Nat) × BitVec 32
  | a :: b :: r, l =>
    let (x, l1) := match a, b with
      | some a, some b => let (v, l1) := f a b l; (some v, l1)
      | some a, none => (some a, l)
      | none, b => (b, l)
    let (xs, l2) := treeLevel f r l1
    (x :: xs, l2)
  | r, l => (r, l)

/-- The root of a tree of `k` levels. -/
def treeRoot (f : Nat → Nat → BitVec 32 → Drawn) : Nat → List (Option Nat) → BitVec 32 → Option Nat × BitVec 32
  | 0, xs, l => ((xs.head?).getD none, l)
  | k + 1, xs, l =>
    let (ys, l1) := treeLevel f xs l
    treeRoot f k ys l1

/-- The active elements of VA as the tree takes them: floating ones widened exactly to FP32, integers as 32-bit
two's complement (R74). -/
def State.leaves (s : State) (o : OpV) : List (Option Nat) :=
  let t := o.t.toNat
  let w := widthOf t
  let m := s.rM o.m.toNat
  let a := s.rV o.va.toNat
  let ftz := s.pl.ftz
  (List.range (lanesOf t)).map fun i =>
    if maskBit m i w then
      some (if isFlt t then (roundTo (value t ftz (elem a i w)) 0 0 false ftz 0).1 else ofInt 32 (toInt w (elem a i w)))
    else none

/-- The FP32 sum of two FP32 encodings (R74, R75). -/
def addF32 (rm : Nat) (ftz : Bool) (a b : Nat) (l : BitVec 32) : Drawn :=
  roundTo ((value 0 ftz a).add rm (value 0 ftz b)) 0 rm false ftz l

/-- The value of an empty VREDMAX or VREDMIN (R74). -/
def emptyRoot (t : Nat) (larger : Bool) : Nat :=
  let neg := larger
  if isFlt t then
    let f := fmtOf t
    if f.hasInf then infEnc 0 neg false
    else (roundTo (value t false (signBit f.width neg + f.maxEnc)) 0 0 false false 0).1
  else
    let w := widthOf t
    if larger then ofInt 32 (-(2 ^ (w - 1) : Int)) else 2 ^ (w - 1) - 1

/-- A reduction: the root goes to lane 0, lanes 1 to 31 are zero (R138). -/
def reduce (o : OpV) (s : State) (f : Nat → Nat → BitVec 32 → Drawn) (empty : Nat) : Out :=
  vec o s fun s =>
    let (r, l) := treeRoot f (lanesOf o.t.toNat).log2 (s.leaves o) s.pl.lfsr
    s.putV o.vd.toNat (vecOf 32 [r.getD empty]) l

def execVredadd (o : OpV) (s : State) : Out :=
  let flt := isFlt o.t.toNat
  let ftz := s.pl.ftz
  reduce o s (fun a b l => if flt then addF32 o.rm.toNat ftz a b l else ((a + b) % 2 ^ 32, l)) 0

def execVredmax (o : OpV) (s : State) : Out :=
  let t := o.t.toNat
  let k := if isFlt t then 0 else 7
  let ftz := s.pl.ftz
  reduce o s (fun a b l => (choose k ftz true a b, l)) (emptyRoot t true)

def execVredmin (o : OpV) (s : State) : Out :=
  let t := o.t.toNat
  let k := if isFlt t then 0 else 7
  let ftz := s.pl.ftz
  reduce o s (fun a b l => (choose k ftz false a b, l)) (emptyRoot t false)

/-- The prefixes of a list of leaves; an absent one passes the previous prefix, none yet is zero (R75, R139). The spec leaves open
whether the first present element after absent ones passes unchanged, as R74 masks a node, or is summed with the +0 that R139
writes before it, which differ for -0: the model passes it unchanged (DESIGN CHOICE, log 50). -/
def scanFrom (f : Nat → Nat → BitVec 32 → Drawn) : Option Nat → List (Option Nat) → BitVec 32 → List Nat × BitVec 32
  | _, [], l => ([], l)
  | acc, x :: r, l =>
    let (y, l1) := match acc, x with
      | some a, some b => let (v, l1) := f a b l; (some v, l1)
      | some a, none => (some a, l)
      | none, x => (x, l)
    let (ys, l2) := scanFrom f y r l1
    (y.getD 0 :: ys, l2)

def execVscan (o : OpV) (s : State) : Out :=
  vec o s fun s =>
    let flt := isFlt o.t.toNat
    let ftz := s.pl.ftz
    let f := fun a b l => if flt then addF32 o.rm.toNat ftz a b l else ((a + b) % 2 ^ 32, l)
    let (r, l) := scanFrom f none (s.leaves o) s.pl.lfsr
    s.putV o.vd.toNat (vecOf 32 r) l

def execVcnt (o : OpV) (s : State) : Out :=
  vec o s fun s =>
    let w := widthOf o.t.toNat
    let m := s.rM o.m.toNat
    (s.wS (fld o.imm 0 5) (w64 ((List.range (lanesOf o.t.toNat)).filter fun i => maskBit m i w).length)).adv

/-! ## Moves, compaction, merging (R141 to R144) -/

def execVperm (o : OpV) (s : State) : Out :=
  vec o s fun s =>
    let t := o.t.toNat
    let w := widthOf t
    let a := s.rV o.va.toNat
    let b := s.rV o.vb.toNat
    lanes o s fun i l => (elem a (elem b i w % lanesOf t) w, l)

/-- The splat value (R141). -/
def State.splat (s : State) (o : OpV) : Nat :=
  let t := o.t.toNat
  if fld o.imm 19 1 == 0 then (s.rS (fld o.imm 0 5)).toNat % 2 ^ widthOf t
  else
    let i := fld o.imm 0 16
    if t == 0 then i * 2 ^ 16 else if t == 7 then ofInt 32 (toInt 16 i) else i % 2 ^ widthOf t

def execVsplat (o : OpV) (s : State) : Out :=
  vec o s fun s =>
    let v := s.splat o
    lanes o s fun _ l => (v, l)

def execVext (o : OpV) (s : State) : Out :=
  vec o s fun s =>
    let t := o.t.toNat
    let w := widthOf t
    let x := elem (s.rV o.va.toNat) (fld o.imm 5 8) w
    (s.wS (fld o.imm 0 5) (if isFlt t then w64 x else BitVec.ofInt 64 (toInt w x))).adv

def execVins (o : OpV) (s : State) : Out :=
  vec o s fun s =>
    let t := o.t.toNat
    let w := widthOf t
    let old := s.rV o.vd.toNat
    let v := (s.rS (fld o.imm 0 5)).toNat % 2 ^ w
    let r := (List.range (lanesOf t)).map fun i => if i == fld o.imm 5 8 then v else elem old i w
    s.putV o.vd.toNat (vecOf w r) s.pl.lfsr

def execVpack (o : OpV) (s : State) : Out :=
  vec o s fun s => s.putV o.vd.toNat (half (s.rV o.vb.toNat) 0 ++ half (s.rV o.va.toNat) 0) s.pl.lfsr

def execVunpk (o : OpV) (s : State) : Out :=
  vec o s fun s => s.putV o.vd.toNat ((half (s.rV o.va.toNat) (fld o.imm 0 1)).setWidth 1024) s.pl.lfsr

/-- VCOMP gathers the selected groups to the low end and counts them (R143). -/
def execVcomp (o : OpV) (s : State) : Out :=
  vec o s fun s =>
    let t := o.t.toNat
    let w := widthOf t
    let g := 2 ^ fld o.imm 8 3
    let m := s.rM o.m.toNat
    let a := s.rV o.va.toNat
    let sel := (List.range (lanesOf t / g)).filter fun j => maskBit m (j * g + fld o.imm 11 7) w
    let out := sel.flatMap fun j => (List.range g).map fun e => elem a (j * g + e) w
    let s := s.wV o.vd.toNat (vecOf w out)
    let s := s.wS (fld o.imm 0 5) (w64 sel.length)
    (s.wP (fld o.imm 5 3) (predBit (0 < sel.length))).adv

/-- The stable merge of two runs of pairs, at most `k` pairs, with the counts taken (R144). -/
def merge (le : Nat → Nat → Bool) : Nat → List (Nat × Nat) → List (Nat × Nat) → List (Nat × Nat) × Nat × Nat
  | 0, _, _ => ([], 0, 0)
  | k + 1, a, b =>
    match a, b with
    | [], [] => ([], 0, 0)
    | x :: a', [] => let (r, i, j) := merge le k a' []; (x :: r, i + 1, j)
    | [], y :: b' => let (r, i, j) := merge le k [] b'; (y :: r, i, j + 1)
    | x :: a', y :: b' =>
      if le x.1 y.1 then let (r, i, j) := merge le k a' (y :: b'); (x :: r, i + 1, j)
      else let (r, i, j) := merge le k (x :: a') b'; (y :: r, i, j + 1)

/-- The first `n` pairs of a register (R144). -/
def pairs (v : Vec) (n : Nat) : List (Nat × Nat) :=
  (List.range (min n 16)).map fun p => (elem v (2 * p) 32, elem v (2 * p + 1) 32)

def execVmrg (o : OpV) (s : State) : Out :=
  vec o s fun s =>
    let n := s.rS (fld o.imm 5 5)
    let le := fun (a b : Nat) => if fld o.imm 10 1 == 1 then decide (a ≤ b) else decide (toInt 32 a ≤ toInt 32 b)
    let (out, i, j) := merge le 16 (pairs (s.rV o.va.toNat) (fld n 0 5)) (pairs (s.rV o.vb.toNat) (fld n 8 5))
    let s := s.wV o.vd.toNat (vecOf 32 (out.flatMap fun p => [p.1, p.2]))
    (s.wS (fld o.imm 0 5) (w64 (j * 256 + i))).adv

end Sys2Proof.Machine
end

