-- ==== Sys2Proof/Machine/Matrix.lean ====
section
/-!
DEFINITION. Matrix instructions, the matrix engine queue, releases and drains (08_matrix, R147 to R170; R71 to R73).
-/
namespace Sys2Proof.Machine

variable (s : State)

/-! ## Exact sums (R71) -/

/-- A sum in units, NaN or an infinity. -/
def ExVal.add : ExVal → ExVal → ExVal
  | .nan, _ => .nan
  | _, .nan => .nan
  | .inf a, .inf b => if a == b then .inf a else .nan
  | .inf a, .fin _ => .inf a
  | .fin _, .inf b => .inf b
  | .fin a, .fin b => .fin (a + b)

/-- A product of two operands in units of 2^-133, in units of 2^-266. -/
def ExVal.mul : ExVal → ExVal → ExVal
  | .nan, _ => .nan
  | _, .nan => .nan
  | .inf a, .inf b => .inf (a != b)
  | .inf a, .fin b => if b == 0 then .nan else .inf (a != decide (b < 0))
  | .fin a, .inf b => if a == 0 then .nan else .inf (decide (a < 0) != b)
  | .fin a, .fin b => .fin (a * b)

/-- An operand of tag 1 to 6 in units of 2^-133; a tag 0 or 7 makes every product NaN (R151). -/
def operand (t : Nat) (ftz : Bool) (x : Nat) : ExVal :=
  if t == 0 || t == 7 then .nan
  else
    match value t ftz x with
    | .nan => .nan
    | .inf n => .inf n
    | .fin n m _ => let v : Int := m / 2 ^ (unitExp - 133); .fin (if n then -v else v)

/-- A block sum as a value. -/
def ExVal.num : ExVal → Num
  | .nan => .nan
  | .inf n => .inf n
  | .fin v => .fin (v < 0) (v.natAbs * 2 ^ (unitExp - 266)) false

/-- The exact sum of products along K. -/
def dot : List ExVal → List ExVal → ExVal
  | a :: as, b :: bs => (a.mul b).add (dot as bs)
  | _, _ => .fin 0

/-! ## The context (R147, R157 to R159) -/

/-- The context of a plane that a colour selects (AccOf, R58). -/
def Plane.mat (p : Plane) (hand : Bool) : MatCtx := if hand then p.handler else p.user
def Plane.setMat (p : Plane) (hand : Bool) (c : MatCtx) : Plane := if hand then { p with handler := c } else { p with user := c }
def State.modMat (pid : Nat) (hand : Bool) (f : MatCtx → MatCtx) : State :=
  s.modPlane pid fun p => p.setMat hand (f (p.mat hand))

/-- A table of 32 x 32 entries from a function, entries equal to `d` left out. -/
def grid {α : Type} [DecidableEq α] (d : α) (f : Nat → Nat → α) : Tab α :=
  (List.range 1024).filterMap fun e => let v := f (e / 32) (e % 32); if v = d then none else some (e, v)

/-- An accumulator or activation scale entry; SCA holds 1.0 where nothing is listed (R148). -/
def MatCtx.sa (c : MatCtx) (i : Nat) : BitVec 32 := look 0x3F800000 c.sca i

/-- FP32 rounding to nearest-even (R72). -/
def f32 (ftz : Bool) (x : Num) : Nat := (roundTo x 0 0 false ftz 0).1

/-- The promotion of every element (R72); the partial block and KPOS restart. With FTZ 1 the accumulator that is added and the
result are flushed, and the two inner roundings, of the block sum and of the scale, are not: R72 names FTZ for neither
(DESIGN CHOICE, log 43). -/
def MatCtx.promote (c : MatCtx) (ftz : Bool) : MatCtx :=
  let scale := fun (i : Nat) => f32 false ((value 0 ftz (c.sa i).toNat).mul (value 0 ftz c.scb.toNat))
  let acc := fun (i n : Nat) =>
    let bf := f32 false (look (.fin 0) c.partialBlk (i * 32 + n)).num
    let a := value 0 ftz (look 0 c.acc (i * 32 + n)).toNat
    BitVec.ofNat 32 (f32 ftz (((value 0 false bf).mul (value 0 false (scale i))).add 0 a))
  { c with acc := grid 0 acc, partialBlk := [], kpos := 0 }

/-- A context whose sums a colour opens (R147, R158). -/
def MatCtx.opened (c : MatCtx) (colour tid : Nat) : MatCtx :=
  if c.open_ then c else { c with open_ := true, openc := colour, openTid := tid }

/-- Products of K elements `k0` to `k0 + n - 1` are added to the partial block (R158). -/
def MatCtx.addBlock (c : MatCtx) (a b : List (List ExVal)) (k0 n : Nat) : MatCtx :=
  let as := a.map fun r => (r.drop k0).take n
  let bs := b.map fun r => (r.drop k0).take n
  let f := fun (i j : Nat) => (look (.fin 0) c.partialBlk (i * 32 + j)).add (dot (as.getD i []) (bs.getD j []))
  { c with partialBlk := grid (.fin 0) f, kpos := c.kpos + n }

/-- Runs an MMA from element `k` of `kmax`: K-blocks in ascending order, each promoted when complete; it stops where
the count rule asks for a release (R158, R159). Gives the context, the element reached and whether a release is due. -/
def mmaRun (colour tid : Nat) (ftz : Bool) (a b : List (List ExVal)) (kmax : Nat) : Nat → MatCtx → Nat → MatCtx × Nat × Bool
  | 0, c, k => (c, k, false)
  | fuel + 1, c, k =>
    if kmax ≤ k then (c, k, false)
    else
      let c := c.opened colour tid
      let n := min (c.cfg.kblock - c.kpos) (kmax - k)
      let c := c.addBlock a b k n
      if c.kpos < c.cfg.kblock then (c, k + n, false)
      else
        let c := c.promote ftz
        let c := { c with nblk := c.nblk + 1 }
        if c.cfg.rlev == 0 && c.nblk == c.cfg.count then (c, k + n, true)
        else mmaRun colour tid ftz a b kmax fuel c (k + n)

/-! ## The bank as the matrix engine reads it (R152, R165) -/

/-- One byte of a cell's bank. -/
def State.bankByte (pid a : Nat) : Byte := (look 0 s.bank (cellOf pid * 1024 + a / 64)).extractLsb' (8 * (a % 64)) 8

/-- Byte address of row `g` of a descriptor pair, without wrap. -/
def rowAddr (d0 d1 : Word) (g : Nat) : Nat := fld d0 0 16 + fld d1 0 16 * fld d0 32 16 + g * fld d0 16 16

/-- The 64 bytes of row `g`: stored rotated by whole 4-byte words. -/
def State.bankRow (pid : Nat) (d0 d1 : Word) (g : Nat) : Gran :=
  let a := rowAddr d0 d1 g
  let rot := 4 * ((g * fld d0 48 4) % 16)
  BitVec.ofNat 512 (leNat ((List.range 64).map fun j => s.bankByte pid (a + (j + rot) % 64)))

/-- Whether 64-byte-aligned bytes lie in the plane's bank share. -/
def Plane.inShare (p : Plane) (a n : Nat) : Bool := p.bankBase ≤ a && a + n ≤ p.bankBase + p.bankSize

/-- The ALIGN that a descriptor pair raises at issue: the offending field's value, or the first row outside the share
with bit 16 set (R152). -/
def Plane.pairFault (p : Plane) (d0 d1 : Word) : Option Nat :=
  match [fld d0 0 16, fld d0 16 16, fld d0 32 16].find? fun x => x % 64 != 0 with
  | some x => some x
  | none => (((List.range 32).map (rowAddr d0 d1)).find? fun a => !p.inShare a 64).map fun a => a % 2 ^ 16 + 2 ^ 16

/-! ## Issue (R153 to R155) -/

/-- The owner of a plane's user context (R155). -/
def Plane.matOwner (p : Plane) : Option Nat :=
  match p.mq.find? fun o => !o.hand with
  | some o => some o.colour
  | none => if p.user.open_ then some p.user.openc else none

/-- An ownership park: the take parks as for a trap, without record or handler, and releases the plane (R155). -/
def State.ownPark : State :=
  let p := s.pl
  let s := s.stopFiring s.cur
  let s := s.modPl fun q => { q with ownParks := q.ownParks ++ [parkedAt s.cur p (w64 p.firing.pc)] }
  match s.take p.firing.tid with
  | none => s
  | some t => s.parkTake t

/-- No entry of the matrix engine queue may be used: the user context takes at most 6 of the 8 (R153). -/
def Plane.mqFull (p : Plane) (hand : Bool) : Bool :=
  8 ≤ p.mq.length || (!hand && 6 ≤ (p.mq.filter fun o => !o.hand).length)

/-- The word being executed, for TRAPINFO of an ILLEGAL at issue (R148). -/
def State.word : Word := look 0 s.pl.prog s.pc

/-- A trap of a matrix instruction at issue. -/
def State.matFault (cause : Nat) (info : Word) : State := s.trap cause info 2

/-- An ALIGN of a bank access: TRAPINFO with bit 16 set holds the bank address of a row outside the share, which is the record's
address; else it holds a field of a descriptor pair, which is none (R152, R383). -/
def State.bankFault (info : Nat) : State :=
  s.trapWith s.cur 3 (w64 s.pc) (w64 info) 2 (if info.testBit 16 then info % 2 ^ 16 else 0)

/-- The governing configuration: that of the last queued MKB, else the context's (R148). -/
def Plane.governing (p : Plane) (hand : Bool) : MatCfg :=
  match (p.mq.filter fun o => o.hand == hand && o.kind == .mkb).getLast? with
  | some o => o.cfg
  | none => (p.mat hand).cfg

/-- An operation of the running firing, before its operands are filled in. -/
def State.matOp (kind : MatKind) : MatOp :=
  let p := s.pl
  let f := p.firing
  { id := s.serial, kind, hand := f.colour == 15, tid := f.tid, fid := f.fid, colour := f.colour, pc := f.pc,
    ftz := p.ftz, coord := f.coord, upTo := s.serial }

/-- Enqueues an operation and goes on. -/
def State.enqueue (o : MatOp) : State := (s.bump.modPl fun p => { p with mq := p.mq ++ [o] }).adv

/-- A matrix instruction other than MWAIT at issue: ownership, then a queue entry, then its own checks. -/
def matIssue (g : BitVec 3) (gn : BitVec 1) (kind : MatKind) (s : State) (body : State → MatOp → State) : Out :=
  stage g gn s fun s =>
    let p := s.pl
    let hand := p.firing.colour == 15
    if !hand && (p.matOwner.map fun c => c != p.firing.colour).getD false then s.ownPark
    else if p.mqFull hand || !p.acquired p.firing.fid then s.hold .retry 0
    else body s (s.matOp kind)

/-- The checks of a handle operand at issue: UNBOUND, NWSIZE, STICKY; then sticky counting (R154). -/
def State.withHandle (o : MatOp) (h nw st : Nat) (moves : Bool) (body : State → MatOp → State) : State :=
  match s.handle h with
  | none => if s.away h then s.hold .window 0 else s.matFault 4 (w64 (h + 256))
  | some (b, r) =>
    if r.size < nw then s.matFault 4 (w64 (h + 2 * 256))
    else
      let bad := match s.pl.residOf b with
        | none => false
        | some x => (!r.shared && b.res != 0 && b.resColour != o.colour) || x.nw < nw || moves
      if bad then s.matFault 4 (w64 (h + 5 * 256))
      else
        let (s, id) := s.stick h b st nw []
        body s { o with id := s.serial, upTo := s.serial, useH := true, h, bind := b, nw, adv := moves, resId := id }

/-- A bank descriptor pair checked at issue (R152). -/
def State.withPair (n : Nat) (body : State → Word → Word → State) : State :=
  let d0 := s.rS n
  let d1 := s.rS (n + 1)
  match s.pl.pairFault d0 d1 with
  | some x => s.bankFault x
  | none => body s d0 d1

/-- An MMA at issue: it uses the buffer that the last load enqueued before it fills (R148, R153). -/
def mmaIssue (o : OpM) (adv : Bool) (s : State) : Out :=
  matIssue o.g o.gn .mma s fun s m =>
    let p := s.pl
    let g := p.governing m.hand
    if !g.set then s.matFault 1 s.word
    else
      let c := p.mat m.hand
      let m := { m with ta := o.ta.toNat, tb := o.tb.toNat, buf := if c.anyLoad then c.lastBuf else 0, sr := g.rm == 5 }
      if o.ah == 1 then s.withHandle m o.ha.toNat 32 0 adv fun s m => s.enqueue m
      else s.withPair o.sa.toNat fun s d0 d1 => s.enqueue { m with d0, d1 }

def execMma (o : OpM) (s : State) : Out := mmaIssue o false s
def execMmaAdv (o : OpM) (s : State) : Out := mmaIssue o true s

/-- Enqueues a load: loads fill the two buffers alternately, from buffer 0 (R153). -/
def State.enqueueLoad (m : MatOp) : State :=
  let c := s.pl.mat m.hand
  let buf := if c.anyLoad then 1 - c.lastBuf else 0
  (s.modMat s.cur m.hand fun c => { c with anyLoad := true, lastBuf := buf }).enqueue { m with buf }

def loadHandle (o : OpH) (kind : MatKind) (s : State) : Out :=
  matIssue o.g o.gn kind s fun s m => s.withHandle m o.h.toNat 32 o.st.toNat (o.am != 0) State.enqueueLoad

def loadBank (o : OpM) (kind : MatKind) (s : State) : Out :=
  matIssue o.g o.gn kind s fun s m => s.withPair o.sb.toNat fun s d0 d1 => s.enqueueLoad { m with d0, d1, tb := o.tb.toNat }

def execMldbHandle (o : OpH) (s : State) : Out := loadHandle o .mldb s
def execMldbBank (o : OpM) (s : State) : Out := loadBank o .mldb s
def execMldbtHandle (o : OpH) (s : State) : Out := loadHandle o .mldbt s
def execMldbtBank (o : OpM) (s : State) : Out := loadBank o .mldbt s

def execMscaHandle (o : OpM) (s : State) : Out :=
  matIssue o.g o.gn .msca s fun s m => s.withHandle m o.ha.toNat 2 0 true fun s m => s.enqueue m

/-- MSCA from the bank: 128 bytes at an address that is a multiple of 64 and lies in the share (R165). -/
def execMscaBank (o : OpM) (s : State) : Out :=
  matIssue o.g o.gn .msca s fun s m =>
    let a := fld (s.rS o.sa.toNat) 0 16
    if a % 64 != 0 then s.matFault 3 (w64 a)
    else if !s.pl.inShare a 64 then s.bankFault (a + 2 ^ 16)
    else if !s.pl.inShare (a + 64) 64 then s.bankFault ((a + 64) % 2 ^ 16 + 2 ^ 16)
    else s.enqueue { m with d0 := w64 a }

def execMscbHandle (o : OpM) (s : State) : Out :=
  matIssue o.g o.gn .mscb s fun s m => s.withHandle m o.hb.toNat 1 0 true fun s m => s.enqueue m
def execMscbRegister (o : OpM) (s : State) : Out :=
  matIssue o.g o.gn .mscb s fun s m => s.enqueue { m with d0 := s.rS o.sb.toNat }

/-- Granules of a drain of a tag (R160). -/
def drainGrans (t : Nat) : Nat := 2 * widthOf t

/-- MKB: the output binding is captured at issue; an unbound handle and a ring smaller than the drain fault (R166). -/
def execMkb (o : OpM) (s : State) : Out :=
  matIssue o.g o.gn .mkb s fun s m =>
    let h := o.hb.toNat
    match s.handle h with
    | none => if s.away h then s.hold .window 0 else s.matFault 4 (w64 (h + 256))
    | some (b, r) =>
      if r.size < drainGrans o.tb.toNat then s.matFault 4 (w64 (h + 2 * 256))
      else
        let rm := o.ha.toNat % 8
        let cfg : MatCfg :=
          { set := true, kblock := 64 * 2 ^ o.kb.toNat, count := o.sa.toNat + 1, rlev := o.ta.toNat, out := b,
            otag := o.tb.toNat, oscl := if o.sb == 0 then 0x3F800000 else (s.rS o.sb.toNat).setWidth 32, rm,
            sat := o.ah == 1 }
        s.enqueue { m with cfg, sr := rm == 5 }

def execMzero (o : OpM) (s : State) : Out := matIssue o.g o.gn .mzero s fun s m => s.enqueue m

def execMrel (o : OpM) (s : State) : Out :=
  matIssue o.g o.gn .mrel s fun s m =>
    let g := s.pl.governing m.hand
    if !g.set then s.matFault 1 s.word else s.enqueue { m with sr := g.rm == 5 }

def execMrd (o : OpV) (s : State) : Out :=
  matIssue o.g o.gn .mrd s fun s m => s.enqueue { m with vd := o.vd.toNat, row := fld o.imm 0 5 }
def execMwr (o : OpV) (s : State) : Out :=
  matIssue o.g o.gn .mwr s fun s m => s.enqueue { m with vec := s.rV o.va.toNat, row := fld o.imm 0 5 }

/-- MSAVE and MLOAD at issue: the address is a multiple of 64 and a 52-bit address (R169, R198); their 64 line operations
have the serials after theirs, in program order with the firing's other accesses. -/
def saveIssue (o : OpN) (kind : MatKind) (s : State) : Out :=
  matIssue o.g o.gn kind s fun s m =>
    let ea := s.ea o.a o.off
    if ea.toNat % 64 != 0 || fld ea 52 12 != 0 then s.matFault 3 ea
    else
      let s := s.enqueue { m with d0 := ea, ord := o.ord.toNat, sc := o.sc.toNat }
      { s with serial := s.serial + 64 }

def execMsave (o : OpN) (s : State) : Out := saveIssue o .msave s
def execMload (o : OpN) (s : State) : Out := saveIssue o .mload s

/-- The matrix work of a context is done: nothing queued, no release or drain left (R170). -/
def Plane.matIdle (p : Plane) (hand : Bool) : Bool :=
  let c := p.mat hand
  p.mq.all (fun o => o.hand != hand) && c.release.isNone && c.drain.isNone

def execMwait (o : OpM) (s : State) : Out :=
  stage o.g o.gn s fun s => if s.pl.matIdle (s.pl.firing.colour == 15) then s.adv else s.hold .mwait 0

/-! ## Execution from the queue -/

/-- Whether an operation is a load of B, or neither a load nor an MMA. -/
def MatKind.isLoad (k : MatKind) : Bool := k == .mldb || k == .mldbt
def MatKind.isOther (k : MatKind) : Bool := !k.isLoad && k != .mma

/-- The order of a context's operations (R153), and of the operations on one handle, which take successive windows in queue
order (R154). -/
def MatOp.mayStart (o : MatOp) (earlier : List MatOp) : Bool :=
  let before := earlier.filter fun e => e.hand == o.hand
  !o.held && (!o.useH || earlier.all fun e => !(e.useH && e.h == o.h && !e.took && !e.held)) && (
    if o.kind == .mma then before.all fun e => e.kind.isLoad && e.buf != o.buf
    else if o.kind.isLoad then before.all fun e => e.kind == .mma && e.buf != o.buf
    else before.isEmpty)

/-- What a queued operation finds on its handle when it executes (R154, R161): the window's slots, sidebands and data,
a wait, or a trap condition with its cause and detail. -/
inductive Took
  | wait
  | trap (cause detail : Nat)
  | got (ns : List Nat) (rows : List (Side × Gran))
  deriving DecidableEq, Repr

/-- The binding of an operation's handle as it executes: ring windows are reached then (R154, R161). -/
def State.opBind (pid : Nat) (o : MatOp) : Option Handle := find (s.plane pid).h o.h

def State.takeWindow (pid : Nat) (o : MatOp) : Took :=
  match s.opBind pid o with
  | none => .trap 4 (o.h + 256)
  | some b =>
    match s.ringOf b with
    | none => if s.farAway b then .wait else .trap 4 (o.h + 256)
    | some r =>
      let seen := fun (ns : List Nat) => Took.got ns (ns.map fun n => (s.side r n, s.gran r n))
      let next := fun (nw : Nat) =>
        match s.windowPast ((s.plane pid).taken b.key b.branch) r b.branch o.colour nw with
        | none => Took.wait
        | some ns => seen ns
      if !r.isLive b.branch then
        match find r.bad b.branch with
        | none => .trap 4 (o.h + 6 * 256)
        | some k => if (s.plane pid).badRetired b k || 1 < o.nw then .trap 10 o.h else .got [] [(k.side, 0)]
      else
        match (find (s.plane pid).resid o.resId).filter fun x => x.key == b.key with
        | some x => if x.slots.isEmpty then next x.nw else seen (x.slots.take o.nw)
        | none => next o.nw

/-- The highest-level mark code among a window's granules, 0 for none (R160). -/
def highestMark (rows : List (Side × Gran)) : Nat := rows.foldl (fun m e => max m (markLevel (sideMark e.1))) 0

/-- A matrix operation executes: its job is active (R30). -/
def State.noteMat (pid : Nat) : State := s.note (s.plane pid).job (dieOf pid)

/-- Replaces an operation of a plane's queue, as it executes. -/
def State.setOp (pid : Nat) (o : MatOp) : State :=
  (s.noteMat pid).modPlane pid fun p => { p with mq := p.mq.map fun x => if x.id == o.id then o else x }

/-- An operation takes its window: a new resident window gets its slots, and one whose last firing has ended is
retired with its last reading (R109, R154). -/
def State.opTakes (pid : Nat) (o : MatOp) (ns : List Nat) (rows : List (Side × Gran)) : State × MatOp :=
  let o := { o with
    took := true, started := true, slots := ns, rows, mark := highestMark rows, bind := (s.opBind pid o).getD o.bind }
  let s := s.setOp pid o
  match find (s.plane pid).resid o.resId with
  | none => (s, o)
  | some x =>
    let s := if x.slots.isEmpty then
        s.modPlane pid fun p => { p with resid := ins p.resid o.resId { x with slots := ns } }
      else s
    (if x.ended && !(s.plane pid).reading o.resId then s.dropResid pid o.resId else s, o)

/-- A queued operation stops before any effect: it and the operations behind it are held and its take parks, naming
the cell whose queue held it (R161). -/
def State.matTrap (pid : Nat) (o : MatOp) (cause detail : Nat) : State :=
  match s.take o.tid with
  | none => (s.modPlane pid fun p => { p with mq := p.mq.filter fun x => !(x.id == o.id) }).planeFree pid
  | some t =>
    let p := s.plane pid
    let mine := p.running && p.firing.tid == o.tid
    let pc : Word := if mine then w64 p.firing.pc else BitVec.allOnes 64
    let info : Word := w64 (2 ^ 63 + o.pc % 2 ^ 16 * 2 ^ 32 + detail % 2 ^ 32)
    let unit := unitOfCell (dieOf pid) (cellNoOf pid) 2
    let addr := if cause == 2 then detail else 0
    let s := if mine then s.stopFiring pid else s
    let s := s.holdTake t
    let s := s.parkTake t
    let s := s.modTake t.tid fun x =>
      { x with
        parked := x.parked ++ [parkedAt pid p pc]
        traps := insertTrap { cause, pc, info, colour := t.colour, pid, unit, time := s.clk, addr } x.traps }
    s.offerTrap t cause unit addr info 0

/-- An operation is complete: it leaves the queue, and an advancing one retires its window (R154). -/
def State.opDone (pid : Nat) (o : MatOp) : State :=
  let s := (s.noteMat pid).modPlane pid fun p => { p with mq := p.mq.filter fun x => !(x.id == o.id) }
  if !o.adv then s.planeFree pid
  else if o.slots.isEmpty then (s.retireBadSlot o.bind.key o.bind.branch).planeFree pid
  else (s.retire o.bind.key o.bind.branch o.slots).planeFree pid

/-- The 32 values of row `i` of an accumulator as a vector (R168). -/
def MatCtx.row (c : MatCtx) (i : Nat) : Vec := vecOf 32 ((List.range 32).map fun n => (look 0 c.acc (i * 32 + n)).toNat)

/-- The tile and buffer of an MMA as exact operands: rows of A and columns of B, K elements each (R149 to R151). -/
def MatCtx.operands (c : MatCtx) (o : MatOp) (rows : List Gran) (ta : Nat) : List (List ExVal) × List (List ExVal) × Nat :=
  let (buf, tag, tr) := if o.buf == 0 then (c.b0, c.tag0, c.tr0) else (c.b1, c.tag1, c.tr1)
  let tb := if o.tb == 7 then tag else o.tb
  let wa := widthOf ta
  let wb := widthOf tb
  let kmax := 512 / max wa wb
  let a := rows.map fun r => (List.range kmax).map fun k => operand ta o.ftz (r.toNat / 2 ^ (k * wa) % 2 ^ wa)
  let b := (List.range 32).map fun n => (List.range kmax).map fun k =>
    let i := if tr then n * (512 / wb) + k else k * 32 + n
    operand tb o.ftz (buf.toNat / 2 ^ (i * wb) % 2 ^ wb)
  (a, b, kmax)

/-- Asks for a release (R159). -/
def MatCtx.ask (c : MatCtx) (o : MatOp) (mark : Nat) : MatCtx :=
  { c with release := some { mark, tid := o.tid, fid := o.fid, colour := o.colour, coord := o.coord, upTo := o.upTo,
                             ftz := o.ftz } }

/-- An MMA executes from where it stands: to the next release, or to its end (R158, R159). `kdone` is past K once the
mark rule's release has been asked for. -/
def State.runMma (pid : Nat) (o : MatOp) : State :=
  let c := (s.plane pid).mat o.hand
  if c.release.isSome then s
  else
    let ta := if o.ta == 7 then sideFmt ((o.rows.head?.map Prod.fst).getD 0) else o.ta
    let rows := if o.useH then o.rows.map Prod.snd else (List.range 32).map fun g => s.bankRow pid o.d0 o.d1 g
    let (a, b, kmax) := c.operands o rows ta
    let (c, k, rel) := mmaRun o.colour o.tid o.ftz a b kmax 128 c o.kdone
    if rel then (s.modMat pid o.hand fun _ => c.ask o 2).setOp pid { o with kdone := k }
    else if k ≤ kmax && o.useH && c.cfg.rlev != 0 && c.cfg.rlev ≤ o.mark then
      (s.modMat pid o.hand fun _ => c.ask o o.mark).setOp pid { o with kdone := kmax + 1 }
    else
      ((s.modMat pid o.hand fun _ => c).opDone pid o).modCell (cellOf pid) fun k =>
        { k with mmas := k.mmas + 1, lastMma := planeNoOf pid }

/-- A load fills its buffer and records its tag (R150, R151). -/
def State.runLoad (pid : Nat) (o : MatOp) : State :=
  let rows := if o.useH then o.rows.map Prod.snd else (List.range 32).map fun g => s.bankRow pid o.d0 o.d1 g
  let data : BitVec 16384 := BitVec.ofNat 16384 (rows.foldr (fun g acc => acc * 2 ^ 512 + g.toNat) 0)
  let tag := if o.useH then sideFmt ((o.rows.head?.map Prod.fst).getD 0) else o.tb
  let tr := o.kind == .mldbt
  (s.modMat pid o.hand fun c =>
    if o.buf == 0 then { c with b0 := data, tag0 := tag, tr0 := tr } else { c with b1 := data, tag1 := tag, tr1 := tr }).opDone
    pid o

/-- The 32 activation scales in 128 bytes (R165). -/
def scalesOf (n : Nat) : Tab (BitVec 32) :=
  (List.range 32).filterMap fun i =>
    let v := BitVec.ofNat 32 (n / 2 ^ (32 * i))
    if v = 0x3F800000 then none else some (i, v)

def State.runMsca (pid : Nat) (o : MatOp) : State :=
  let n := if o.useH then
      ((o.rows.map Prod.snd).foldr (fun g acc => acc * 2 ^ 512 + g.toNat) 0)
    else leNat ((List.range 128).map fun i => s.bankByte pid (o.d0.toNat + i))
  (s.modMat pid o.hand fun c => { c with sca := scalesOf n }).opDone pid o

def State.runMscb (pid : Nat) (o : MatOp) : State :=
  let v : BitVec 32 := if o.useH then ((o.rows.head?.map Prod.snd).getD 0).setWidth 32 else o.d0.setWidth 32
  (s.modMat pid o.hand fun c => { c with scb := v }).opDone pid o

/-- MKB promotes an incomplete K-block of an open reduction and restarts KPOS and NBLK (R166). -/
def State.runMkb (pid : Nat) (o : MatOp) : State :=
  (s.modMat pid o.hand fun c =>
    let c := if c.open_ then { (if c.kpos == 0 then c else c.promote o.ftz) with kpos := 0, nblk := 0 } else c
    { c with cfg := o.cfg }).opDone pid o

def State.runMzero (pid : Nat) (o : MatOp) : State := (s.modMat pid o.hand MatCtx.clear).opDone pid o

/-- MREL asks for a release, and is complete once the context is cleared (R159, R167). -/
def State.runMrel (pid : Nat) (o : MatOp) : State :=
  if ((s.plane pid).mat o.hand).release.isSome then s
  else if o.started then s.opDone pid o
  else (s.modMat pid o.hand fun c => c.ask o 2).setOp pid { o with started := true }

def State.runMrd (pid : Nat) (o : MatOp) : State :=
  let v := ((s.plane pid).mat o.hand).row o.row
  (s.lateWrite pid o.tid o.fid (fun s => s.setV pid o.vd v) (fun r => r.wV o.vd v)).opDone pid o

def State.runMwr (pid : Nat) (o : MatOp) : State :=
  (s.modMat pid o.hand fun c =>
    let old := c.acc
    { (c.opened o.colour o.tid) with
      acc := grid 0 fun i n => if i == o.row then BitVec.ofNat 32 (elem o.vec n 32) else look 0 old (i * 32 + n) }).opDone pid o

/-- The bytes of line `l` of an accumulator: half a row of 32 values (R169). -/
def MatCtx.line (c : MatCtx) (l : Nat) : List Byte := leBytes 64 (half (c.row (l / 2)) (l % 2)).toNat

/-- A row of an accumulator with half of it replaced (R169). -/
def MatCtx.putLine (c : MatCtx) (l v : Nat) : MatCtx :=
  { c with acc := (List.range 16).foldl (fun t i =>
      put 0 t (l / 2 * 32 + l % 2 * 16 + i) (BitVec.ofNat 32 (v / 2 ^ (32 * i)))) c.acc }

/-- The operation at its home for line `l` of an MSAVE or MLOAD, in program order with the firing's other accesses (R169,
R226). -/
def State.saveOp (pid : Nat) (o : MatOp) (job l : Nat) (ph : Phys) : MemOp :=
  let base : MemOp :=
    { id := o.id + 1 + l, kind := .load, key := ph.key, home := ph.die * 64 + ph.slice, size := 64, ord := o.ord, sc := o.sc,
      va := o.d0.toNat + 64 * l, job, tid := o.tid, fid := o.fid, colour := o.colour, mat := o.id }
  if o.kind == .msave then
    { base with kind := .store, data := ((s.plane pid).mat o.hand).line l,
                suppressed := ((s.take o.tid).map Take.shadow).getD false }
  else { base with dst := .acc o.hand l }

/-- Line `l` of an MSAVE or MLOAD: with scope 0 the stash serves it, filled first, where its home is on the cell's die;
else the plane's own dirty bytes go to the home and the access follows them (R169, R203, R206, R222). -/
def State.saveLine (pid : Nat) (o : MatOp) (job l : Nat) (ph : Option Phys) : State :=
  let va := o.d0.toNat + 64 * l
  let own := fun (s : State) (x : StashLine) =>
    let s := s.modPlane pid fun p => p.stashPut x
    if o.kind == .msave then
      if ((s.take o.tid).map Take.shadow).getD false then s
      else s.modPlane pid fun p => p.stashPut (x.store o.tid va (((s.plane pid).mat o.hand).line l))
    else s.modMat pid o.hand fun c => c.putLine l x.data.toNat
  match (if o.sc == 0 then (s.plane pid).stashFind job va else none), ph with
  | some x, _ => own s x
  | none, none => s
  | none, some p =>
    if o.sc == 0 && (s.plane pid).stashSize != 0 && p.die == dieOf pid then
      let s := s.stashFill pid job va p
      match (s.plane pid).stashFind job va with
      | some x => own s x
      | none => s
    else
      let s := s.flushLine pid job va
      let m := s.saveOp pid o job l p
      (s.modPlane pid fun q => { q with memq := q.memq ++ [m] }).sendAccess pid m

/-- The stash holds poisoned bytes that an MLOAD would read (R389). -/
def State.saveBad (pid : Nat) (o : MatOp) (job : Nat) : Bool :=
  o.kind == .mload && o.sc == 0 && (List.range 64).any fun l =>
    (((s.plane pid).stashFind job (o.d0.toNat + 64 * l)).map fun x => x.bad != 0).getD false

/-- What an MSAVE or MLOAD waits for before its accesses: with scope 0 earlier accesses of the plane to its lines, which the
stash serves in order, and for a release the firing's earlier writes (R223, R226). -/
def Plane.saveWaits (p : Plane) (o : MatOp) : Bool :=
  o.sc == 0 && (p.memq.any (fun m => decide (m.va / 64 * 64 < o.d0.toNat + 4096) && decide (o.d0.toNat < m.va / 64 * 64 + 64))
    || (o.ord == 2 && !p.writesDone o.fid o.id))

/-- The homes that the lines of an MSAVE or MLOAD need serve the plane now: those of fills, and of the write-backs that come before
(R208, R272). -/
def State.saveServed (pid : Nat) (o : MatOp) (job : Nat) (ph : List (Option Phys)) : Bool :=
  (ph.zip (List.range 64)).all fun e =>
    let va := o.d0.toNat + 64 * e.2
    match (if o.sc == 0 then (s.plane pid).stashFind job va else none), e.1 with
    | some _, _ => true
    | none, none => true
    | none, some p =>
      if o.sc == 0 && (s.plane pid).stashSize != 0 && p.die == dieOf pid then s.fillServed pid job va p
      else s.backServed pid fun x => x.vline == va / 64 && x.job == job

/-- MSAVE and MLOAD: every page that they reach beyond the stash must translate at the cell's slice; a miss joins the miss
queue (R161, R169). -/
def State.runSave (pid : Nat) (o : MatOp) : State :=
  let p := s.plane pid
  let job := ((s.take o.tid).map Take.job).getD 0
  let slice := translatingSlice pid
  let access := if o.kind == .msave then 1 else 0
  if o.started then
    if p.memq.any fun m => m.mat == o.id then s else s.opDone pid o
  else
    let va := fun (l : Nat) => o.d0.toNat + 64 * l
    let inStash := fun (l : Nat) => o.sc == 0 && (p.stashFind job (va l)).isSome
    match (List.range 64).find? fun l => !inStash l && s.xlate slice job (va l) access == .miss with
    | some l =>
      let s := s.joinMiss slice job (va l) access (.matrix pid o.id)
      if s.missLook slice (.matrix pid o.id) == .faulted then (s.cause o.tid 2).matTrap pid o 2 (va l) else s
    | none =>
      let ph := (List.range 64).map fun l => match s.xlate slice job (va l) access with
        | .hit q => some q
        | .miss => none
      let room := ph.all fun q => match q with | some q => s.farRoom pid q.die (64 * 256) | none => true
      if p.saveWaits o || !room || !s.saveServed pid o job ph then s
      else if s.saveBad pid o job then s.purgeTake o.tid false
      else
        let s := s.fold (List.range 64) fun s l => if inStash l then s else s.useXlate slice job (va l) access
        let s := if o.kind == .msave then s
          else s.modMat pid o.hand fun c =>
            { c with partialBlk := [], kpos := 0, nblk := 0, open_ := true, openc := o.colour, openTid := o.tid }
        (s.fold (ph.zip (List.range 64)) fun s e => s.saveLine pid o job e.2 e.1).setOp pid { o with started := true }

/-- Runs an operation that has started or may start; one with a handle first takes its window. -/
def State.runOp (pid : Nat) (o : MatOp) : State :=
  match o.kind with
  | .mma => s.runMma pid o
  | .mldb | .mldbt => s.runLoad pid o
  | .msca => s.runMsca pid o
  | .mscb => s.runMscb pid o
  | .mkb => s.runMkb pid o
  | .mzero => s.runMzero pid o
  | .mrel => s.runMrel pid o
  | .mrd => s.runMrd pid o
  | .mwr => s.runMwr pid o
  | .msave | .mload => s.runSave pid o

/-- Operations of a queue with those before them. -/
def withEarlier : List MatOp → List MatOp → List (MatOp × List MatOp)
  | _, [] => []
  | before, o :: r => (o, before) :: withEarlier (before ++ [o]) r

/-- A plane has an MMA that may start now: its order, its window and its cell's count for the frame allow it
(R153, R376). -/
def State.mmaReady (pid : Nat) : Bool :=
  (withEarlier [] (s.plane pid).mq).any fun e =>
    e.1.kind == .mma && !e.1.started && e.1.mayStart e.2 && (!e.1.useH || s.takeWindow pid e.1 != .wait)

/-- The array is free, the cell's MMA count for the frame is not used up, and its choice falls on this plane
(R153, R376). -/
def State.arrayGrants (pid : Nat) : Bool :=
  let cell := cellOf pid
  (List.range 4).all (fun p => (s.plane (cell * 4 + p)).mq.all fun o => !(o.kind == .mma && o.started))
    && (s.cell cell).mmas < (s.die (dieOf pid)).mmaCap
    && s.choosePlane (dieOf pid) (s.cell cell).lastMma (fun p => s.mmaReady (cell * 4 + p)) == some (planeNoOf pid)

/-- A commit through an operation's handle, made before it, is not complete: its retire may not overtake it (R108). -/
def Plane.opBehindCommit (p : Plane) (o : MatOp) : Bool :=
  o.useH && o.adv && p.commits.any fun c => c.h == o.h && decide (c.id < o.id)

/-- MATRIX_OP_START (R153): the operation at an index of a plane's queue starts, or goes on after a release or after
its memory operations, when its context's order, the array and its window allow it. -/
def execMatrixOpStart (pid idx : Nat) (s : State) : Out :=
  let q := (s.plane pid).mq
  .next <| s.onDie (dieOf pid) <|
    match q[idx]? with
    | none => s
    | some o =>
      if (s.plane pid).stopped && !o.started then s
      else if o.started then s.runOp pid o
      else if !o.mayStart (q.take idx) || (s.plane pid).opBehindCommit o || (o.kind == .mma && !s.arrayGrants pid) then s
      else if !o.useH then
        (if o.kind == .mma then s.setOp pid { o with started := true } else s).runOp pid
          (if o.kind == .mma then { o with started := true } else o)
      else
        match s.takeWindow pid o with
        | .wait => s
        | .trap cause detail =>
          let s := if cause == 10 then s.modPlane pid fun p => { p with h := del p.h o.h } else s
          s.matTrap pid o cause detail
        | .got ns rows =>
          let (s, o) := s.opTakes pid o ns rows
          s.runOp pid o

/-! ## Release and drain (R159, R160) -/

/-- The drained rows as granules: every element converted once, row after row, with the LFSR after it (R160, R65). -/
def Drain.convert (d : Drain) (l : BitVec 32) : List Gran × BitVec 32 :=
  let t := d.cfg.otag
  let w := widthOf t
  let scl := value 0 d.ftz d.cfg.oscl.toNat
  let f := fun (i : Nat) (l : BitVec 32) =>
    roundTo ((value 0 d.ftz (look 0 d.acc i).toNat).mul scl) t d.cfg.rm d.cfg.sat d.ftz l
  let (es, l) := runLanes f (List.range 1024) l
  let per := 512 / w
  ((List.range (drainGrans t)).map fun g =>
    BitVec.ofNat 512 (((es.drop (g * per)).take per).foldr (fun x acc => acc * 2 ^ w + x % 2 ^ w) 0), l)

/-- ACC_RELEASE (R159): with the release buffer free, an incomplete K-block is promoted, the accumulator is copied and
the context cleared. The stochastic steps of the release are taken now, as the operation that asked for it executes
(R57, R65). -/
def execAccRelease (pid hand : Nat) (s : State) : Out :=
  let hand := hand == 1
  let c := (s.plane pid).mat hand
  .next <| s.onDie (dieOf pid) <|
    match c.release, c.drain with
    | some r, none =>
      let c := if c.kpos == 0 then c else c.promote r.ftz
      let d : Drain := { mark := r.mark, tid := r.tid, colour := r.colour, coord := r.coord, upTo := r.upTo, cfg := c.cfg,
                         acc := c.acc, ftz := r.ftz, lfsr := (s.plane pid).lfsr }
      let s := (s.noteMat pid).modPlane pid fun p => { p with lfsr := (d.convert d.lfsr).2 }
      s.modMat pid hand fun _ => { c.clear with release := none, drain := some d }
    | _, _ => s

/-- No write of the drain's colour on the plane, issued before the operation that caused it, is outstanding (R160). -/
def Plane.drainReady (p : Plane) (d : Drain) : Bool :=
  p.memq.all (fun o => !(o.colour == d.colour && o.isWrite && decide (o.id < d.upTo)))
    && p.commits.all fun c => !(c.tid == d.tid && decide (c.id < d.upTo))

/-- ACC_DRAIN (R160): the release buffer claims its granules, which may wait, and once the claim is granted and the
release it makes is complete writes and commits them. -/
def execAccDrain (pid hand : Nat) (s : State) : Out :=
  let h := hand == 1
  let c := (s.plane pid).mat h
  .next <| s.onDie (dieOf pid) <|
    match c.drain with
    | none => s
    | some d =>
      let key := d.cfg.out.key
      let nw := drainGrans d.cfg.otag
      match s.ringOf d.cfg.out with
      | none => if s.farAway d.cfg.out then s else (s.modMat pid h fun c => { c with drain := none }).planeFree pid
      | some r =>
        let who := Claimant.drain pid h
        match r.granted.find? fun g => g.1 == who with
        | none =>
          match s.claimNow key r { who, nw, colour := d.colour, tid := d.tid, fid := 0, dtag := d.cfg.otag } with
          | (s, some ns) => s.modRing key fun r => { r with granted := r.granted ++ [(who, ns)] }
          | (s, none) => s
        | some g =>
          if !(s.plane pid).drainReady d || s.exitFull key nw || !s.backServed pid (fun _ => true) then s
          else
            let ns := g.2
            let gs := (d.convert d.lfsr).1
            let s := s.writeBack pid
            let s := s.modRing key fun r => { r with granted := r.granted.erase g }
            let last := ns.length - 1
            let s := s.fold ((ns.zip gs).zip (List.range ns.length)) fun s e =>
              (s.setGran r e.1.1 e.1.2).setSide r e.1.1
                (mkSide (if e.2 == last then d.mark else 0) d.cfg.otag 0 d.colour)
            let s := s.modMat pid h fun c => { c with drain := none }
            (if (s.plane pid).killsCoord d.tid d.coord then (s.retireAll key ns).reclaim key
              else s.fill key ns d.tid (cellOf pid)).planeFree pid

/-! ## Ownership and MWAIT -/

/-- The first ownership park of a plane may resume: the context has no owner and its take waits on no trap (R155). -/
def State.ownReady (pid : Nat) : Bool :=
  let p := s.plane pid
  match p.ownParks with
  | [] => false
  | k :: _ => p.matOwner.isNone && ((s.take k.firing.tid).map fun t => t.traps.isEmpty).getD true

/-- OWNERSHIP_RESUME (R155): the take parked first resumes at its instruction with its registers. -/
def execOwnershipResume (pid : Nat) (s : State) : Out :=
  let p := s.plane pid
  .next <| s.onDie (dieOf pid) <|
    match p.ownParks with
    | [] => s
    | k :: rest =>
      if p.running || p.stopped || !s.ownReady pid then s
      else
        let s := s.modPlane pid fun p => { p with ownParks := rest, running := true, firing := k.firing, regs := k.regs }
        let s := s.forgetLog pid
        match s.take k.firing.tid with
        | none => s
        | some t => if s.ownParked t then s else s.unpark t

/-- MWAIT_COMPLETE (R170). -/
def execMwaitComplete (pid : Nat) (s : State) : Out :=
  let p := s.plane pid
  .next <| s.onDie (dieOf pid) (if p.running && p.firing.wait == .mwait && p.matIdle (p.firing.colour == 15) then
      s.modFiring pid fun f => { f with lastPc := f.pc, pc := f.pc + 1, wait := .none }
    else s)

end Sys2Proof.Machine
end

