-- ==== Sys2Proof/Machine/LoadStore.lean ====
section
/-!
DEFINITION. Loads, stores, atomics, stash, pinning, fence and window instructions, and the events that perform them
(10_memory, R198 to R227).
-/
namespace Sys2Proof.Machine

variable (s : State)

/-! ## Bank forms (R198, R200) -/

/-- Whether a byte range meets a part of the bank that starts at granule `base` and holds `n` granules. -/
def meets (a len base n : Nat) : Bool := a < (base + n) * 64 && base * 64 < a + len

/-- An access lies wholly in the data area of a plane: its bank share without rings and stash (R198). -/
def State.inData (pid a n : Nat) : Bool :=
  let p := s.plane pid
  p.inShare a n
    && s.rings.all (fun e => !(e.2.pid == pid && meets a n e.2.base e.2.size))
    && !(p.stashSize != 0 && a < p.stashBase + p.stashSize && p.stashBase < a + n)

/-- `n` bytes of the bank, and a write of some (R198). -/
def State.bankBytes (pid a n : Nat) : List Byte := (List.range n).map fun i => s.bankByte pid (a + i)
def State.setBankByte (pid a : Nat) (b : Byte) : State :=
  let k := cellOf pid * 1024 + a / 64
  let sh := 8 * (a % 64)
  let mask : Gran := (0xFF : Gran) <<< sh
  { s with bank := put 0 s.bank k ((look 0 s.bank k &&& ~~~mask) ||| (b.setWidth 512 <<< sh)) }
def State.setBankBytes (pid : Nat) : State → Nat → List Byte → State
  | s, _, [] => s
  | s, a, b :: bs => State.setBankBytes pid (s.setBankByte pid a b) (a + 1) bs

/-- A queued matrix operation that is still to read the bank holds a `.BK` store back, whether or not a trap holds the
operation itself (R200). -/
def Plane.bankReads (p : Plane) : Bool :=
  p.mq.any fun o => !o.useH
    && (o.kind == .mma || o.kind == .mldb || o.kind == .mldbt || o.kind == .msca)

/-- ALIGN of a memory instruction, with the whole address (R198, R319). -/
def State.alignTrap (ea : Word) : State := s.trap 3 ea 0

/-- The checks of a bank form (R198). -/
def bankOp (o : OpN) (s : State) (stores : Bool) (body : State → Nat → Nat → State) : Out :=
  stage o.g o.gn s fun s =>
    let ea := s.ea o.a o.off
    let n := 2 ^ o.sz.toNat
    if 65536 ≤ ea.toNat || ea.toNat % n != 0 || !s.inData s.cur ea.toNat n then s.alignTrap ea
    else if stores && s.pl.bankReads then s.hold .retry 0
    else body s ea.toNat n

/-- The low `n` bytes of a scalar or vector register, as bytes. -/
def wordBytes (x : Word) (n : Nat) : List Byte := leBytes n x.toNat
def vecBytes (v : Vec) (n : Nat) : List Byte := leBytes n v.toNat

/-- The V register that a vector form names in D[4:1] (R43). -/
def vreg (o : OpN) : Nat := o.d.toNat / 2

def execLdBk (o : OpN) (s : State) : Out :=
  bankOp o s false fun s a n => (s.wS o.d.toNat (w64 (leNat (s.bankBytes s.cur a n)))).adv
def execStBk (o : OpN) (s : State) : Out :=
  bankOp o s true fun s a n => (State.setBankBytes s.cur s a (wordBytes (s.rS o.d.toNat) n)).adv
def execVldBk (o : OpN) (s : State) : Out :=
  bankOp o s false fun s a n => (s.wV (vreg o) (BitVec.ofNat 1024 (leNat (s.bankBytes s.cur a n)))).adv
def execVstBk (o : OpN) (s : State) : Out :=
  bankOp o s true fun s a n => (State.setBankBytes s.cur s a (vecBytes (s.rV (vreg o)) n)).adv

/-! ## Translation at issue (R204, R336, R338) -/

/-- Translates an address of the issuing firing at its cell's slice; a miss waits for a walk, and a page with a pending
fault raises XLATE. -/
def State.withPhys (va access : Nat) (body : State → Phys → State) : State :=
  let slice := translatingSlice s.cur
  match s.tlbFind slice (s.asid s.pl.job) va (needsWrite access) with
  | some e => body (s.tlbTouch slice e) (physOf e.pte e.level va)
  | none =>
    let who := Requester.firing s.cur s.pl.firing.fid
    let s := s.joinMiss slice s.pl.job va access who
    match s.missLook slice who with
    | .full => s.hold .retry 0
    | .queued => s.hold .walk 0
    | .faulted => (s.cause s.pl.firing.tid 2).trap 2 (w64 va) 0

/-- The checks of a global access: alignment and a 52-bit address (R198), then an earlier acquire of the firing
(R223). -/
def globalOp (g : BitVec 3) (gn : BitVec 1) (s : State) (addr : State → Word) (n : Nat) (body : State → Nat → State) : Out :=
  stage g gn s fun s =>
    let ea := addr s
    if ea.toNat % n != 0 || fld ea 52 12 != 0 then s.alignTrap ea
    else if !s.pl.acquired s.pl.firing.fid then s.hold .retry 0
    else body s ea.toNat

/-! ## Waiting for a slice (R272) -/

/-- Reads a line at its home for the issuing firing: it waits for its turn there and is charged; a poisoned line purges the
firing's take (R272, R389). -/
def State.lineAt (ph : Phys) (body : State → BitVec 512 → State) : State :=
  let home := ph.die * 64 + ph.slice
  if !s.served home s.pl.job then s.hold .retry 0
  else if s.unreadable home ph.key then s.purgeTake s.pl.firing.tid false
  else body (s.charge home s.pl.job 64) (BitVec.ofNat 512 (s.num ph.key 64))

/-! ## The stash, as the issuing plane uses it (R203, R205, R206) -/

/-- The line addresses that an access touches. -/
def linesOf (ea n : Nat) : List Nat := if 64 < n then [ea, ea + 64] else [ea]

/-- A memory operation of the plane on one of the lines has not performed, or a queued MSAVE or MLOAD of the running firing
has still to make its own there (R226). -/
def State.lineBusy (ea n : Nat) : Bool :=
  s.pl.memq.any (fun o => o.job == s.pl.job && (linesOf ea n).any fun a => a / 64 == o.va / 64)
    || s.pl.behindSave s.pl.firing.fid s.serial (ea / 64 * 64) (64 * (linesOf ea n).length)

/-- Writes back the plane's own dirty copy of the lines, before an access that does not use the stash leaves the cell
(10_memory on atomics; R222; log 20). -/
def State.flushOwn (ea n : Nat) : State := s.fold (linesOf ea n) fun s a => s.flushLine s.cur s.pl.job a

/-- The stash line is one of those that an access of a job touches. -/
def StashLine.within (l : StashLine) (job ea n : Nat) : Bool := l.job == job && (linesOf ea n).any fun a => a / 64 == l.vline

/-- The same, once the homes of those lines serve the write-back (R272). -/
def State.afterOwn (ea n : Nat) (body : State → State) : State :=
  if s.backServed s.cur fun l => l.within s.pl.job ea n then body (s.flushOwn ea n) else s.hold .retry 0

/-- Serves an access by the stash where R203 says so: `own` acts on lines that the stash holds, filled first where they
are absent; `away` is the access at its home. -/
def State.stashOr (sc ea n access : Nat) (own : State → State) (away : State → Phys → State) : State :=
  let far := fun (s : State) => s.afterOwn ea n fun s => s.withPhys ea access away
  if sc != 0 || s.pl.stashSize == 0 then far s
  else if s.lineBusy ea n then s.hold .retry 0
  else
    let absent := (linesOf ea n).filter fun a => (s.pl.stashFind s.pl.job a).isNone
    if absent.isEmpty then own s
    else s.withPhys ea access fun s ph =>
      let place := fun (a : Nat) => { ph with key := ph.key + (a - ea), slice := homeSlice ((ph.key + (a - ea)) % 2 ^ 64) }
      if ph.die != dieOf s.cur then away s ph
      else if !absent.all fun a => s.fillServed s.cur s.pl.job a (place a) then s.hold .retry 0
      else own (s.fold absent fun s a => s.stashFill s.cur s.pl.job a (place a))

/-- Bytes of the plane's own stash. -/
def State.stashBytes (ea n : Nat) : List Byte :=
  (List.range n).map fun i =>
    match s.pl.stashFind s.pl.job (ea + i) with
    | none => 0
    | some l => l.data.extractLsb' (8 * ((ea + i) % 64)) 8

/-- Whether a read of the stash meets bytes that came from a poisoned line (R389). -/
def State.stashBad (ea n : Nat) : Bool :=
  (List.range n).any fun i =>
    match s.pl.stashFind s.pl.job (ea + i) with
    | none => false
    | some l => l.bad.getLsbD ((ea + i) % 64)

/-- Marks the lines of an access most recently used (R205). -/
def State.stashUse (ea n : Nat) : State :=
  s.fold (linesOf ea n) fun s a =>
    match s.pl.stashFind s.pl.job a with
    | none => s
    | some l => s.modPl fun p => p.stashPut l

/-- Writes bytes of one line into the plane's own stash (R206). -/
def State.stashWrite (ea : Nat) (bs : List Byte) : State :=
  match s.pl.stashFind s.pl.job ea with
  | none => s
  | some l => s.modPl fun p => p.stashPut (l.store s.pl.firing.tid ea bs)

/-! ## Issuing a global access (R202, R203) -/

/-- The plane's take is a paired shadow's, whose writes are suppressed (R329). -/
def State.shadowed : Bool := ((s.take s.pl.firing.tid).map Take.shadow).getD false

/-- The plane may have 64 global accesses outstanding; one of 128 bytes is outstanding while either of its lines is (R202,
R203). -/
def Plane.memRoom (p : Plane) : Bool :=
  (p.memq.filter fun o => o.mat == 0 && !(o.second && p.memq.any fun x => x.id + 1 == o.id)).length < 64

/-- A memory operation of the issuing firing on one line. -/
def State.lineOp (kind : MemKind) (ph : Phys) (ea va size ord sc : Nat) : MemOp :=
  let key := ph.key + (va - ea)
  { id := s.serial, kind, key, size, ord, sc, va, job := s.pl.job, tid := s.pl.firing.tid, fid := s.pl.firing.fid,
    colour := s.pl.firing.colour, suppressed := s.shadowed, home := ph.die * 64 + homeSlice (key % 2 ^ 64),
    second := va != ea }

/-- Operations join the plane's outstanding ones, in order, and begin their way home. -/
def State.issueOps (l : List (State → MemOp)) : State :=
  s.fold l fun s f =>
    let o := f s
    (s.bump.modPl fun p => { p with memq := p.memq ++ [o] }).sendAccess s.cur o

/-- Accesses of `n` bytes to a place at its home: they wait at issue where they need messages that may not be issued yet (R291,
R298). -/
def State.outward (ph : Phys) (ea n : Nat) (body : State → State) : State :=
  if s.farRoom s.cur ph.die (256 * (linesOf ea n).length) then body s else s.hold .retry 0

/-- A load (R202): `dst` says where the bytes of the line at `va` go. -/
def loadOp (o : OpN) (s : State) (write : State → List Byte → State) (clear : State → State) (dst : Nat → Dest) : Out :=
  let n := 2 ^ o.sz.toNat
  globalOp o.g o.gn s (fun s => s.ea o.a o.off) n fun s ea =>
    if !s.pl.memRoom then s.hold .retry 0
    else s.stashOr o.sc.toNat ea n 0
      (fun s =>
        if s.stashBad ea n then s.purgeTake s.pl.firing.tid false
        else (write (s.stashUse ea n) (s.stashBytes ea n)).adv)
      (fun s ph => s.outward ph ea n fun s =>
        ((clear s).issueOps ((linesOf ea n).map fun va => fun s =>
          { s.lineOp .load ph ea va (min n 64) o.ord.toNat o.sc.toNat with dst := dst (va - ea) })).adv)

def execLd (o : OpN) (s : State) : Out :=
  loadOp o s (fun s bs => s.wS o.d.toNat (w64 (leNat bs))) (fun s => s) fun _ => .sreg o.d.toNat
def execVld (o : OpN) (s : State) : Out :=
  loadOp o s (fun s bs => s.wV (vreg o) (BitVec.ofNat 1024 (leNat bs))) (fun s => s.wV (vreg o) 0) fun at_ =>
    .vreg (vreg o) at_

/-- A store (R202): a release in the stash waits for the firing's earlier writes (R223). -/
def storeOp (o : OpN) (s : State) (bytes : State → List Byte) : Out :=
  let n := 2 ^ o.sz.toNat
  globalOp o.g o.gn s (fun s => s.ea o.a o.off) n fun s ea =>
    if !s.pl.memRoom then s.hold .retry 0
    else s.stashOr o.sc.toNat ea n 1
      (fun s =>
        if o.ord == 2 && !s.released then s.hold .retry 0
        else if s.shadowed then s.adv
        else
          let bs := bytes s
          (s.fold (linesOf ea n) fun s a => s.stashWrite a ((bs.drop (a - ea)).take 64)).adv)
      (fun s ph => s.outward ph ea n fun s =>
        let bs := bytes s
        (s.issueOps ((linesOf ea n).map fun va => fun s =>
          { s.lineOp .store ph ea va (min n 64) o.ord.toNat o.sc.toNat with data := (bs.drop (va - ea)).take 64 })).adv)

def execSt (o : OpN) (s : State) : Out := storeOp o s fun s => wordBytes (s.rS o.d.toNat) (2 ^ o.sz.toNat)
def execVst (o : OpN) (s : State) : Out := storeOp o s fun s => vecBytes (s.rV (vreg o)) (2 ^ o.sz.toNat)

/-! ## SWB, SINV, SPIN, SUNPIN, FENCE (R209, R210, R226) -/

/-- A stash line leaves: written back first, as it is held now, and the directory forgets the holder (R207, R208, R209). -/
def State.stashForget (pid : Nat) (l : StashLine) : State :=
  let now := (s.plane pid).stash.find? fun x => x.vline == l.vline && x.job == l.job
  (match now with | some x => s.stashDrop pid x | none => s).dirDrop pid (dieOf pid * 64 + homeSlice (l.key % 2 ^ 64)) (lineOf l.key)

/-- Acts on the stash line that holds an address, if there is one (R198, R209). -/
def lineForm (o : OpN) (s : State) (f : State → StashLine → State) : Out :=
  stage o.g o.gn s fun s =>
    let ea := s.ea o.a o.off
    if ea.toNat % 64 != 0 || fld ea 52 12 != 0 then s.alignTrap ea
    else if !s.pl.acquired s.pl.firing.fid then s.hold .retry 0
    else
      match s.pl.stashFind s.pl.job ea.toNat with
      | none => s.adv
      | some l => if s.backServed s.cur (fun x => x.vline == l.vline && x.job == l.job) then (f s l).adv else s.hold .retry 0

def execSwbLine (o : OpN) (s : State) : Out := lineForm o s fun s l => s.writeBackLine s.cur l
def execSinvLine (o : OpN) (s : State) : Out := lineForm o s fun s l => s.stashForget s.cur l
def execSwbAll (o : OpN) (s : State) : Out :=
  stage o.g o.gn s fun s =>
    if !s.pl.acquired s.pl.firing.fid then s.hold .retry 0 else s.afterBack fun s => s.adv

/-- Drops every line of a plane's stash, written back first (R208, R209). -/
def State.stashEmpty (pid : Nat) : State := s.fold (s.plane pid).stash fun s l => s.stashForget pid l

def execSinvAll (o : OpN) (s : State) : Out :=
  stage o.g o.gn s fun s =>
    if !s.pl.acquired s.pl.firing.fid then s.hold .retry 0 else s.afterBack fun s => (s.stashEmpty s.cur).adv

/-- Pins of one set of a slice, and the number it may hold: 12, less 4 of the remaining ways of a set with a fenced way
(R210, R390). -/
def State.setPins (home line : Nat) : Nat :=
  ((s.slice home).pins.filter fun p => Config.cacheSet home p.1 == Config.cacheSet home line).length
def State.pinLimit (home line : Nat) : Nat :=
  16 - ((s.slice home).fencedWays.filter fun w => w / 16 == Config.cacheSet home line).length - 4

/-- Lines that a job has pinned (R210). -/
def State.jobPins (job : Nat) : Nat :=
  (s.slices.map fun e => (e.2.pins.filter fun p => p.2 == job).length).foldl (· + ·) 0

/-- SPIN and SUNPIN (R210): `f` gives the new state and the status for the line's home slice, line and job. -/
def pinOp (o : OpN) (s : State) (f : State → Nat → Nat → Nat → State × Nat) : Out :=
  globalOp o.g o.gn s (fun s => s.ea o.a o.off) 64 fun s ea =>
    s.withPhys ea 0 fun s ph =>
      let (s, st) := f s (ph.die * 64 + ph.slice) (lineOf ph.key) s.pl.job
      (s.wS o.d.toNat (w64 st)).adv

def execSpin (o : OpN) (s : State) : Out :=
  pinOp o s fun s home line job =>
    match (s.slice home).pins.find? fun p => p.1 == line with
    | some p => (s, if p.2 == job then 1 else 4)
    | none =>
      if s.pinLimit home line ≤ s.setPins home line then (s, 2)
      else if ((s.job job).map Job.quota).getD 0 ≤ s.jobPins job then (s, 3)
      else (s.modSlice home fun x => { x with pins := x.pins ++ [(line, job)] }, 0)

def execSunpin (o : OpN) (s : State) : Out :=
  pinOp o s fun s home line job =>
    match (s.slice home).pins.find? fun p => p.1 == line with
    | none => (s, 1)
    | some p =>
      if p.2 == job then (s.modSlice home fun x => { x with pins := x.pins.filter fun q => !(q == p) }, 0) else (s, 4)

/-- Every earlier read of the firing has performed, those of a queued MLOAD included. -/
def Plane.readsDone (p : Plane) (fid : Nat) : Bool :=
  p.memq.all (fun o => !(o.fid == fid) || (match o.kind with | .store => true | .load => false | .atomic _ => false))
    && p.mq.all fun o => !(o.kind == .mload && o.fid == fid)

/-- FENCE (R226): as an acquire it waits for the firing's earlier reads, as a release for its earlier writes, and of
die scope or wider it writes the stash back (R208). -/
def execFence (o : OpN) (s : State) : Out :=
  stage o.g o.gn s fun s =>
    let acq := o.ord == 1 || o.ord == 3
    let rel := o.ord == 2 || o.ord == 3
    if (acq && !s.pl.readsDone s.pl.firing.fid) || (rel && !s.released) then s.hold .retry 0
    else if rel && 3 ≤ o.sc.toNat then s.afterBack fun s => s.adv
    else s.adv

/-! ## Atomics (R211 to R214) -/

/-- The new value of an atomic other than ATOPK, on `n` bits (R212). -/
def atomicNew (fn n old b c : Nat) : Nat :=
  let m := 2 ^ n
  let a := toInt n old
  let d := toInt n b
  match fn with
  | 1 => (old + b) % m
  | 2 => clampInt n (a + d)
  | 3 => if a ≤ d then old else b
  | 4 => if a ≤ d then b else old
  | 5 => min old b
  | 6 => max old b
  | 7 => old &&& b
  | 8 => old ||| b
  | 9 => old ^^^ b
  | 10 => b
  | _ => if old == c then b else old

/-- An entry of a top-k record is better than another: a larger score, or an equal score and a smaller id (R214). A NaN compares
false (R70). -/
def topBetter (x y : Nat × Nat) : Bool :=
  let u := value 1 false x.1
  let v := value 1 false y.1
  if u.isNan || v.isNan then false else
  v.lt false u || (!u.lt false v && x.2 < y.2)

/-- ATOPK on the 64 bytes of a record: the new bytes and the result (R214). -/
def topkNew (r : List Byte) (b : Nat) : List Byte × Nat :=
  let at_ (i : Nat) : Nat := (r.getD i 0).toNat
  let count := at_ 0
  let k := at_ 1
  let entry (j : Nat) : Nat × Nat := (at_ (32 + 4 * j) + 256 * at_ (33 + 4 * j), at_ (34 + 4 * j) + 256 * at_ (35 + 4 * j))
  let score := b % 2 ^ 16
  let id := b / 2 ^ 16 % 2 ^ 16
  let ret (pos : Nat) : Nat := count * 256 + pos
  if k == 0 || 8 < k || k < count || ((r.drop 2).take 30).any (fun x => x != 0) then (r, ret 0xFE)
  else if (value 1 false score).isNan then (r, ret 0xFF)
  else
    let score := if score == 0x8000 then 0 else score
    let es := (List.range count).map entry
    let p := (es.filter fun e => topBetter e (score, id)).length
    if k ≤ p then (r, ret 0xFF)
    else
      let es' := ((es.take p) ++ [(score, id)] ++ (es.drop p)).take k
      let tail := (List.range 8).map fun j => if j < es'.length then es'.getD j (0, 0) else entry j
      let bytes := tail.flatMap fun e => leBytes 2 e.1 ++ leBytes 2 e.2
      ([BitVec.ofNat 8 (min (count + 1) k), BitVec.ofNat 8 k] ++ (r.drop 2).take 30 ++ bytes, ret p)

/-- An atomic leaves the cell: the plane's dirty copy of the line is written back first; it never uses the stash
(R211). -/
def atomicOp (fn : Nat) (o : OpX) (s : State) : Out :=
  let n := 2 ^ o.sz.toNat
  globalOp o.g o.gn s (fun s => s.rS o.a.toNat) n fun s ea =>
    if !s.pl.memRoom then s.hold .retry 0
    else s.afterOwn ea n fun s => s.withPhys ea 2 fun s ph => s.outward ph ea n fun s =>
      (s.issueOps [fun s =>
        { s.lineOp (.atomic fn) ph ea ea n o.ord.toNat o.sc.toNat with
          b := s.rS o.b.toNat
          c := s.rS o.c.toNat
          dst := if o.d == 0 then .none else .sreg o.d.toNat }]).adv

def execAadd (o : OpX) (s : State) : Out := atomicOp 1 o s
def execAadds (o : OpX) (s : State) : Out := atomicOp 2 o s
def execAmin (o : OpX) (s : State) : Out := atomicOp 3 o s
def execAmax (o : OpX) (s : State) : Out := atomicOp 4 o s
def execAminu (o : OpX) (s : State) : Out := atomicOp 5 o s
def execAmaxu (o : OpX) (s : State) : Out := atomicOp 6 o s
def execAand (o : OpX) (s : State) : Out := atomicOp 7 o s
def execAor (o : OpX) (s : State) : Out := atomicOp 8 o s
def execAxor (o : OpX) (s : State) : Out := atomicOp 9 o s
def execAswp (o : OpX) (s : State) : Out := atomicOp 10 o s
def execAcas (o : OpX) (s : State) : Out := atomicOp 11 o s
def execAtopk (o : OpX) (s : State) : Out := atomicOp 12 o s

/-! ## Performing (R203, R213, R226) -/

/-- The operation leaves the plane's outstanding ones. -/
def State.opGone (pid : Nat) (o : MemOp) : State :=
  s.modPlane pid fun p => { p with memq := p.memq.filter fun x => !(x.id == o.id && x.va == o.va) }

/-- The value of a load or atomic reaches its register, or the accumulator (R169, R202, R212). -/
def State.deliver (pid : Nat) (o : MemOp) (v : Nat) : State :=
  match o.dst with
  | .none => s
  | .sreg n => s.lateWrite pid o.tid o.fid (fun s => s.setS pid n (w64 v)) (fun r => r.wS n (w64 v))
  | .vreg n at_ =>
    let add : Vec := BitVec.ofNat 1024 (v * 2 ^ (8 * at_))
    s.lateWrite pid o.tid o.fid (fun s => s.setV pid n ((s.plane pid).regs.rV n ||| add)) (fun r => r.wV n (r.rV n ||| add))
  | .acc hand line =>
    s.modMat pid hand fun c => c.putLine line v

/-- A write that releases to die scope or wider writes the plane's stash back first (R208). -/
def MemOp.flushes (o : MemOp) : Bool := o.isWrite && !o.suppressed && (o.ord == 2 || o.ord == 3) && decide (3 ≤ o.sc)

/-- A write of an outstanding operation performs at its home (R203, R208). -/
def State.performOp (pid : Nat) (o : MemOp) (data : List Byte) (cnt : Option Nat) : State :=
  let s := if o.flushes then s.writeBack pid else s
  s.performWrite { key := o.key, home := o.home, data, job := o.job, va := o.va, tid := o.tid, writer := pid + 1, cnt }

/-- What an operation does at its home, and its result: a load reads, a store writes, an atomic reads and writes at one moment; a
shadow's write performs nothing, and its atomic returns 0 (R203, R212 to R214, R329). -/
def State.homeAct (pid : Nat) (o : MemOp) : State × Nat :=
  match o.kind with
  | .load => (s, s.num o.key o.size)
  | .store => (if o.suppressed then s else s.performOp pid o o.data none, 0)
  | .atomic fn =>
    if o.suppressed then (s, 0)
    else if fn == 12 then
      let (new, ret) := topkNew (s.bytes o.key 64) (o.b.toNat % 2 ^ 32)
      (s.performOp pid o new (some 4), ret)
    else
      let n := 8 * o.size
      let old := s.num o.key o.size
      let new := atomicNew fn n old (o.b.toNat % 2 ^ n) (o.c.toNat % 2 ^ n)
      (s.performOp pid o (leBytes o.size new) none, old)

/-- An operation has performed at its home: its result is there at once, or comes from another die with PACK (R291, R302). -/
def State.answer (pid : Nat) (o : MemOp) (v : Nat) : State :=
  if o.leavesDie pid then
    (s.accessDone pid o).modPlane pid fun p =>
      { p with memq := p.memq.map fun x => if x.id == o.id && x.va == o.va then { x with got := some v } else x }
  else (s.opGone pid o).deliver pid o v

/-- The operation reads its line, so that a poisoned one purges its take (R389). -/
def MemOp.reads (o : MemOp) : Bool :=
  match o.kind with
  | .load => true
  | .store => false
  | .atomic _ => !o.suppressed

/-- The outstanding operation at an index performs at its home, in its turn and once its slice serves it (R203, R226, R272); a
read is charged to its job's bucket, a write as it performs. -/
def State.opPerform (pid op : Nat) (sel : MemKind → Bool) : State :=
  let p := s.plane pid
  match p.memq[op]? with
  | none => s
  | some o =>
    let waits := !p.mayPerform o || !s.atHome pid o || !s.served o.home o.job
      || (o.flushes && !s.backServed pid fun _ => true)
    if !sel o.kind || waits then s
    else
      let s := (if o.kind == .load then s.charge o.home o.job o.size else s).note o.job (dieOf pid)
      if o.reads && s.unreadable o.home o.key then ((s.accessDone pid o).opGone pid o).purgeTake o.tid false
      else let (s, v) := s.homeAct pid o; s.answer pid o v

/-- LOAD_RESPONSE (R203): the load reads at its home; a poisoned line purges the reading take (R389). -/
def execLoadResponse (pid op : Nat) (s : State) : Out :=
  .next (s.onDie (dieOf pid) (s.opPerform pid op fun k => k == .load))

/-- STORE_PERFORM (R203). -/
def execStorePerform (pid op : Nat) (s : State) : Out :=
  .next (s.onDie (dieOf pid) (s.opPerform pid op fun k => k == .store))

/-- ATOMIC_PERFORM (R212 to R214): one read-modify-write at the home; a shadow's performs nothing and returns 0
(R329). -/
def execAtomicPerform (pid op : Nat) (s : State) : Out :=
  .next (s.onDie (dieOf pid) (s.opPerform pid op fun k => match k with | .atomic _ => true | .load | .store => false))

/-- The answer to an access of class 7 is there: its result reaches the plane. A home in another package has performed it before it
answered: what it did there is modelled now (log 23). -/
def State.accessAnswered (m : Msg) : State :=
  match (s.plane m.pid).memq.find? fun o => o.isMsg m.pid m with
  | none => s
  | some o =>
    let (s, v) := match o.got with
      | some v => (s, v)
      | none => s.homeAct m.pid o
    ((s.opGone m.pid o).note o.job (dieOf m.pid)).deliver m.pid o v

/-! ## Arrival windows (R215 to R221) -/

/-- Window number of a window instruction: slice id * 64 + window (R217). -/
def windowId (o : OpK) : Nat := (fld o.imm 0 3 * 64 + fld o.kreg 6 6) * 64 + fld o.kreg 0 6

/-- A window record is free of reserved bits and out-of-range values (R216). -/
def recordOk (r : List Byte) : Bool :=
  let num (a n : Nat) : Nat := leNat ((r.drop a).take n)
  let act := num 21 1
  let kind := act % 4
  let arg0 := num 24 8
  let arg1 := num 32 8
  num 0 8 % 64 == 0 && num 0 8 < 2 ^ 52 && 1 ≤ num 8 4 && num 8 4 ≤ 2 ^ 20 && num 12 4 == 0 && 1 ≤ num 16 5
    && act / 4 % 32 == 0 && num 22 2 == 0 && num 40 24 == 0
    && (match kind with
      | 0 => arg0 < 2 ^ 15 && arg1 == 0
      | 1 => arg0 < 2 ^ 52 && arg1 < 2 ^ 52
      | 2 => arg0 < 2 ^ 15 && arg1 == 0
      | _ => arg0 < 2 ^ 11)

/-- Every page of a range is mapped and homed on a die (R216); no page lies beyond the 52 bits of an address (R198). -/
def State.homedOn (job base len die : Nat) : Bool :=
  decide (base + len ≤ 2 ^ 52) && (List.range ((base % 65536 + len + 65535) / 65536)).all fun i =>
    let va := base / 65536 * 65536 + i * 65536
    match s.walk job va false with
    | .fault _ _ => false
    | .leaf pte level => (physOf pte level va).die == die

/-- The status that AWARM gives: the first case in the order 4, 1, 2, 3 (R217). -/
def State.armStatus (job w : Nat) (r : List Byte) : Nat :=
  if !s.ownsWindow job w then 4
  else if (s.win w).state == .armed then 1
  else if !recordOk r then 2
  else if !s.homedOn job (leNat (r.take 8)) (64 * leNat ((r.drop 8).take 4)) (w / 4096) then 3
  else 0

/-- Arms a window from a record (R216, R217). -/
def State.arm (job w : Nat) (r : List Byte) (addr : Nat) : State :=
  let num (a n : Nat) : Nat := leNat ((r.drop a).take n)
  s.setWin w
    { state := .armed, base := num 0 8, len := num 8 4, total := num 16 5, rearm := num 21 1 / 128 == 1,
      action := num 21 1 % 4, arg0 := w64 (num 24 8), arg1 := w64 (num 32 8), count := 0, job, recAddr := addr }

/-- AWARM reads its record as an acquire load of die scope (R217). A shadow's arms nothing, and its status is free
(R329; log 5). -/
def execAwarm (o : OpK) (s : State) : Out :=
  globalOp o.g o.gn s (fun s => s.rS o.a.toNat) 64 fun s ea =>
    if s.lineBusy ea 64 then s.hold .retry 0
    else if s.shadowed then
      let (s, st) := s.freeNum 8
      (s.wS o.d.toNat (w64 st)).adv
    else s.afterOwn ea 64 fun s => s.withPhys ea 0 fun s ph => s.lineAt ph fun s line =>
      let w := windowId o
      let r := leBytes 64 line.toNat
      let st := s.armStatus s.pl.job w r
      ((if st == 0 then s.arm s.pl.job w r ea else s).wS o.d.toNat (w64 st)).adv

/-- A window instruction without a record: all ones where the window is not the job's (R217). -/
def windowOp (o : OpK) (s : State) (body : State → Nat → State) : Out :=
  stage o.g o.gn s fun s =>
    let w := windowId o
    if !s.pl.acquired s.pl.firing.fid then s.hold .retry 0
    else if !s.ownsWindow s.pl.job w then (s.wS o.d.toNat (BitVec.allOnes 64)).adv
    else body s w

/-- AWDIS (R217, R221): counted writes that perform later in this clk are still part of the count that it returns. -/
def execAwdis (o : OpK) (s : State) : Out :=
  windowOp o s fun s w =>
    let x := s.win w
    let f := s.pl.firing
    let d : Disarm := { at_ := s.clk, pid := s.cur, tid := f.tid, fid := f.fid, reg := o.d.toNat, armed := x.state == .armed }
    let s := if x.state == .disarmed then s else s.setWin w { x with state := .disarmed, dis := some d }
    ((s.dropCounts w).wS o.d.toNat (w64 x.count)).adv

/-- The window state word (R218). -/
def Win.word (x : Win) : Word :=
  w64 ((if x.state == .armed then 2 ^ 63 else 0) + (if x.state == .triggered then 2 ^ 62 else 0)
    + (if x.rearm then 2 ^ 61 else 0) + x.action % 4 * 2 ^ 59 + x.count % 2 ^ 40)

def execAwrd (o : OpK) (s : State) : Out :=
  windowOp o s fun s w => (s.wS o.d.toNat (s.win w).word).adv

/-- WINDOW_COUNT (R219): a count from another slice arrives. -/
def execWindowCount (die idx : Nat) (s : State) : Out :=
  .next <| s.onDie die <|
    match (s.die die).counts[idx]? with
    | none => s
    | some h => (s.modDie die fun d => { d with counts := d.counts.eraseIdx idx }).winAdd h.1 h.2

/-! ## The page walker (R338, R339) -/

/-- PAGE_WALK (R338): the walker takes the first page that waits, with at most 64 walks running. -/
def execPageWalk (die : Nat) (s : State) : Out :=
  let ms := (s.die die).misses
  .next <| s.onDie die <|
    if 64 ≤ (ms.filter fun m => m.walking).length then s
    else
      match ms.find? fun m => !m.walking && !m.faulted with
      | none => s
      | some m => s.modDie die fun d =>
          { d with misses := d.misses.map fun x => if x == m then { x with walking := true } else x }

/-- A requester whose translation is there now goes on; the others ask again by themselves (R338). -/
def State.wakeWaiter (w : Waiter) : State :=
  match w.who with
  | .firing pid fid =>
    let p := s.plane pid
    if p.running && p.firing.fid == fid && p.firing.wait == .walk then s.modFiring pid fun f => { f with wait := .none }
    else s
  | .stream sc => s.modStream sc fun x => { x with stalled := false }
  | .message mid =>
    { s with msgs := s.msgs.map fun m => if m.mid == mid then { m with stalled := false } else m }
  | .matrix _ _ => s

/-- A requester whose translation faulted stalls: a firing's take and a matrix operation's take park with XLATE, a
stream enters FAULT, a message's writes wait (R161, R204, R254, R302). -/
def State.stallWaiter (w : Waiter) : State :=
  match w.who with
  | .firing pid fid =>
    let p := s.plane pid
    if p.running && p.firing.fid == fid then s.trapAt pid 2 (w64 p.firing.pc) (w64 w.va) 0 else s
  | .matrix pid op =>
    match (s.plane pid).mq.find? fun o => o.id == op && !o.started && !o.held with
    | none => s
    | some o => s.matTrap pid o 2 w.va
  | .stream sc =>
    s.modStream sc fun x => if x.state == .fault then x else { x with state := .fault, back := x.state, stalled := false }
  | .message mid =>
    { s with msgs := s.msgs.map fun m => if m.mid == mid then { m with stalled := true } else m }

/-- A fault of the page is pending somewhere in the package: a later one writes no record (R339). -/
def State.faultPending (job page : Nat) : Bool :=
  s.dies.any fun e => e.2.misses.any fun m => m.faulted && m.job == job && m.page == page

/-- The take that a requester acts for. -/
def State.waiterTake (w : Waiter) : Nat :=
  match w.who with
  | .firing pid _ => (s.plane pid).firing.tid
  | .matrix _ op => ((s.matOpOf op).map MatOp.tid).getD 0
  | .stream sc => s.strTid sc
  | .message mid => ((s.msgs.find? fun m => m.mid == mid).map Msg.tid).getD 0

/-- UNIT of a requester's records: the cell with the engine that asked (R383, R161), a streamer by its slice (R253);
the walker of the die for a message's writes. -/
def Waiter.unit (w : Waiter) : BitVec 16 :=
  match w.who with
  | .firing pid _ => unitOfCell (dieOf pid) (cellNoOf pid) 0
  | .matrix pid _ => unitOfCell (dieOf pid) (cellNoOf pid) 2
  | .stream sc => unitOfNum (sc / 2048) (sc / 32 % 64) 0x0D
  | .message _ => unitOfNum (w.slice / 64) 0 0x16

/-- The detail that a streamer's record carries beside its own bytes: the context, in record byte 41 (R253). -/
def Waiter.context (w : Waiter) : Nat :=
  match w.who with
  | .stream sc => sc % 16 * 2 ^ 72
  | .firing _ _ | .matrix _ _ | .message _ => 0

/-- The XLATE record (R339): the faulting address, and the kind, level and access in the detail. -/
def State.xlateRecord (job kind level : Nat) (w : Waiter) : State :=
  let i : RecInfo := { cls := 2, act := actOf 0x1601 2, code := 0x1601, unit := w.unit, job, addr := w.va,
                       detail := kind + level * 256 + w.access * 65536 + w.context }
  match s.take (s.waiterTake w) with
  | some t => if t.job == job then s.postTake t i else s.post i
  | none => s.post i

/-- APERFAULT: the segment offset in ADDR (R364, R380). -/
def State.apertureFault (link job off : Nat) : State :=
  let job := if (s.job job).isSome then job else 0
  s.post { cls := 2, act := actOf 0x1E08 2, code := 0x1E08, unit := unitOfNum link link 0x19, job, addr := off % 2 ^ 34 }

/-- A message is an access of the host (R364). -/
def Msg.fromHost (m : Msg) : Bool := m.kind == 6 || m.kind == 7

/-- A host access to a page that faults does not stall: it posts APERFAULT, a write is dropped, and a read returns all ones
(R364). -/
def State.hostRefused (m : Msg) : State :=
  ((s.apertureFault m.access m.job m.raddr).modMsg m.mid fun m =>
    { m with data := List.replicate m.data.length 0xFF }).performed m

/-- The host access that a requester is, if it is one. -/
def State.hostOf (w : Waiter) : Option Msg :=
  match w.who with
  | .message mid => (s.msgOf mid).filter Msg.fromHost
  | .firing _ _ | .matrix _ _ | .stream _ => none

/-- The faults of a walk join a pending one of the page, or begin one with its record (R339). A host access waits for no service
(R364). -/
def State.faultWaiters (die job page kind level : Nat) (all : List Waiter) : State :=
  let ws := all.filter fun w => (s.hostOf w).isNone
  let s := s.fold (all.filterMap s.hostOf) State.hostRefused
  match ws with
  | [] => s
  | w :: _ =>
    let s := if s.faultPending job page then s else s.xlateRecord job kind level w
    let old := (s.die die).misses.find? fun m => m.faulted && m.job == job && m.page == page
    let s := s.modDie die fun d =>
      { d with misses := match old with
          | some m => d.misses.map fun x => if x == m then { x with who := x.who ++ ws } else x
          | none => d.misses ++ [{ job, page, who := ws, faulted := true, kind, level }] }
    s.fold ws fun s w => (s.cause (s.waiterTake w) 2).stallWaiter w

/-- PAGE_WALK_DONE (R336 to R339): the walk reads the tables; a leaf fills the caches of the slices that asked, and
requesters that it refuses fault. -/
def execPageWalkDone (die idx : Nat) (s : State) : Out :=
  .next <| s.onDie die <|
    match (s.die die).misses[idx]? with
    | none => s
    | some m =>
      if !m.walking then s
      else
        let s := (s.modDie die fun d => { d with misses := d.misses.eraseIdx idx }).note m.job die
        match s.walk m.job (m.page * 65536) false with
        | .fault kind level => s.faultWaiters die m.job m.page kind level m.who
        | .leaf pte level =>
          let writable := fld pte 2 1 == 1
          let ok := m.who.filter fun w => writable || !needsWrite w.access
          let no := m.who.filter fun w => !writable && needsWrite w.access
          let e : Tlb := { job := s.asid m.job, level, vpage := m.page * 65536 / 2 ^ pageBits level, pte }
          let s := s.fold ok fun s w => (s.tlbFill w.slice e).wakeWaiter w
          s.faultWaiters die m.job m.page 2 level no

end Sys2Proof.Machine
end

