-- ==== Sys2Proof/Machine/Streamer.lean ====
section
/-!
DEFINITION. Edge streamer instructions, descriptor programs and walks (11_streamers, R228 to R256).
-/
namespace Sys2Proof.Machine

variable (s : State)

/-! ## Streamer requests (R228 to R231, R247, R249 to R251) -/

/-- The stream context id that KREG names on the cell's own die: slice id * 32 + context; a shadow's
requests go to the duplicate (R329). -/
def State.streamId (o : OpK) : Nat :=
  (dieOf s.cur * 64 + fld o.kreg 6 6) * 32 + fld o.kreg 0 4 + if s.shadowed then 16 else 0

/-- An operation of the issuing firing (R230, R231). -/
def State.strOp (kind num : Nat) : StrOp :=
  { num, kind, colour := s.pl.firing.colour, tid := s.pl.firing.tid, pid := s.cur, fid := s.pl.firing.fid,
    upTo := s.serial }

/-- Accepts an operation: it takes the next number, which S[D] receives (R230). -/
def State.acceptOp (sc : Nat) (d : BitVec 5) (o : StrOp) : State :=
  ((s.bump.modStream sc fun x => { x with nextNum := x.nextNum + 1, ops := x.ops ++ [o] }).wS d.toNat (w64 o.num)).adv

/-- A streamer request: all ones where the context is not the job's (R228); later accesses of an acquiring firing wait
(R223). -/
def streamOp (o : OpK) (s : State) (body : State → Nat → Stream → State) : Out :=
  stage o.g o.gn s fun s =>
    let sc := s.streamId o
    let st := s.stream sc
    if !s.pl.acquired s.pl.firing.fid then s.hold .retry 0
    else if st.job != s.pl.job || st.job == 0 then (s.wS o.d.toNat (BitVec.allOnes 64)).adv
    else body s sc st

/-- A context in HELD, or walking a program with HOLD (R247, R249). -/
def Stream.takesRequests (st : Stream) : Bool := st.state == .held || (st.state == .walk && st.prog.hold)

def execSprog (o : OpK) (s : State) : Out :=
  stage o.g o.gn s fun s =>
    let a := s.rS o.a.toNat
    if a.toNat % 64 != 0 then s.alignTrap a
    else
      let sc := s.streamId o
      let st := s.stream sc
      if !s.pl.acquired s.pl.firing.fid then s.hold .retry 0
      else if st.job != s.pl.job || st.job == 0 then (s.wS o.d.toNat (BitVec.allOnes 64)).adv
      else
        let s := if st.state == .idle && st.ops.isEmpty then s.modStream sc fun x => { x with state := .load, prog := {} } else s
        s.acceptOp sc o.d { s.strOp 0 st.nextNum with word := a }

/-- SREQ: eight requests queue, a ninth waits at issue; a context that holds nothing completes it with NOTHELD
(R247). -/
def execSreq (o : OpK) (s : State) : Out :=
  streamOp o s fun s sc st =>
    let op := s.strOp 1 st.nextNum
    let queued := st.ops.filter fun x => x.kind == 1 && !x.fin && !(st.state == .walk && st.current == some x)
    if !st.takesRequests then s.acceptOp sc o.d { op with fin := true, err := 0x0D05 }
    else if 8 ≤ queued.length then s.hold .retry 0
    else s.acceptOp sc o.d { op with packet := half (s.rV o.a.toNat) 0 }

/-- SCFG (R249): a context that holds nothing completes it with BADCFG. -/
def execScfg (o : OpK) (s : State) : Out :=
  streamOp o s fun s sc st =>
    let op := s.strOp 2 st.nextNum
    if !st.takesRequests then s.acceptOp sc o.d { op with fin := true, err := 0x0D07 }
    else s.acceptOp sc o.d { op with word := s.rS o.a.toNat }

/-- SSTOP (R250): the walk and the queued requests end; with FLUSH a context that holds or walks an SDEST program first
pushes one EOT granule. A context that has not yet decoded the program it loads knows no SDEST, and pushes none (log 17). -/
def execSstop (o : OpK) (s : State) : Out :=
  streamOp o s fun s sc st =>
    let flush := fld o.imm 0 1 == 1 && st.state != .idle && st.prog.ring.isSome && !st.prog.src
    let op := s.strOp 3 st.nextNum
    let owed := st.walk.follow.map fun m => (m, st.colour, s.strTid sc)
    let s := s.streamHalt sc true fun x => x.kind != 3
    (s.modStream sc fun x => { x with owed := if owed.isSome then owed else x.owed }).acceptOp sc o.d { op with flush, fin := !flush }

/-! ## SLAYOUT (R245, R246) -/

/-- Bits `lo` to `lo + n - 1` of a record, at a byte offset. -/
def recNum (r : BitVec 512) (byte n : Nat) : Nat := fld r (8 * byte) (8 * n)
def recInt (r : BitVec 512) (byte n : Nat) : Int := toInt (8 * n) (recNum r byte n)

/-- Extent and stride of dimension `d` of a layout record, the stride of dimension 0 in bits (R245). -/
def layoutExt (r : BitVec 512) (d : Nat) : Nat := recNum r (16 + 4 * d) 4
def layoutTag (r : BitVec 512) : Nat := fld r 0 3
def layoutBits (r : BitVec 512) (d : Nat) : Int :=
  if d == 0 then widthOf (layoutTag r) else 8 * recInt r (28 + 4 * d) 4

/-- Lowest and highest byte of any element, exactly (R246). -/
def layoutSpan (r : BitVec 512) : Int × Int :=
  let base : Int := 8 * recNum r 8 8
  let ends := (List.range 4).map fun d => layoutBits r d * ((layoutExt r d : Int) - 1)
  let lo := ends.foldl (fun a x => if x < 0 then a + x else a) base
  let hi := ends.foldl (fun a x => if x < 0 then a else a + x) base + widthOf (layoutTag r) - 1
  (lo / 8, hi / 8)

/-- The subcode of the first condition that a record breaks (R246). -/
def layoutBad (r : BitVec 512) : Option Nat :=
  let ndim := recNum r 1 1
  let base := recNum r 8 8
  let (lo, hi) := layoutSpan r
  if ndim < 1 || 4 < ndim then some 1
  else if (List.range 4).any fun d => if d < ndim then layoutExt r d == 0 else layoutExt r d != 1 then some 2
  else if base % 64 != 0 || 2 ^ 52 ≤ base then some 3
  else if lo < base || (base + 64 * recNum r 4 4 : Int) ≤ hi then some 4
  else if recNum r 0 1 / 8 != 0 || recNum r 2 2 != 0 || recNum r 60 4 != 0 then some 5
  else if layoutTag r == 6 && layoutExt r 0 % 2 == 1 then some 6
  else none

/-- SLAYOUT (R246): ALIGN and OVERRUN before any effect, then one plain 64-byte store of die scope. -/
def execSlayout (o : OpK) (s : State) : Out :=
  stage o.g o.gn s fun s =>
    let ea := s.rS (fld o.kreg 0 5)
    let r : BitVec 512 := half (s.rV o.a.toNat) 0
    if ea.toNat % 64 != 0 || fld ea 52 12 != 0 then s.alignTrap ea
    else
      match layoutBad r with
      | some sub => s.trap 7 (w64 sub) 0
      | none =>
        if !s.pl.acquired s.pl.firing.fid || !s.pl.memRoom then s.hold .retry 0
        else s.afterOwn ea.toNat 64 fun s => s.withPhys ea.toNat 1 fun s ph => s.outward ph ea.toNat 64 fun s =>
          (s.issueOps [fun s => { s.lineOp .store ph ea.toNat ea.toNat 64 0 3 with data := leBytes 64 r.toNat }]).adv

/-! ## Reading and writing memory for a context (R254, R336) -/

/-- The context waits for a translation; one that waits for the service of the page's pending fault is in FAULT (R254). -/
def State.strStall (sc access va : Nat) : State :=
  let s := s.joinMiss (sc / 32) (s.stream sc).job va access (.stream sc)
  if s.missLook (sc / 32) (.stream sc) == .faulted then
    (s.cause (s.strTid sc) 2).modStream sc fun x =>
      if x.state == .fault then x else { x with state := .fault, back := x.state, stalled := false }
  else s.modStream sc fun x => { x with stalled := true }

/-- A 52-bit address (R234). -/
def wrap52 (a : Int) : Nat := (a % (2 ^ 52 : Int)).toNat

/-- The bytes of a line as the context's requests give them: one of its last WIN distinct requests, or a new one
(R241). -/
def State.strLine (sc va : Nat) : State × Gran :=
  let st := s.stream sc
  match st.walk.lines.find? fun e => e.1 == va with
  | some e => (s, e.2)
  | none =>
    let p := s.strPhys sc 3 va
    let s := s.useXlate (sc / 32) st.job va 3
    let g : Gran := BitVec.ofNat 512 (s.num p.key 64)
    ((s.charge (p.die * 64 + p.slice) st.job 64).modStream sc fun x =>
      { x with walk := { x.walk with lines := ((va, g) :: x.walk.lines).take x.prog.win } }, g)

/-- A request of the context waits at the home of one of the lines: the slice does not serve its job yet (R272). -/
def State.strWaits (sc access : Nat) (vas : List Nat) : Bool :=
  vas.any fun va =>
    !((s.stream sc).walk.lines.any fun e => e.1 == va)
      && (let p := s.strPhys sc access va; !s.served (p.die * 64 + p.slice) (s.stream sc).job)

/-- `n` bytes from an address as a number, through the context's line requests. -/
def State.strRead (sc a n : Nat) : State × Nat :=
  let (s, v) := (linesFrom a n).foldl (init := (s, ([] : List Gran))) fun acc va =>
    let (s, g) := acc.1.strLine sc va
    (s, acc.2 ++ [g])
  let all := v.foldr (fun g acc => g.toNat + 2 ^ 512 * acc) 0
  (s, all / 2 ^ (8 * (a % 64)) % 2 ^ (8 * n))

/-- A line that the context would have to request is poisoned (R389). -/
def State.strPoison (sc : Nat) (vas : List Nat) : Bool :=
  vas.any fun va =>
    !((s.stream sc).walk.lines.any fun e => e.1 == va)
      && (let p := s.strPhys sc 3 va; s.unreadable (p.die * 64 + p.slice) p.key)

/-- A streamer read of a poisoned line purges the take that it reads for (R327, R389); the walk stops with it. -/
def State.strPurge (sc : Nat) : State :=
  let st := s.stream sc
  let tid := if s.strTid sc != 0 then s.strTid sc else (st.current.map StrOp.tid).getD 0
  let s := s.streamHalt sc true fun o => o.kind != 3
  s.purgeTake tid false

/-! ## Completion (R230, R252, R253) -/

/-- The operation at the head waits only for its completion. -/
def State.finish (sc err : Nat) (walked : Bool) (extra : Nat) : State :=
  s.modStream sc fun x =>
    { x with
      ops := match x.ops with
        | [] => []
        | o :: r => { o with fin := true, err, walked, extra } :: r
      lastErr := if err == 0 then x.lastErr else err
      walks := if walked && err == 0 then x.walks + 1 else x.walks }

/-- A walk ends: the context enters HELD with HOLD, else IDLE (R229). -/
def State.endWalk (sc err : Nat) : State :=
  (s.finish sc err true 0).modStream sc fun x =>
    { x with state := if x.prog.hold && err == 0 then .held else .idle, walk := {}, loaded := false, stalled := false }

/-- Codes of a stream that fail the take (R253). -/
def strFails (code : Nat) : Bool := code != 0 && code != 0x0D03 && code != 0x0D09

/-- The release of an operation writes the issuing plane's stash back, once (R208, R231). -/
def State.opRelease (sc : Nat) (o : StrOp) : State :=
  if o.run || o.released then s
  else (s.writeBack o.pid).modStream sc fun x =>
    { x with ops := x.ops.map fun k => if k.num == o.num then { k with released := true } else k }

/-- The completion of the operation at the head (R230, R252, R253): its release is done, then the status record, the counter,
the dependence counter of the program, and the record of an error. An error fails the take whose colour the stream
carries. -/
def State.completeOp (sc : Nat) (o : StrOp) : State :=
  let tid := if o.walked then s.strTid sc else s.opTid sc o
  let s := s.opRelease sc o
  let s := s.modStream sc fun x => { x with lastErr := if o.err == 0 then x.lastErr else o.err }
  let st := s.stream sc
  let s :=
    if st.status != 0 && (o.err != 0 || o.walked) && sc % 32 < 16 then
      s.strWrite sc st.status (st.statusBytes st.state.code)
    else s
  let s := s.modStream sc fun x => { x with ops := x.ops.drop 1, timeline := w64 o.num }
  let s := match st.prog.dctr with
    | some n => if o.walked && sc % 32 < 16 then s.decDep (sc / 2048) n 1 else s
    | none => s
  if o.err == 0 then s
  else if strFails o.err then
    let s := s.streamHalt sc true fun x => x.kind != 3
    if (s.take tid).isSome then
      s.failTake tid o.err (unitOfNum (sc / 2048) (sc / 32 % 64) 0x0D) 0 (sc % 16 * 2 ^ 72 + o.extra)
    else s.streamRec sc tid o.err 3 o.extra
  else s.streamRec sc tid o.err 0 o.extra

/-! ## Loading a program (R232, R233) -/

/-- What the decoding of a program has met so far: its settings, word kinds seen with their index, and failed checks as
(index, check). -/
structure Loading where
  prog : Prog := {}
  seen : List (Nat × Nat) := []
  fails : List (Nat × Nat) := []
  ended : Bool := false
  deriving DecidableEq, Repr

/-- Sets the dimension `d` of a program. -/
def Prog.setDim (p : Prog) (d : Nat) (f : Dim → Dim) : Prog :=
  { p with dims := (List.range 4).map fun i => let x := p.dims.getD i {}; if i == d then f x else x }

/-- The ring of an SDEST or SSRC word as Prog holds it: colour, CSEL, log size, base, die cell number. -/
def descRing (colour : BitVec 4) (csel : BitVec 1) (lg : BitVec 4) (base : BitVec 10) (cy cx : BitVec 4) :
    Nat × Bool × Nat × Nat × Nat :=
  (colour.toNat, csel == 1, lg.toNat, base.toNat, cy.toNat * 16 + cx.toNat)

/-- Applies one descriptor word to a program's settings; `lit` is the literal word after an SDIM with XM (R233). A word
given twice replaces its earlier occurrence. -/
def Prog.apply (p : Prog) (w : Desc) (lit : Nat) : Prog :=
  match w with
  | .sbase base => { p with base := some base.toNat }
  | .sdim d xm ext stride => p.setDim d.toNat fun x =>
      { x with ext := ext.toNat, stride := stride.toInt, counted := if xm == 1 then some lit else none }
  | .sidx d addr => p.setDim d.toNat fun x => { x with idx := some addr.toNat }
  | .swin d kw dil ostr padb inext => p.setDim d.toNat fun x =>
      { x with win := some (kw.toNat, dil.toNat, ostr.toNat, padb.toNat, inext.toNat) }
  | .sfmt stag ptag rm sat => { p with fmt := some (stag.toNat, ptag.toNat, rm.toNat, sat == 1) }
  | .smark d mark => p.setDim d.toNat fun x => { x with mark := mark.toNat }
  | .sdest colour csel lg base cy cx => { p with ring := some (descRing colour csel lg base cy cx), src := false }
  | .ssrc colour csel branch lg base cy cx =>
    { p with ring := some (descRing colour csel lg base cy cx), src := true, branch := branch.toNat }
  | .sfillv fill => { p with fill := fill.toNat }
  | .spol pol limit => { p with polFill := pol == 1, limit := limit.toNat }
  | .scoal pf win => { p with pf := pf.toNat, win := win.toNat }
  | .seot eotf hold empty dv dctr =>
    { p with eotf := eotf == 1, hold := hold == 1, empty := empty == 1,
             dctr := if dv == 1 then some dctr.toNat else none }

/-- A number for a word kind, per dimension for SIDX and SWIN. -/
def descKind : Desc → Nat
  | .sbase _ => 1 | .sdim _ _ _ _ => 2 | .sidx d _ => 32 + d.toNat | .swin d _ _ _ _ _ => 36 + d.toNat
  | .sfmt _ _ _ _ => 5 | .smark _ _ => 6 | .sdest _ _ _ _ _ _ => 7 | .ssrc _ _ _ _ _ _ _ => 8
  | .sfillv _ => 9 | .spol _ _ => 10 | .scoal _ _ => 11 | .seot _ _ _ _ _ => 12

/-- Reads the words from a store index on (R232): a word after the SEOT fails check 4 and ends the reading. An SDIM with XM 1
that is the last word has no literal: the model counts it as an illegal word, check 2 at its index, beside the check 3 that
R232 states (DESIGN CHOICE, log 46). -/
def loadWords : Nat → List Word → Loading → Loading
  | _, [], l => l
  | i, w :: r, l =>
    if l.ended then { l with fails := l.fails ++ [(i, 4)] }
    else
      match decodeDesc w with
      | .error _ => loadWords (i + 1) r { l with fails := l.fails ++ [(i, 2)] }
      | .ok (.sdim d 1 ext stride) =>
        match r with
        | [] => { l with fails := l.fails ++ [(i, 2)] }
        | lit :: r' =>
          if fld lit 52 12 != 0 then loadWords (i + 2) r' { l with fails := l.fails ++ [(i + 1, 2)] }
          else loadWords (i + 2) r'
            { l with prog := l.prog.apply (.sdim d 1 ext stride) lit.toNat, seen := ins l.seen 2 i }
      | .ok d =>
        loadWords (i + 1) r
          { l with prog := l.prog.apply d 0, seen := ins l.seen (descKind d) i, ended := descKind d == 12 }

/-- The failed check to report: the lowest index, and at one index the lowest check (R232). -/
def lowestFail (l : List (Nat × Nat)) : Option (Nat × Nat) :=
  l.foldl (fun m e => match m with
    | none => some e
    | some k => if e.1 < k.1 || (e.1 == k.1 && e.2 < k.2) then some e else m) none

/-- The checks of R232 on the words of a program loaded at index `at_`. -/
def checkProg (at_ : Nat) (ws : List Word) : Prog × Option (Nat × Nat) :=
  let l := loadWords at_ ws {}
  let seen := find l.seen
  let dest := seen 7
  let src := seen 8
  let both := match dest, src with
    | some a, some b => [(max a b, 5)]
    | _, _ => []
  let atEnd := match seen 12 with
    | none => [(at_ + ws.length - 1, 3)]
    | some e =>
      (if dest.isNone && src.isNone then [(e, 5)] else [])
        ++ (if (seen 5).isNone || ((seen 1).isNone && !l.prog.hold) then [(e, 6)] else [])
  let clash := (List.range 4).flatMap fun d =>
    match seen (32 + d), seen (36 + d) with
    | some a, some b => [(max a b, 7)]
    | _, _ => []
  let wins := (List.range 4).filterMap fun d => seen (36 + d)
  let winSrc := match src with
    | none => []
    | some b => wins.map fun a => (max a b, 8)
  (l.prog, lowestFail (l.fails ++ both ++ atEnd ++ clash ++ winSrc))

/-- A load is refused: BADPROG, with the index and the check in the record (R232). -/
def State.badProg (sc idx check : Nat) : State :=
  (s.finish sc 0x0D01 false (idx % 2 ^ 16 + check * 2 ^ 16)).modStream sc fun x =>
    { x with state := .idle, loaded := false, walk := {} }

/-- The operation at the head may begin: the issuing firing's writes of before it have performed (R231), and the homes of the
plane's dirty lines serve the write-back of its release (R272). -/
def State.opReady (o : StrOp) : Bool :=
  o.run || ((s.plane o.pid).writesDone o.fid o.upTo && (o.released || s.backServed o.pid fun _ => true))

/-- The region whose position moves the ring of a program loaded from an address, and the ring's cell from that region's
top-left one: those of its SDEST or SSRC word, the words being read from the address on (R266). -/
def State.ringRegion (sc a : Nat) (ws : List Word) : Nat × Nat :=
  let st := s.stream sc
  let die := sc / 2048
  let images := ((s.job st.job).map fun j => j.decl.regions.filter fun m => m.die == die).getD []
  let words := images.flatMap PlaneImage.strWords
  ((List.range ws.length).findSome? fun i =>
    if fld (ws.getD i 0) 56 8 == 7 || fld (ws.getD i 0) 56 8 == 8 then
      (words.find? fun e => e.1 == (a + 64 + 8 * i) % 2 ^ 52).map fun e => (regionKey st.job die e.2.2, e.2.1.toNat % 256)
    else none).getD (0, 0)

/-- STREAM_LOAD (R230, R232): the context reads and checks its header and words. -/
def execStreamLoad (slice ctx : Nat) (s : State) : Out :=
  let sc := slice * 32 + ctx
  let st := s.stream sc
  .next <| s.onDie (slice / 64) <|
    match st.ops with
    | [] => s
    | o :: _ =>
      if o.kind != 0 || o.fin || !s.opReady o || st.loaded
          || !(st.state == .idle || st.state == .held || (st.state == .load)) then s
      else
        let s := s.opRelease sc o
        let s := s.modStream sc fun x =>
          { x with
            state := .load
            prog := if x.state == .idle then {} else x.prog
            walk := {}
            colour := o.colour
            tid := o.tid
            stalled := false }
        let a := o.word.toNat
        match s.strMiss sc 3 [a] with
        | some va => s.strStall sc 3 va
        | none =>
          let (s, h) := s.strRead sc a 64
          let num (b n : Nat) : Nat := h / 2 ^ (8 * b) % 2 ^ (8 * n)
          let nw := num 0 2
          let at_ := num 2 2
          if nw < 1 || 256 < nw || 256 < at_ + nw || num 4 4 != 0 || num 8 8 % 64 != 0 || 2 ^ 52 ≤ num 8 8
              || num 16 48 != 0 then s.badProg sc 0xFFFF 1
          else
            let lines := a :: linesFrom (a + 64) (8 * nw)
            match s.strMiss sc 3 lines with
            | some va => s.strStall sc 3 va
            | none =>
              if s.strWaits sc 3 lines then s
              else if s.strPoison sc lines || (let p := s.strPhys sc 3 a; s.unreadable (p.die * 64 + p.slice) p.key) then
                s.strPurge sc
              else
                let s := s.fold lines fun s va => s.useXlate slice st.job va 3
                let ws := (List.range nw).map fun i =>
                  w64 (s.num (s.strPhys sc 3 ((a + 64 + 8 * i) % 2 ^ 52)).key 8)
                match checkProg at_ ws with
                | (_, some f) => s.badProg sc f.1 f.2
                | (p, none) =>
                  let s := s.modSlice slice fun x =>
                    { x with prog := (List.range nw).foldl (fun t i => put 0 t (at_ + i) (ws.getD i 0)) x.prog }
                  let s := s.modStream sc fun x =>
                    { x with
                      prog := p
                      far := (s.ringRegion sc a ws).1
                      rel := (s.ringRegion sc a ws).2
                      status := num 8 8
                      loaded := !p.hold
                      walk := {}
                      walks := 0
                      granules := 0
                      filled := 0
                      clamps := 0
                      lastErr := 0
                      state := if p.hold then .held else if o.run then .load else .walk }
                  if p.hold then s.finish sc 0 false 0 else s

/-! ## Starting a walk (R237, R240, R242, R248) -/

/-- A shadow's program whose destination does not lie in a paired region: it is not duplicated (R329). -/
def State.strMute (sc : Nat) : Bool :=
  let p := (s.stream sc).prog
  16 ≤ sc % 32 && (p.src || (s.twinKey (p.ringKeyOn (sc / 2048))).isNone)

/-- The ring that a program names, where it is there: of the job, of the size, and for SSRC with a live branch
(R242, R243). -/
def State.progRing (sc : Nat) : Option Ring :=
  let st := s.stream sc
  match st.prog.ring with
  | none => none
  | some (_, _, lg, _, _) =>
    match s.strRing sc with
    | none => none
    | some r =>
      if r.job == st.job && r.lg == lg && (!st.prog.src || r.live.getLsbD st.prog.branch) then some r else none

/-- The dimensions of a gather (R248). -/
def gatherDims (p : Prog) (n : Nat) : List Dim :=
  (List.range 4).map fun d =>
    let x := p.dims.getD d {}
    if d == 1 then { x with ext := n, counted := none, idx := none, win := none } else x

/-- The dimensions of a layout box: granules of a row, then the box's extents (R248). -/
def boxDims (p : Prog) (packet : BitVec 512) (ptag : Nat) : List Dim :=
  (List.range 4).map fun d =>
    let n := recNum packet (32 + 4 * d) 4
    { ext := if d == 0 then (n * widthOf ptag + 511) / 512 else n, mark := (p.dims.getD d {}).mark }

/-- Whether a request packet is well formed (R247). -/
def packetOk (w : BitVec 512) : Bool :=
  let kind := recNum w 0 1
  let n := recNum w 2 2
  if recNum w 1 1 != 0 || recNum w 4 4 != 0 then false
  else if kind == 1 then 1 ≤ n && n ≤ 12 && (List.range 12).all fun j => j < n || recNum w (16 + 4 * j) 4 == 0
  else kind == 0 && n == 0 && recNum w 8 8 % 64 == 0 && recNum w 8 8 < 2 ^ 52 && recNum w 48 16 == 0
    && (List.range 4).all fun d => recNum w (32 + 4 * d) 4 != 0

/-- Counts that a walk reads from memory at its start, as (dimension, address) (R240). -/
def countedOf (dims : List Dim) : List (Nat × Nat) :=
  (List.range 4).filterMap fun d => ((dims.getD d {}).counted).map fun a => (d, a)

/-- A dimension with its count: clamped to the bound (R240). -/
def Dim.take (x : Dim) (n : Nat) : Dim :=
  if x.ext < n then { x with counted := none, clamped := true } else { x with counted := none, ext := n }

/-- Taps of a dimension (R238). -/
def Dim.taps (x : Dim) : Nat := match x.win with | none => 1 | some (kw, _, _, _, _) => kw

/-- The radices of a nest, innermost first: the taps of a dimension are nested directly inside it (R234, R238). -/
def radices (dims : List Dim) : List Nat := dims.flatMap fun x => [x.taps, x.ext]

/-- The highest mark of a program, raised to EOT with EOTF (R237). -/
def Prog.lastMark (p : Prog) : Nat := if p.eotf then 4 else (p.dims.map Dim.mark).foldl max 0

/-- The walk begins with its dimensions resolved: an empty one has one granule due, or none (R237). -/
def State.beginWalk (sc : Nat) (dims : List Dim) (base : Nat) (box : Option (BitVec 512 × BitVec 512))
    (gather : Option (List Int)) (stag : Nat) : State :=
  s.modStream sc fun x =>
    let total := (radices dims).foldl (· * ·) 1
    let mark := x.prog.lastMark
    let due := total == 0 && !x.prog.empty && !x.prog.src && mark != 0
    { x with
      state := .walk
      walk := { active := true, base, dims, total, box, gather, stag,
                follow := if due then some mark else none, finished := total == 0 } }

/-- A walk of the operation at the head starts on its ring: the context is in WALK, and counts are read first (R229,
R240). -/
def State.startOn (sc : Nat) (r : Ring) (o : StrOp) : State :=
  let s := s.modStream sc fun x => { x with state := .walk }
  let st := s.stream sc
  let colour := match st.prog.ring with
    | some (c, true, _, _, _) => c
    | _ => if o.run then st.runColour else o.colour
  let tid := match s.carried sc with
    | some t => t
    | none => ((s.takeOf (s.plane r.pid).owner colour).map Take.tid).getD (if o.run then st.runTid else o.tid)
  let (stag0, ptag) := match st.prog.fmt with
    | some (a, b, _, _) => (a, b)
    | none => (0, 0)
  let gather := o.kind == 1 && recNum o.packet 0 1 == 1
  let box := o.kind == 1 && !gather
  let dims0 := if gather then gatherDims st.prog (recNum o.packet 2 2)
    else if box then boxDims st.prog o.packet ptag
    else st.prog.dims
  let counts := countedOf dims0
  let lines := (counts.flatMap fun c => linesFrom c.2 4) ++ (if box then [recNum o.packet 8 8] else [])
  match s.strMiss sc 3 lines with
  | some va => s.strStall sc 3 va
  | none =>
    let s := s.modStream sc fun x => { x with colour, tid, stalled := false }
    if s.strWaits sc 3 lines then s
    else if lines.any fun va => (let p := s.strPhys sc 3 va; s.unreadable (p.die * 64 + p.slice) p.key) then s.strPurge sc
    else
      let s := s.fold lines fun s va => s.useXlate (sc / 32) st.job va 3
      let countAt (a : Nat) : Nat :=
        leNat ((List.range 4).map fun i => s.byte (s.strPhys sc 3 ((a + i) % 2 ^ 52)).key)
      let dims := (List.range 4).map fun d =>
        let x := dims0.getD d {}
        match x.counted with
        | none => x
        | some a => x.take (countAt a)
      let n := (dims.filter Dim.clamped).length
      let s := s.modStream sc fun x => { x with clamps := x.clamps + n, lastErr := if n == 0 then x.lastErr else 0x0D03 }
      let s := if n == 0 then s else s.streamRec sc tid 0x0D03 2 0
      let idx := (List.range (recNum o.packet 2 2)).map fun j => recInt o.packet (16 + 4 * j) 4
      let record : BitVec 512 := BitVec.ofNat 512 (s.num (s.strPhys sc 3 (recNum o.packet 8 8)).key 64)
      if gather then s.beginWalk sc dims (recNum o.packet 8 8) none (some idx) stag0
      else if box then s.beginWalk sc dims 0 (some (record, o.packet)) none (layoutTag record)
      else s.beginWalk sc dims (st.prog.base.getD 0) none none stag0

/-- STREAM_WALK_START (R242, R248): the walk of a loaded program, or of the request at the head of a holding context. -/
def execStreamWalkStart (slice ctx : Nat) (s : State) : Out :=
  let sc := slice * 32 + ctx
  let st := s.stream sc
  .next <| s.onDie (slice / 64) <|
    match st.ops with
    | [] => s
    | o :: _ =>
      let loaded := o.kind == 0 && st.loaded && !st.walk.active
        && (st.state == .walk || (st.state == .load && o.run && st.runTid != 0))
      let request := o.kind == 1 && !st.walk.active && (st.state == .held || st.state == .idle || st.state == .walk)
      if o.fin || !s.opReady o || !(loaded || request) then s
      else
        let s := s.opRelease sc o
        if request && st.state == .idle then s.finish sc 0x0D05 false 0
        else if request && !packetOk o.packet then s.finish sc 0x0D06 false 0
        else if s.strMute sc then s.endWalk sc 0
        else
          match s.progRing sc with
          | some r => s.startOn sc r o
          | none =>
            if s.strAway sc then s
            else (s.modStream sc fun x => { x with tid := if o.run then x.runTid else o.tid }).endWalk sc 0x0D08

/-! ## Points (R234 to R239, R248) -/

/-- The digits of a point's number in a list of radices. -/
def digitsOf : List Nat → Nat → List Nat
  | [], _ => []
  | r :: rs, q => q % max r 1 :: digitsOf rs (q / max r 1)

/-- What a point is: where its run lies and how it is resolved. -/
inductive Point
  /-- Out of range (R239). -/
  | outside
  /-- A tap in the padding (R238). -/
  | pad
  /-- A run at a bit address, with the number of elements. -/
  | run (bit : Int) (elems : Nat)
  deriving DecidableEq, Repr

/-- All counters below a position are at their last value. -/
def lastBelow (rs ds : List Nat) (k : Nat) : Bool := ((rs.zip ds).take k).all fun e => e.2 + 1 == e.1

/-- The structural mark of a point (R236); in a layout box only the last granule of a row ends an iteration of dimension 0
(R248). -/
def Walk.markAt (w : Walk) (eotf : Bool) : Nat :=
  let rs := radices w.dims
  let ds := digitsOf rs w.q
  let m := (List.range 4).foldl (fun m d =>
    let k := if d == 0 && w.box.isSome then 2 else 2 * d + 1
    if lastBelow rs ds k then max m (w.dims.getD d {}).mark else m) 0
  if eotf && w.q + 1 == w.total then 4 else m

/-- Whether a clamp marks the point BAD (R240). -/
def Walk.clampBad (w : Walk) : Bool :=
  let rs := radices w.dims
  let ds := digitsOf rs w.q
  (List.range 4).any fun d => (w.dims.getD d {}).clamped && lastBelow rs ds (2 * d + 2)

/-- The index word addresses of a point (R238). -/
def Walk.idxAddrs (w : Walk) : List (Nat × Nat) :=
  let ds := digitsOf (radices w.dims) w.q
  (List.range 4).filterMap fun d => ((w.dims.getD d {}).idx).map fun a => (d, (a + 4 * ds.getD (2 * d + 1) 0) % 2 ^ 52)

/-- A point of a nest, with its SIDX values (R234, R238, R239). -/
def Walk.nestPoint (w : Walk) (limit elems : Nat) (vals : List (Nat × Int)) : Point :=
  let ds := digitsOf (radices w.dims) w.q
  let lim : Int := if limit == 0 then 2 ^ 31 else limit
  let part (d : Nat) : Option (Option Int) :=
    let x := w.dims.getD d {}
    let i := ds.getD (2 * d + 1) 0
    let t := ds.getD (2 * d) 0
    let indexed (v : Int) : Option (Option Int) := if 0 ≤ v && v < lim then some (some (v * x.stride)) else none
    match (if d == 1 then w.gather else none) with
    | some g => indexed (g.getD i 0)
    | none =>
      match find vals d with
      | some v => indexed v
      | none =>
        match x.win with
        | none => some (some (i * x.stride))
        | some (_, dil, ostr, padb, inext) =>
          let p : Int := i * ostr + t * dil - padb
          if p < 0 || (inext : Int) ≤ p then some none else some (some (p * x.stride))
  let parts := (List.range 4).map part
  if parts.any Option.isNone then .outside
  else if parts.any fun p => p == some none then .pad
  else
    let sum : Int := parts.foldl (fun a p => a + (p.getD none).getD 0) 0
    .run (8 * (wrap52 (w.base + sum) : Int)) elems

/-- A point of a layout box: the elements of one granule of a row (R248). -/
def Walk.boxPoint (w : Walk) (r pkt : BitVec 512) (perGran : Nat) : Point :=
  let ds := digitsOf (radices w.dims) w.q
  let cnt0 := recNum pkt 32 4
  let j0 := ds.getD 1 0 * perGran
  let n := min perGran (cnt0 - j0)
  let loc (d j : Nat) : Int := (recNum pkt (16 + 4 * d) 4 : Int) + j - recNum r (44 + 4 * d) 4
  let inside (d : Nat) (e : Int) : Bool := 0 ≤ e && e < layoutExt r d
  let first := loc 0 j0
  let outer := (List.range 3).map fun k => loc (k + 1) (ds.getD (2 * k + 3) 0)
  let bit : Int := 8 * recNum r 8 8 + first * layoutBits r 0
    + ((List.range 3).map fun k => outer.getD k 0 * layoutBits r (k + 1)).foldl (· + ·) 0
  let lo := bit / 8
  let hi := (bit + n * layoutBits r 0 - 1) / 8
  let base : Int := recNum r 8 8
  if !inside 0 first || !inside 0 (first + n - 1)
      || !((List.range 3).all fun k => inside (k + 1) (outer.getD k 0))
      || lo < base || base + 64 * recNum r 4 4 ≤ hi then .outside
  else .run bit n

/-- Converts elements from one tag to another under RM and SAT, without FTZ and LFSR (R135, R235). -/
def convert (a b rm : Nat) (sat : Bool) (l : List Nat) : List Nat :=
  l.map fun x => (roundTo (value a false x) b rm sat false 0).1

/-- The elements of width `w` of a number, and the number that elements make. -/
def splitElems (w n v : Nat) : List Nat := (List.range n).map fun i => v / 2 ^ (w * i) % 2 ^ w
def joinElems (w : Nat) (l : List Nat) : Nat := l.foldr (fun x acc => x % 2 ^ w + 2 ^ w * acc) 0

/-- Pushes one granule on a ring for a context (R242): the claim waits while FREE is 0, the commit while an exit is full
(R330); `after` follows the commit. -/
def State.pushGran (sc key ptag colour mark valid : Nat) (data : Gran) (after : State → State) : State :=
  match s.strRing sc with
  | none => s
  | some r =>
    let tid := s.strTid sc
    let (s, got) := match s.takeGranted key (.stream sc) with
      | some (s, ns) => (s, some ns)
      | none => s.claimNow key r { who := .stream sc, nw := 1, colour, tid, fid := 0, dtag := ptag }
    match got with
    | none => s
    | some ns =>
      if s.exitFull key 1 then s.modRing key fun r => { r with granted := r.granted ++ [(.stream sc, ns)] }
      else
      let s := s.fold ns fun s n => (s.setGran r n data).setSide r n (mkSide mark ptag valid colour)
      after ((s.fill key ns tid r.cid).modStream sc fun x => { x with granules := x.granules + ns.length })

/-! ## Reading the memory of a point (R235, R238, R241, R254) -/

/-- Granule elements of a walk's pushed or consumed tag. -/
def Stream.perGran (st : Stream) : Nat := 512 / widthOf (st.prog.fmt.getD (0, 0, 0, false)).2.1

/-- Point `q` of the walk with its SIDX values. -/
def Stream.pointAt (st : Stream) (q : Nat) (vals : List (Nat × Int)) : Point :=
  let w := { st.walk with q }
  match w.box with
  | some (r, pkt) => w.boxPoint r pkt st.perGran
  | none => w.nestPoint st.prog.limit st.perGran vals

/-- A run's first byte, its bit offset within that byte, and its bytes of `n` elements. -/
def runBytes (bit : Int) (n width : Nat) : Nat × Nat × Nat :=
  let sh := (bit % 8).toNat
  (wrap52 (bit / 8), sh, (sh + n * width + 7) / 8)

/-- A run that ends the walk with ALIGN (R235); element addresses of a layout box need no alignment (R248). -/
def Stream.misaligned (st : Stream) (a : Nat) : Bool :=
  let wp := widthOf (st.prog.fmt.getD (0, 0, 0, false)).2.1
  st.walk.box.isNone && a % min (64 * widthOf st.walk.stag / wp) 64 != 0

/-- What reading a point comes to: a translation that is missing, of an index word or not; a slice that does not serve the
request yet (R272); a poisoned line; or the point's
SIDX values and the bytes of its run, with the state in which its lines have been requested. -/
inductive PointRead
  | miss (index : Bool) (va : Nat)
  | waits
  | poison
  | ready (t : State) (vals : List (Nat × Int)) (run : Nat)

/-- Reads point `q`: as it was read ahead, or now (R241). -/
def State.readPoint (sc q : Nat) : PointRead :=
  let st := s.stream sc
  match st.walk.ahead.find? fun a => a.q == q with
  | some a => .ready s a.vals a.run
  | none =>
    let ia := { st.walk with q }.idxAddrs
    match s.strMiss sc 3 (ia.map (·.2)) with
    | some va => .miss true va
    | none =>
      if s.strPoison sc (ia.map fun e => e.2 / 64 * 64) then .poison
      else
        let s := s.fold (ia.map (·.2)) fun s va => s.useXlate (sc / 32) st.job va 3
        let vals : List (Nat × Int) := ia.map fun e => (e.1, toInt 32 (s.num (s.strPhys sc 3 e.2).key 4))
        match (if st.prog.src then .pad else st.pointAt q vals) with
        | .outside | .pad => .ready s vals 0
        | .run bit n =>
          let (a, _, len) := runBytes bit n (widthOf st.walk.stag)
          if st.misaligned a then .ready s vals 0
          else
            match s.strMiss sc 3 (linesFrom a len) with
            | some va => .miss false va
            | none =>
              if s.strWaits sc 3 (linesFrom a len) then .waits
              else if s.strPoison sc (linesFrom a len) then .poison
              else let (t, v) := s.strRead sc a len; .ready t vals v

/-- Reads up to `n` points from point `q` on into flight. A point whose run does not translate is passed over; index words are
read in point order (R238, R241, R254). -/
def State.readAhead (sc : Nat) : Nat → State → Nat → State
  | 0, s, _ => s
  | n + 1, s, q =>
    if (s.stream sc).walk.total ≤ q then s
    else
      match s.readPoint sc q with
      | .miss true _ | .waits => s
      | .miss false _ | .poison => State.readAhead sc n s (q + 1)
      | .ready t vals run =>
        let t := t.modStream sc fun x =>
          if x.walk.ahead.any fun a => a.q == q then x
          else { x with walk := { x.walk with ahead := x.walk.ahead ++ [{ q, vals, run }] } }
        State.readAhead sc n t (q + 1)

/-- Points of the walk are read into flight, at most PF of them; how many of those are read by now is free (R241; log 17). -/
def State.readFlight (sc : Nat) : State :=
  let st := s.stream sc
  let (s, n) := s.freeNum 1
  State.readAhead sc (1 + n % max st.prog.pf 1) s st.walk.q

/-- A data granule is pushed; one that must be BAD is followed by its structural mark (R237). -/
def State.pushPoint (sc key ptag mark valid : Nat) (data : Gran) (bad : Bool) (fill : Nat) : State :=
  let st := s.stream sc
  s.pushGran sc key ptag st.colour (if bad then 7 else mark) valid data fun s =>
    s.modStream sc fun x =>
      { x with
        filled := x.filled + fill
        walk := { x.walk.next with follow := if bad && mark != 0 then some mark else none } }

/-- A point of an SDEST walk (R235 to R239, R241). -/
def State.pointPush (sc key : Nat) : State :=
  let s := s.readFlight sc
  let st := s.stream sc
  let w := st.walk
  let (_, ptag, rm, sat) := st.prog.fmt.getD (0, 0, 0, false)
  let wp := widthOf ptag
  match s.readPoint sc w.q with
  | .miss _ va => s.strStall sc 3 va
  | .waits => s
  | .poison => s.strPurge sc
  | .ready s vals run =>
    let mark := w.markAt st.prog.eotf
    match st.pointAt w.q vals with
    | .outside => if st.prog.polFill then s.pushPoint sc key ptag mark 0 0 true 1 else s.endWalk sc 0x0D02
    | .pad =>
      s.pushPoint sc key ptag mark 0
        (BitVec.ofNat 512 (joinElems wp (List.replicate st.perGran (st.prog.fill % 2 ^ wp)))) w.clampBad 0
    | .run bit n =>
      let (a, sh, _) := runBytes bit n (widthOf w.stag)
      if st.misaligned a then s.endWalk sc 0x0D04
      else
        let es := convert w.stag ptag rm sat (splitElems (widthOf w.stag) n (run / 2 ^ sh))
        let valid := if w.box.isSome then (n * wp + 7) / 8 % 64 else 0
        s.pushPoint sc key ptag mark valid (BitVec.ofNat 512 (joinElems wp es)) w.clampBad 0

/-- The SSTOP whose EOT granule is due: it goes first, before the stopped work completes (R250). -/
def Stream.flushing (st : Stream) : Option StrOp := st.ops.find? fun o => o.kind == 3 && o.flush && !o.fin

/-- The EOT granule of an SSTOP with FLUSH: COLOUR when CSEL is 1, else the colour of the firing that issued it (R250). It
waits for the operation's release (R231); a ring that is gone takes none. -/
def State.flushPush (sc : Nat) (o : StrOp) : State :=
  let st := s.stream sc
  let (_, ptag, _, _) := st.prog.fmt.getD (0, 0, 0, false)
  let colour := match st.prog.ring with
    | some (c, true, _, _, _) => c
    | _ => o.colour
  let done := fun (s : State) => s.modStream sc fun x =>
    { x with ops := x.ops.map fun k => if k.num == o.num then { k with fin := true } else k }
  if !s.opReady o || s.strAway sc then s
  else
    let s := s.opRelease sc o
    if (s.strRing sc).isNone then done s else s.pushGran sc (s.strKey sc) ptag colour 4 0 0 done

/-- The structural mark that a stopped walk still owes is pushed; a ring that is gone takes none (R237, R250). -/
def State.owedPush (sc mark colour : Nat) : State :=
  let (_, ptag, _, _) := (s.stream sc).prog.fmt.getD (0, 0, 0, false)
  let done := fun (s : State) => s.modStream sc fun x => { x with owed := none }
  if s.strAway sc then s
  else if (s.strRing sc).isNone then done s
  else s.pushGran sc (s.strKey sc) ptag colour mark 0 0 done

/-- What a context's push comes to: the mark that a stopped walk owes, the EOT granule of an SSTOP with FLUSH (R250), the granule
that is due (R237), or the next point. -/
def State.strPush (sc : Nat) : State :=
  let st := s.stream sc
  let key := s.strKey sc
  let (_, ptag, _, _) := st.prog.fmt.getD (0, 0, 0, false)
  match st.owed, st.flushing, st.current with
  | some (mark, colour, _), _, _ => s.owedPush sc mark colour
  | none, some o, _ => s.flushPush sc o
  | none, none, none => s
  | none, none, some _ =>
    if st.state != .walk || !st.walk.active || st.prog.src then s
    else
      match st.walk.follow with
      | some m => s.pushGran sc key ptag st.colour m 0 0 fun s =>
          s.modStream sc fun x => { x with walk := { x.walk with follow := none } }
      | none => if st.walk.finished || (s.strRing sc).isNone then s else s.pointPush sc key

/-- The pieces of `n` bytes from an address that lie in one 32-byte sector each (R244). -/
def sectorsOf (a : Nat) (bs : List Byte) : List (Nat × List Byte) :=
  let first := 32 - a % 32
  if bs.isEmpty then []
  else (a, bs.take first) :: (List.range ((bs.length - first + 31) / 32)).map fun i =>
    ((a + first + 32 * i) % 2 ^ 52, (bs.drop (first + 32 * i)).take 32)

/-- One sector of the point being written performs, which of them is free (R244; log 17); after the last the slot is
consumed. -/
def State.writeSector (sc key : Nat) (slot : SrcSlot) : State :=
  let st := s.stream sc
  let l := st.walk.sectors
  match s.strMiss sc 4 (l.map (·.1)) with
  | some va => s.strStall sc 4 va
  | none =>
    let (s, n) := if 1 < l.length then s.freeNum 1 else (s, 0)
    match l[n % l.length]? with
    | none => s.consumed sc key st.prog.branch slot 0
    | some e =>
      if (let p := s.strPhys sc 4 e.1; !s.served (p.die * 64 + p.slice) st.job) then s
      else
      let s := (s.strWrite sc e.1 e.2).modStream sc fun x =>
        { x with walk := { x.walk with sectors := x.walk.sectors.erase e } }
      if l.length ≤ 1 then s.consumed sc key st.prog.branch slot 0 else s

/-- A point of an SSRC walk (R239, R243). -/
def State.pointWrite (sc key : Nat) (r : Ring) : State :=
  let st := s.stream sc
  let w := st.walk
  let slot := s.srcSlot r st.prog.branch st.colour
  if !w.sectors.isEmpty then s.writeSector sc key slot
  else
    let s := s.readFlight sc
    let (_, ptag, rm, sat) := st.prog.fmt.getD (0, 0, 0, false)
    let ws := widthOf w.stag
    let wp := widthOf ptag
    match s.readPoint sc w.q with
    | .miss _ va => s.strStall sc 3 va
    | .waits => s
    | .poison => s.strPurge sc
    | .ready s vals _ =>
      match st.pointAt w.q vals with
      | .outside =>
        if !st.prog.polFill then s.endWalk sc 0x0D02
        else if slot == .none then s
        else s.consumed sc key st.prog.branch slot 1
      | .pad => s
      | .run bit n =>
        let (a, sh, _) := runBytes bit n ws
        if st.misaligned a then s.endWalk sc 0x0D04
        else
          let (side, data) : Side × Gran := match slot with
            | .none => (0, 0)
            | .slot _ side data => (side, data)
            | .bad k => (k.side, 0)
          if slot == .none then s
          else
            let v := if sideValid side == 0 then 64 else sideValid side
            let e := min (8 * v / wp) n
            let len := (sh + e * ws + 7) / 8
            match s.strMiss sc 4 (linesFrom a len) with
            | some va => s.strStall sc 4 va
            | none =>
              let low : Nat := if sh == 0 then 0 else (s.byte (s.strPhys sc 4 a).key).toNat % 2 ^ sh
              let out := joinElems ws (convert ptag w.stag rm sat (splitElems wp e data.toNat))
              let s := s.modStream sc fun x =>
                { x with walk := { x.walk with sectors := sectorsOf a (leBytes len (low + out * 2 ^ sh)) } }
              if len == 0 then s.consumed sc key st.prog.branch slot 0 else s.writeSector sc key slot

/-- What a context's consumption comes to (R243). -/
def State.strConsume (sc : Nat) : State :=
  let st := s.stream sc
  match st.current, s.strRing sc with
  | some _, some r =>
    if st.state != .walk || !st.walk.active || !st.prog.src || st.walk.finished then s else s.pointWrite sc (s.strKey sc) r
  | _, _ => s

/-! ## The order in which a slice serves its contexts (R256) -/

/-- A context's push or consumption, as its program has it. -/
def State.strPoint (sc : Nat) : State := (s.strPush sc).strConsume sc

/-- A context is ready: serving it moves a granule. -/
def State.strReady (sc : Nat) : Bool := ((s.strPoint sc).stream sc).granules != (s.stream sc).granules

/-- The contexts that a slice serves in a clk: the first two that are ready, from the one after the last served (R256). -/
def State.strTurns (slice : Nat) : List Nat :=
  (((List.range 16).map fun i => ((s.slice slice).lastServed + 1 + i) % 16).filter fun c => s.strReady (slice * 32 + c)).take 2

/-- A context acts as `act` says. One that moves a granule is served in its turn: the turns of a clk are those of the contexts
ready at its start, one granule each; elsewhere the slice serves others. Where no clk has begun yet, the readiness is that of the
first service. The duplicates of paired mode feed the other copy beside them (R256, R329; log 17). -/
def State.serveStream (slice ctx : Nat) (act : State → State) : State :=
  let sc := slice * 32 + ctx
  let t := act s
  if 16 ≤ ctx || (t.stream sc).granules == (s.stream sc).granules then t
  else
    let x := s.slice slice
    let turns := if x.servedAt == s.clk + 1 then x.turns else s.strTurns slice
    if turns.head? == some ctx then
      t.modSlice slice fun k => { k with turns := turns.drop 1, servedAt := s.clk + 1, lastServed := ctx }
    else s.modSlice slice fun k => { k with turns, servedAt := s.clk + 1 }

/-- `n` clk pass, and each slice notes the contexts that are ready at the start of the new clk (R256). -/
def State.tick (n : Nat) : State :=
  if n == 0 then s
  else
    let s := { s with clk := s.clk + n }
    s.fold (s.slices.filterMap fun e => if e.2.streams.isEmpty then none else some e.1) fun t x =>
      t.modSlice x fun k => { k with turns := s.strTurns x, servedAt := s.clk + 1 }

/-- STREAM_POINT_PUSH (R242, R256). -/
def execStreamPointPush (slice ctx : Nat) (s : State) : Out :=
  .next (s.onDie (slice / 64) (s.serveStream slice ctx fun s => s.strPush (slice * 32 + ctx)))

/-- STREAM_POINT_WRITE (R243, R256). -/
def execStreamPointWrite (slice ctx : Nat) (s : State) : Out :=
  .next (s.onDie (slice / 64) (s.serveStream slice ctx fun s => s.strConsume (slice * 32 + ctx)))

/-! ## The end of a walk, and service of a fault (R230, R249, R254) -/

/-- Whether a word may be sent by SCFG (R249). -/
def cfgWord (w : Word) : Option Desc :=
  match decodeDesc w with
  | .error _ => none
  | .ok d =>
    match d with
    | .sdim _ xm _ _ => if xm == 0 then some d else none
    | .sdest _ _ _ _ _ _ | .ssrc _ _ _ _ _ _ _ | .seot _ _ _ _ _ => none
    | .sbase _ | .sidx _ _ | .swin _ _ _ _ _ _ | .sfmt _ _ _ _ | .smark _ _ | .sfillv _ | .spol _ _ | .scoal _ _ => some d

/-- An SCFG at the head of a holding context is applied; any other is BADCFG (R249). -/
def State.applyCfg (sc : Nat) (o : StrOp) : State :=
  match (if (s.stream sc).state == .held then cfgWord o.word else none) with
  | none => s.finish sc 0x0D07 false 0
  | some d => (s.modStream sc fun x => { x with prog := x.prog.apply d 0 }).finish sc 0 false 0

/-- STREAM_WALK_END (R230, R252): a walk whose last point is done ends; the operation at the head completes once its
status record can be written, and after the EOT granule of an SSTOP that stopped it (R250). -/
def execStreamWalkEnd (slice ctx : Nat) (s : State) : Out :=
  let sc := slice * 32 + ctx
  let st := s.stream sc
  .next <| s.onDie (slice / 64) <|
    let s := if st.state == .walk && st.walk.active && st.walk.finished && st.walk.follow.isNone then s.endWalk sc 0 else s
    match (s.stream sc).ops with
    | [] => s
    | o :: _ =>
      let s := if o.kind == 2 && !o.fin && ((s.stream sc).state == .held || (s.stream sc).state == .idle) && s.opReady o then
          (s.opRelease sc o).applyCfg sc o else s
      match (s.stream sc).ops with
      | [] => s
      | o :: _ =>
        let st := s.stream sc
        if !o.fin || st.state == .fault || st.owed.isSome || st.flushing.isSome || !s.opReady o then s
        else
          let status := st.status != 0 && (o.err != 0 || o.walked)
          match (if status then s.strMiss sc 4 [st.status] else none) with
          | some va => s.strStall sc 4 va
          | none => s.completeOp sc o

/-- STREAM_SERVICE_RESUME (R254): the fault has been serviced and the context goes on where it stalled. -/
def execStreamServiceResume (slice ctx : Nat) (s : State) : Out :=
  let sc := slice * 32 + ctx
  let st := s.stream sc
  .next <| s.onDie (slice / 64) (if st.state == .fault && s.missLook slice (.stream sc) == .full then
      s.modStream sc fun x => { x with state := x.back, back := .idle, stalled := false }
    else s)

end Sys2Proof.Machine
end

