-- ==== Sys2Proof/Machine/Tasks.lean ====
section
/-!
DEFINITION. Slates, queues, counters, barriers, window actions, the drover's requests, the creation of takes and the
matching store (12_tasks, R257 to R277; R24, R172, R220, R274).
-/
namespace Sys2Proof.Machine

variable (s : State)

/-! ## Slates (R257, R258) -/

/-- A completion action word has a reserved field set or an illegal kind (R258). -/
def actBad (a : Nat) : Bool :=
  4 ≤ a % 8 || a / 2 ^ 4 % 16 != 0 || a / 2 ^ 11 % 32 != 0 || a / 2 ^ 28 != 0 || (a % 8 == 2 && a / 2 ^ 24 % 16 != 0)

/-- A slate has a reserved field set, an illegal KIND or an illegal action (R257). -/
def slateBad (w : BitVec 512) : Bool :=
  2 ≤ recNum w 0 1 || 8 ≤ recNum w 1 1 || fld w 44 3 != 0 || recNum w 7 1 != 0 || recNum w 36 4 != 0
    || recNum w 62 2 != 0 || actBad (recNum w 40 8) || actBad (recNum w 48 8)
    || (if recNum w 0 1 == 0 then recNum w 6 1 != 0 || recNum w 32 4 != 0 else fld w 51 1 != 0 || fld w 55 1 != 0)

/-- The fields of a slate (R257). -/
def slateOf (w : BitVec 512) : Slate :=
  { kind := fld w 0 2, prio := fld w 8 3, region := recNum w 2 1, entry := recNum w 3 1, dv := fld w 47 1 == 1,
    dctr := fld w 32 12, port := fld w 48 3, nports := fld w 52 3,
    args := (List.range 6).map fun i => BitVec.ofNat 32 (recNum w (8 + 4 * i) 4),
    mtag := recNum w 32 4, act0 := w64 (recNum w 40 8), act1 := w64 (recNum w 48 8), tag := recNum w 56 6 }

/-! ## Queues (R259, R260) -/

/-- The registered queue of a job at a header address, with its serving die. -/
def State.queueOf (job va : Nat) : Option (Nat × QueueReg) :=
  s.dies.findSome? fun e => (e.2.queues.find? fun q => q.job == job && q.va == va).map fun q => (e.1, q)

/-- HEAD, TAIL and LOG2N as the header holds them. -/
def State.qHead (q : QueueReg) : Nat := s.num q.key 8
def State.qTail (q : QueueReg) : Nat := s.num (q.key + 8) 8
def State.qLog (q : QueueReg) : Nat := s.num (q.key + 16) 1 % 32

/-- The address of slot `t` of a queue (R259). -/
def State.qSlot (q : QueueReg) (t : Nat) : Nat := q.va + 64 + 64 * (t % 2 ^ s.qLog q)

/-- The status of a push, 0 where the slate is taken (R260). -/
def State.pushStatus (job va : Nat) (w : BitVec 512) : Nat :=
  match s.queueOf job va with
  | none => 2
  | some (_, q) =>
    if slateBad w then 3 else if (s.qTail q + 2 ^ 64 - s.qHead q) % 2 ^ 64 == 2 ^ s.qLog q then 1 else 0

/-- Changes a registered queue of a die. -/
def State.modQueue (die : Nat) (q : QueueReg) (f : QueueReg → QueueReg) : State :=
  s.modDie die fun d => { d with queues := d.queues.map fun x => if x.job == q.job && x.va == q.va then f x else x }

/-- The push itself (R260): the slot's 64 bytes perform, then TAIL; both writes count in windows (R219). -/
def State.push (die : Nat) (q : QueueReg) (slot : Phys) (w : BitVec 512) (tid writer : Nat) : State :=
  let t := s.qTail q
  let va := s.qSlot q t
  let s := s.performWrite
    { key := slot.key, home := slot.die * 64 + slot.slice, data := leBytes 64 w.toNat, job := q.job, va, tid, writer }
  let s := s.performWrite
    { key := q.key + 8, home := q.home, data := leBytes 8 (t + 1), job := q.job, va := q.va + 8, tid, writer }
  s.modQueue die q fun x => { x with pushers := if tid == 0 then x.pushers else ins x.pushers (t % 2 ^ 64) tid }

/-- QPUSH (R260): ALIGN and XLATE first; a release when ORD is 2; a shadow's push is suppressed and its status is
free (R329; log 5). -/
def execQpush (o : OpX) (s : State) : Out :=
  globalOp o.g o.gn s (fun s => s.rS o.a.toNat) 64 fun s ea =>
    let w : BitVec 512 := half (s.rV (fld o.b 0 4)) 0
    let release := o.ord == 2
    if s.lineBusy ea 64 || (release && !s.released) then s.hold .retry 0
    else if s.shadowed then
      let (s, st) := s.freeNum 8
      (s.wS o.d.toNat (w64 st)).adv
    else
      (if release then s.afterBack else s.afterOwn ea 64) fun s => s.withPhys ea 2 fun s ph =>
        if s.unreadable (ph.die * 64 + ph.slice) ph.key then s.purgeTake s.pl.firing.tid false
        else
          let st := s.pushStatus s.pl.job ea w
          match (if st == 0 then s.queueOf s.pl.job ea else none) with
          | none => (s.wS o.d.toNat (w64 (2 ^ 63 + st))).adv
          | some (die, q) =>
            s.withPhys (s.qSlot q (s.qTail q)) 2 fun s slot =>
              if !s.served (slot.die * 64 + slot.slice) q.job || !s.served q.home q.job then s.hold .retry 0
              else
                let t := s.qTail q
                ((s.push die q slot w s.pl.firing.tid (s.cur + 1)).wS o.d.toNat (w64 t)).adv

/-! ## Counters (R261 to R263) -/

/-- Whether a dependence counter, or a timeline counter, of a die is the job's. -/
def State.ownsDep (job die n : Nat) : Bool := ((s.job job).map fun j => j.decl.dctrs.contains (die * 4096 + n)).getD false
def State.ownsTimeline (job die n : Nat) : Bool :=
  ((s.job job).map fun j => j.decl.tctrs.contains (die * 256 + n)).getD false

/-- DDEC and DSET (R262): a release of package scope; a counter that is not the job's gives all ones; a shadow's is
suppressed and its result is free (R329; log 5). -/
def depOp (o : OpX) (s : State) (new : Nat → Nat → Nat × Nat) : Out :=
  stage o.g o.gn s fun s =>
    let a := s.rS o.a.toNat
    let die := fld a 12 3
    let n := fld a 0 12
    if !s.released || !s.pl.acquired s.pl.firing.fid then s.hold .retry 0
    else if !s.ownsDep s.pl.job die n then (s.wS o.d.toNat (BitVec.allOnes 64)).adv
    else if s.shadowed then
      let (s, v) := s.freeNum 8
      (s.wS o.d.toNat (w64 v)).adv
    else s.afterBack fun s =>
      let old := (look 0 (s.die die).deps n).toNat
      let (v, u) := new old (fld (s.rS o.b.toNat) 0 32)
      ((s.setDep die n (BitVec.ofNat 32 v)).wS o.d.toNat (w64 (u * 2 ^ 32 + old))).adv

def execDdec (o : OpX) (s : State) : Out := depOp o s fun old b => (old - b, if old < b then 1 else 0)
def execDset (o : OpX) (s : State) : Out := depOp o s fun _ b => (b, 0)

/-- The value of the counter that TWAIT and TREAD name, if it is the job's (R263). -/
def State.timelineOf (o : OpK) : Option Nat :=
  let die := fld o.imm 0 3
  if fld o.kreg 10 2 == 0 then
    let n := fld o.kreg 0 8
    if s.ownsTimeline s.pl.job die n then some (look 0 (s.die die).timelines n).toNat else none
  else
    let st := s.stream ((die * 64 + fld o.kreg 4 6) * 32 + fld o.kreg 0 4 + if s.shadowed then 16 else 0)
    if st.job == s.pl.job && st.job != 0 then some st.timeline.toNat else none

def execTread (o : OpK) (s : State) : Out :=
  stage o.g o.gn s fun s =>
    (s.wS o.d.toNat (match s.timelineOf o with | some v => w64 v | none => BitVec.allOnes 64)).adv

/-- TWAIT holds its firing's place until the counter is at least ReadS(A) (R263). -/
def execTwait (o : OpK) (s : State) : Out :=
  stage o.g o.gn s fun s =>
    match s.timelineOf o with
    | none => (s.wS o.d.toNat (BitVec.allOnes 64)).adv
    | some v =>
      if (s.rS o.a.toNat).toNat ≤ v then (s.wS o.d.toNat (w64 v)).adv
      else
        let external := fld o.kreg 10 2 == 0
          && ((s.job s.pl.job).map fun j => j.decl.extTimeline.contains (fld o.imm 0 3 * 256 + fld o.kreg 0 8)).getD false
        (if external then s.cause s.pl.firing.tid 5 else s).hold .twait 0

/-- TIMELINE_WAKE (R263): the counter that a waiting TWAIT names has reached its threshold, and it issues again. -/
def execTimelineWake (pid : Nat) (s : State) : Out :=
  let p := s.plane pid
  let t := { s with cur := pid }
  let there := match t.fetchStage with
    | .twait o => (match t.timelineOf o with | none => true | some v => decide ((t.rS o.a.toNat).toNat ≤ v))
    | _ => true
  .next <| s.onDie (dieOf pid) (if p.running && p.firing.wait == .twait && there
    then s.modFiring pid fun f => { f with wait := .none } else s)

/-! ## BAR and YIELD (R275 to R277) -/

/-- A waiting instruction of a plane's firing completes. -/
def Firing.pass (f : Firing) : Firing := { f with lastPc := f.pc, pc := f.pc + 1, wait := .none }

/-- An arrival at the instance of a region and colour (R275): the first of a generation fixes N and W, one beyond the
N-th belongs to the next. -/
def Barrier.arrive (b : Barrier) (pid fid n : Nat) (win : Bool) : Barrier :=
  if b.n == 0 then { b with n, win, arrived := [(pid, fid)] }
  else if b.arrived.length < b.n then { b with arrived := b.arrived ++ [(pid, fid)] }
  else { b with next := b.next ++ [(pid, fid, n, win)] }

/-- The instance of a region and colour. -/
def Barrier.isOf (b : Barrier) (region colour : Nat) : Bool := b.region == region && b.colour == colour

/-- The instance of a region and colour is there, or one may be made: a die holds up to 256 (R275). -/
def Die.barrierRoom (d : Die) (region colour : Nat) : Bool :=
  d.barriers.any (fun b => b.isOf region colour) || decide (d.barriers.length < 256)

/-- Changes an instance, made first where it does not exist. -/
def Die.modBarrier (d : Die) (region colour : Nat) (f : Barrier → Barrier) : Die :=
  let old := if d.barriers.any fun b => b.isOf region colour then d.barriers else d.barriers ++ [{ region := region, colour := colour }]
  { d with barriers := old.map fun b => if b.isOf region colour then f b else b }

/-- BAR (R275): an arrival is a release of die scope. -/
def execBar (o : OpK) (s : State) : Out :=
  stage o.g o.gn s fun s =>
    let p := s.pl
    if !s.released || !(s.die (dieOf s.cur)).barrierRoom p.owner p.firing.colour then s.hold .retry 0
    else s.afterBack fun s =>
      let s := s.modDie (dieOf s.cur) fun d => d.modBarrier p.owner p.firing.colour fun b =>
        b.arrive s.cur p.firing.fid (fld o.imm 0 8 + 1) (fld o.imm 8 1 == 1)
      s.hold .bar 0

/-- BARRIER_OPEN (R275): with N arrivals, and a pending window release where W is 1, the generation opens: its firings
go on and the arrivals beyond it form the next. -/
def execBarrierOpen (die idx : Nat) (s : State) : Out :=
  .next <|
    match (s.die die).barriers[idx]? with
    | none => s
    | some b =>
      if b.n == 0 || b.arrived.length < b.n || (b.win && b.releases == 0) then s
      else
        let s := s.fold b.arrived fun s a =>
          let p := s.plane a.1
          if p.running && p.firing.fid == a.2 && p.firing.wait == .bar then s.modFiring a.1 Firing.pass else s
        let rest := b.next.foldl (fun x a => x.arrive a.1 a.2.1 a.2.2.1 a.2.2.2)
          { b with n := 0, win := false, arrived := [], next := [], releases := if b.win then b.releases - 1 else b.releases }
        s.modDie die fun d =>
          { d with barriers :=
              if rest.n == 0 && rest.releases == 0 then d.barriers.eraseIdx idx
              else d.barriers.map fun x => if x == b then rest else x }

/-- YIELD waits for n slot boundaries (R277). -/
def execYield (o : OpK) (s : State) : Out :=
  stage o.g o.gn s fun s => s.hold .yield (s.clk / 256 + fld o.imm 0 7)

def execYieldExpiry (pid : Nat) (s : State) : Out :=
  let p := s.plane pid
  .next <| s.onDie (dieOf pid) (if p.running && p.firing.wait == .yield && decide (p.firing.waitArg ≤ s.clk / 256) then
      s.modFiring pid Firing.pass
    else s)

/-! ## Window actions (R220, R276, R388) -/

/-- A window whose action failed is left TRIGGERED, a rearming one too, and counts nothing more (R220). One that has been
disarmed or armed anew in the meantime is left alone. -/
def State.winStuck (a : WinAct) : State :=
  let x := s.win a.win
  if x.state == .armed && x.job == a.job && x.recAddr == a.recAddr then
    (s.setWin a.win { x with state := .triggered, trigAt := s.clk }).dropCounts a.win
  else s

/-- A failed window action: a record of class JOB-FAILED, and the window is left TRIGGERED (R220, R388). -/
def State.actionFails (die : Nat) (a : WinAct) (code : Nat) : State :=
  (s.winStuck a).failJob
    { cls := 4, act := actOf code 4, code, unit := unitOfNum die (a.win / 64 % 64) 0x0F, job := a.job, addr := a.recAddr,
      detail := a.action }

/-- A window's push finds its queue full: a QFULL record names the drover and the TAG of the slate (R220, R287). -/
def State.queueFull (die : Nat) (a : WinAct) (tag : Nat) : State :=
  (s.winStuck a).failJob
    { cls := 4, act := actOf 0x1402 4, code := 0x1402, unit := unitOfNum die 0 0x14, job := a.job, tag }

/-- Where an address of a job lies, by a walk of its tables; a page that faults gives none. -/
def State.placeOf (job va : Nat) (write : Bool) : Option Phys :=
  match s.walk job va write with
  | .fault _ _ => none
  | .leaf pte level => some (physOf pte level va)

/-- Action 1: reads the template and pushes it as QPUSH does (R220). -/
def State.actPush (die : Nat) (a : WinAct) : State :=
  match s.placeOf a.job a.arg1.toNat false, s.queueOf a.job a.arg0.toNat with
  | some t, some (serve, q) =>
    if s.unreadable (t.die * 64 + t.slice) t.key then s.actionFails die a 0x0F01
    else
      let w : BitVec 512 := BitVec.ofNat 512 (s.num t.key 64)
      let s := s.charge (t.die * 64 + t.slice) a.job 64
      let st := s.pushStatus a.job q.va w
      if st == 1 then s.queueFull serve a (slateOf w).tag
      else if st != 0 then s.actionFails die a 0x0F01
      else
        match s.placeOf a.job (s.qSlot q (s.qTail q)) true with
        | none => s.actionFails die a 0x0F01
        | some slot => s.push serve q slot w 0 0
  | _, _ => s.actionFails die a 0x0F01

/-- The region that action 0 names, by its key. -/
def WinAct.barRegion (a : WinAct) : Nat := regionKey a.job (fld a.arg0 12 3) (fld a.arg0 0 8)

/-- The region that action 0 names is placed; a region whose plane is evicted keeps its placed takes, and their instances with
them (R265, R276, R388). -/
def State.barPlaced (a : WinAct) : Bool :=
  ((s.region a.barRegion).map fun r => r.place == .loading || r.place == .evicted || r.resident).getD false

/-- Action 0 needs an instance that its die has no room for: it waits (R275, R276). -/
def State.barWaits (a : WinAct) : Bool :=
  a.action == 0 && s.barPlaced a && !(s.die (fld a.arg0 12 3)).barrierRoom a.barRegion (fld a.arg0 8 4)

/-- Action 0: adds a pending release to the instance that ARG0 names (R276, R388). -/
def State.actRelease (die : Nat) (a : WinAct) : State :=
  let key := a.barRegion
  if !s.barPlaced a then s.actionFails die a 0x0F01
  else s.modDie (fld a.arg0 12 3) fun d =>
    d.modBarrier key (fld a.arg0 8 4) fun b => { b with releases := b.releases + 1 }

/-- WINDOW_ACTION (R220). -/
def execWindowAction (die idx : Nat) (s : State) : Out :=
  .next <| s.onDie die <|
    match (s.die die).actions[idx]? with
    | none => s
    | some a =>
      if s.barWaits a then s else
      let s := s.modDie die fun d => { d with actions := d.actions.eraseIdx idx }
      match a.action with
      | 0 => s.actRelease die a
      | 1 => s.actPush die a
      | 2 => s.decDep (fld a.arg0 12 3) (fld a.arg0 0 12) 1
      | _ => s.addTimeline (fld a.arg0 8 3) (fld a.arg0 0 8) a.arg1.toNat

/-! ## Dequeuing slates (R264) -/

/-- Index of the NTDEF word of each nonterminal of a script (R173); `skip` says that the word is a literal. -/
def ntTable : Nat → Bool → List (BitVec 32) → Tab Nat
  | _, _, [] => []
  | i, true, _ :: r => ntTable (i + 1) false r
  | i, false, w :: r =>
    let t := ntTable (i + 1) (hasLiteral w) r
    match decodeScript w 0 with
    | .ok (.ntdef n) => ins t n.toNat i
    | _ => t

/-- The image of a region of a job on a die. -/
def State.imageOf (job die rid : Nat) : Option PlaneImage :=
  (s.job job).bind fun j => j.decl.regions.find? fun r => r.die == die && r.rid == rid

/-- A job may start firings and dequeue slates (R31, R385). -/
def State.jobRuns (job : Nat) : Bool := ((s.job job).map fun j => !j.stopped && !j.ended).getD false

/-- A slate that its drover discards (R264). -/
def State.slateRefused (die job : Nat) (w : BitVec 512) : Bool :=
  let x := slateOf w
  let entry := match s.imageOf job die x.region with
    | none => false
    | some r => (find (ntTable 0 false r.script) x.entry).isSome
  slateBad w || !entry || (x.dv && !s.ownsDep job die x.dctr)

/-- Discards a slate with BADSLATE; its UNCOND actions run (R264). -/
def State.badSlate (die job : Nat) (w : BitVec 512) : State :=
  let x := slateOf w
  let s := s.post { cls := 3, act := actOf 0x1401 3, code := 0x1401, unit := unitOfNum die 0 0x14, job, tag := x.tag }
  s.fold [x.act0, x.act1] fun s a => if actUncond a then s.runAct (okInfo die job x.tag) a else s

/-- The drover takes a slate: discarded, held on its counter, or released at once (R264). -/
def State.takeSlate (die job pusher : Nat) (w : BitVec 512) : State :=
  if s.slateRefused die job w then s.badSlate die job w
  else
    let x := slateOf w
    let free := !x.dv || look 0 (s.die die).deps x.dctr == 0
    s.modDie die fun d =>
      { d with held := d.held ++ [{ job, slate := x, released := free, age := s.clk, pusherTid := pusher }] }

/-- Slates that the drover of a die holds (R264). -/
def Die.heldSlates (d : Die) : Nat := (d.held.filter fun h => h.source == .slate && !h.reissue && !h.start).length

/-- A queue has a slate for its drover (R264). -/
def State.queueReady (q : QueueReg) : Bool := s.qHead q != s.qTail q && s.jobRuns q.job

/-- SLATE_DEQUEUE (R264): the next non-empty queue in registration order gives one slate; HEAD grows after the slot is
read. A poisoned slot gives free bytes (log 5); a slot whose page faults is left. -/
def execSlateDequeue (die : Nat) (s : State) : Out :=
  let d := s.die die
  let n := d.queues.length
  let order := (List.range n).map fun i => (d.nextQueue + i) % n
  let pick := order.findSome? fun i => (d.queues[i]?).bind fun q => if s.queueReady q then some (i, q) else none
  .next <|
    if 256 ≤ d.heldSlates then s
    else
      match pick with
      | none => s
      | some (i, q) =>
        let h := s.qHead q
        match s.placeOf q.job (s.qSlot q h) false with
        | none => s
        | some slot =>
          let (s, v) := if s.unreadable (slot.die * 64 + slot.slice) slot.key then s.freeNum 64 else (s, s.num slot.key 64)
          let s := s.charge (slot.die * 64 + slot.slice) q.job 64
          let pusher := look 0 q.pushers h
          let s := s.performWrite
            { key := q.key, home := q.home, data := leBytes 8 (h + 1), job := q.job, va := q.va, tid := 0, writer := 0 }
          let s := s.modQueue die q fun x => { x with pushers := del x.pushers h }
          let s := s.modDie die fun d => { d with nextQueue := (i + 1) % n }
          s.takeSlate die q.job pusher (BitVec.ofNat 512 v)

/-! ## Creating takes (R24, R172, R265) -/

/-- The lowest colour that the allocator of a region and its partners has free (R24, R193). -/
def State.freeColour (key : Nat) : Option Nat := (List.range 15).find? fun c => (s.takeOf key c).isNone

/-- The lowest free context of a core, 0 to 14 (R172). -/
def State.freeContext (core : Nat) : Option Nat :=
  ((List.range 15).map fun i => core * 16 + i).find? fun c => (find s.ctxs c).isNone

/-- The region of a held request, in a place where it may be granted. -/
def State.heldRegion (die : Nat) (h : Held) : Option Region :=
  (s.region (regionKey h.job die h.slate.region)).bind fun r => if r.place == .eligible && !r.condemned then some r else none

/-- A region can take one more take now: a colour, a context, and a matching store that does not throttle (R24, R172,
R269). -/
def State.hasRoom (r : Region) : Bool :=
  (s.freeColour r.key).isSome && (s.freeContext r.driver).isSome && decide ((s.core r.driver).store.length < 896)

/-- A request may be granted: its region is eligible with room, and so is the shadow copy (R265, R329). -/
def State.grantable (die : Nat) (h : Held) : Bool :=
  h.released && h.slate.kind == 0 &&
    match s.heldRegion die h with
    | none => false
    | some r => s.hasRoom r
      && (r.shadow == 0 || ((s.region r.shadow).map fun x => x.place == .eligible && s.hasRoom x).getD false)

/-- A request ranks above another: by priority class, then by age (R265). -/
def Held.above (a b : Held) : Bool := b.slate.prio < a.slate.prio || (a.slate.prio == b.slate.prio && a.age < b.age)

/-- The highest-ranked request of a list, the first among equals. -/
def topHeld (l : List Held) : Option Held :=
  l.foldl (fun m h => match m with | none => some h | some x => if h.above x then some h else m) none

/-- A context begins its take's entry nonterminal; an empty entry raises ILLEGAL (R180). -/
def State.beginEntry (r : Region) (c entry : Nat) : State :=
  match find r.nts entry with
  | some i => s.modCtx c fun x => { x with pc := i, lastPc := i }
  | none => s.scriptTrap c (BitVec.allOnes 64) (w64 (2 ^ 63 + entry))

/-- One take of a region begins: it draws a colour and a context (R24, R172, R175). -/
def State.beginTake (r : Region) (h : Held) (twin : Nat) (shadow : Bool) : State :=
  match s.freeColour r.key, s.freeContext r.driver with
  | some colour, some ctx =>
    let s := s.noteOutstanding h.job r.die
    let tid := s.serial
    let t : Take :=
      { tid, job := h.job, region := r.key, colour, ctx, source := h.source, slate := h.slate, born := h.age,
        reissued := h.reissue, pairOf := h.pairOf, twin, shadow, causes := h.causes, issue := h.issue }
    let c : Ctx :=
      { state := .run, curnt := h.slate.entry, tplane := r.image.plane, args := h.slate.args, tid, region := r.key,
        caller := match h.source with | .call k _ => some k | _ => none }
    let s := { s.bump with takes := ins s.takes tid t, ctxs := ins s.ctxs ctx c }
    let s := if t.reissued then s.cause tid 3 else s
    s.beginEntry r ctx h.slate.entry
  | _, _ => s

/-- Takes of a job in progress on a die, of a class (R272, R274). -/
def State.classTakes (job die prio : Nat) : List Take :=
  (s.takes.map (·.2)).filter fun t => t.job == job && t.region / 256 % 8 == die && t.slate.prio == prio && !t.shadow

/-- More than M_c takes of a class in progress: each of them has met cause 1 (R274). -/
def State.noteClass (job die prio : Nat) : State :=
  let l := s.classTakes job die prio
  let m := ((s.job job).bind fun j => (j.contract[die]?).bind fun c => c.bound[prio]?).map (·.2.2)
  match m with
  | some m => if m < l.length then s.fold l fun s t => s.cause t.tid 1 else s
  | none => s

/-- The streams that start with a region act for its `.start` take, in the colour that it drew (R39). -/
def State.startStreams (r : Region) (tid : Nat) : State :=
  s.fold r.image.runs fun s e => s.modStream ((r.die * 64 + e.1) * 32 + e.2.1 + r.dup) fun x =>
    { x with runTid := tid, runColour := ((s.take tid).map Take.colour).getD 0 }

/-- The agent that asks for the twin of a take: the twin of the calling context (R329). -/
def State.twinSource : Source → Source
  | .call _ w => match (s.take w).bind fun t => s.take t.twin with
    | some u => .call u.ctx u.tid
    | none => .spawn
  | x => x

/-- TAKE_CREATE (R265): the highest-ranked request that can be granted becomes a take, with its twin in paired mode
(R329). -/
def execTakeCreate (die : Nat) (s : State) : Out :=
  .next <|
    match topHeld ((s.die die).held.filter (s.grantable die)) with
    | none => s
    | some h =>
      match s.heldRegion die h with
      | none => s
      | some r =>
        let tid := s.serial
        let s := s.modDie die fun d => { d with held := d.held.erase h }
        let s := match (if r.shadow == 0 then none else s.region r.shadow) with
          | none =>
            let s := s.beginTake r h 0 false
            if h.start then s.startStreams r tid else s
          | some r2 =>
            let s := (s.beginTake r h (tid + 1) false).beginTake r2 { h with source := s.twinSource h.source } tid true
            if h.start then (s.startStreams r tid).startStreams r2 (tid + 1) else s
        s.noteClass h.job die h.slate.prio

/-! ## The matching store (R268 to R270) -/

/-- Tokens of one key in the store and the spill area (R268). -/
def Core.tokensOf (c : Core) (job : Nat) (x : Slate) : List MatchTok :=
  (c.store ++ c.spill).filter fun m =>
    m.job == job && m.slate.region == x.region && m.slate.entry == x.entry && m.slate.mtag == x.mtag

/-- The take request of a completed join (R268). -/
def joined (ts : List MatchTok) (x : Slate) : Slate :=
  let port (p : Nat) : Option Slate := (ts.find? fun m => m.slate.port == p).map MatchTok.slate
  let p0 := (port 0).getD x
  { kind := 0, prio := ts.foldl (fun a m => max a m.slate.prio) 0, region := x.region, entry := x.entry,
    args := (List.range 6).map fun p => ((port p).bind fun y => y.args[0]?).getD 0,
    act0 := p0.act0, act1 := p0.act1, tag := p0.tag }

/-- Spilled tokens of a job, over the cores of a die's stores. -/
def State.spilled (job : Nat) : Nat :=
  (s.cores.map fun e => (e.2.spill.filter fun m => m.job == job).length).foldl (· + ·) 0

/-- The youngest take of a job on the die that pushed a token now held in the store or in the job's spill area, which
is one for all its stores (R269, R270). -/
def State.youngestPusher (core job : Nat) : Option Take :=
  let held := (s.core core).store ++ s.cores.flatMap fun e => e.2.spill
  let ids := (held.filter fun m => m.job == job && m.pusher != 0).map MatchTok.pusher
  let ts := (s.takes.map (·.2)).filter fun t => t.job == job && t.region / 256 % 8 == core / 16 && ids.contains t.tid
  ts.foldl (fun m t => match m with
    | none => some t
    | some x => if x.born < t.born || (x.born == t.born && x.tid < t.tid) then some t else m) none

/-- A released match token of a region that the core drives, the oldest first. -/
def State.arriving (core : Nat) : Option Held :=
  let l := (s.die (core / 16)).held.filter fun h =>
    h.released && h.slate.kind == 1 && s.jobRuns h.job
      && ((s.heldRegion (core / 16) h).map fun r => r.driver == core).getD false
  l.foldl (fun m h => match m with | none => some h | some x => if h.age < x.age then some h else m) none

/-- A token joins, is stored, spills, or finds no room (R268 to R270). -/
def State.storeToken (core : Nat) (h : Held) : State :=
  let c := s.core core
  let x := h.slate
  let t : MatchTok := { job := h.job, slate := x, pusher := h.pusherTid, age := s.clk }
  let same := c.tokensOf h.job x
  let gone := s.modDie (core / 16) fun d => { d with held := d.held.erase h }
  let unit := unitOfCore core 0x0A
  if x.nports < 2 || 6 < x.nports || x.nports ≤ x.port
      || same.any fun m => m.slate.nports != x.nports || m.slate.port == x.port then
    gone.post { cls := 3, act := actOf 0x0A03 3, code := 0x0A03, unit, job := h.job, tag := x.tag }
  else if same.length + 1 == x.nports then
    let s := gone.modCore core fun k =>
      { k with store := k.store.filter fun m => !same.contains m, spill := k.spill.filter fun m => !same.contains m }
    s.modDie (core / 16) fun d =>
      { d with held := d.held ++ [{ job := h.job, slate := joined (same ++ [t]) x, released := true, age := s.clk }] }
  else if c.store.length < 1024 then gone.modCore core fun k => { k with store := k.store ++ [t] }
  else if s.spilled h.job < ((s.job h.job).map Job.spill).getD 0 then
    gone.modCore core fun k => { k with spill := k.spill ++ [t] }
  else
    match s.youngestPusher core h.job with
    | some y => s.purgeAs y.tid false 0x0A01 unit
    | none => s.failJob { cls := 4, act := actOf 0x0A02 4, code := 0x0A02, unit, job := h.job, tag := x.tag }

/-- MATCH_TOKEN_ARRIVE (R268 to R270). -/
def execMatchTokenArrive (core : Nat) (s : State) : Out :=
  .next <|
    match s.arriving core with
    | none => s
    | some h => s.storeToken core h

/-- SPILL_RETURN (R269): while 64 entries are free the oldest spilled token moves back. -/
def execSpillReturn (core : Nat) (s : State) : Out :=
  let c := s.core core
  let old := c.spill.foldl (fun (m : Option MatchTok) t => match m with
    | none => some t
    | some x => if t.age < x.age then some t else m) none
  .next <|
    match old with
    | none => s
    | some t =>
      if 1024 < c.store.length + 64 then s
      else s.modCore core fun k => { k with spill := k.spill.erase t, store := k.store ++ [t] }

end Sys2Proof.Machine
end

