-- ==== Sys2Proof/Machine/Place.lean ====
section
/-!
DEFINITION. Placing, loading, evicting and restoring regions (R19, R27, R53, R266, R267, R329, R330, R332 to R335).
-/
namespace Sys2Proof.Machine

variable (s : State)

/-! ## What a placement needs (R19, R100, R173, R266) -/

/-- The image of a region's cell by its die cell number, for a region at a core; a cell that the image does not list
runs nothing. -/
def PlaneImage.cellOf (r : PlaneImage) (core cell : Nat) : CellImage :=
  let off := cell - topCell core
  (r.cells.find? fun k => k.dy * 16 + k.dx == off).getD { dx := off % 16, dy := off / 16, stage := 0, prog := [] }

/-- Regions that hold a cell of a die in some plane, each with its image of the cell. -/
def State.holders (die cell : Nat) : List (Region × CellImage) :=
  (s.regions.map (·.2)).filterMap fun r =>
    if r.die == die && (r.place == .loading || r.resident) && r.cellsLeft.contains cell then
      some (r, r.image.cellOf r.core cell)
    else none

/-- Two runs of bytes have one in common. -/
def overlap (a n b m : Nat) : Bool := a < b + m && b < a + n

/-- A cell image's shares come in their steps: 64 words of the stage-program store, and 4 KiB of stash at the top of the bank
share (R19, R205, R355). -/
def CellImage.formed (k : CellImage) : Bool :=
  k.progSize % 64 == 0 && k.stashSize % 4096 == 0
    && (k.stashSize == 0 || k.stashBase + k.stashSize == k.bankBase + k.bankSize)

/-- A cell image that would pass its load in an empty cell: shares, rings and stash within the cell (R19, R100). -/
def CellImage.sound (k : CellImage) : Bool :=
  k.formed && k.prog.length ≤ k.progSize && k.progSize ≤ 1024 && k.bankBase + k.bankSize ≤ 65536 && k.stashSize ≤ 32768
    && (k.stashSize == 0 || (k.bankBase ≤ k.stashBase && k.stashBase + k.stashSize ≤ k.bankBase + k.bankSize))
    && k.rings.length ≤ 32
    && k.rings.all (fun r => 2 ≤ r.lg && r.lg ≤ 10 && r.base % 2 ^ r.lg == 0 && r.init.length ≤ 2 ^ r.lg
        && k.bankBase ≤ 64 * r.base && 64 * (r.base + 2 ^ r.lg) ≤ k.bankBase + k.bankSize
        && !(k.stashSize != 0 && overlap (64 * r.base) (64 * 2 ^ r.lg) k.stashBase k.stashSize))
    && (k.rings.zip (List.range 32)).all fun e => (k.rings.drop (e.2 + 1)).all fun r =>
        !overlap e.1.base (2 ^ e.1.lg) r.base (2 ^ r.lg)

/-- The load of a cell image would pass beside the planes resident in the cell, in a free plane of an unfenced cell. -/
def State.cellFits (die plane cell : Nat) (k : CellImage) : Bool :=
  let hs := s.holders die cell
  let cid := die * 256 + cell
  !(s.cell cid).fenced && hs.all (fun h => h.1.image.plane != plane)
    && s.exits.all (fun e => !(e.comparator == cid && ((s.region e.region).map fun r => r.image.plane == plane).getD false))
    && (hs.map fun h => h.2.progSize).foldl (· + ·) k.progSize ≤ 1024
    && (hs.map fun h => h.2.rings.length).foldl (· + ·) k.rings.length ≤ 32
    && hs.all fun h => !overlap h.2.bankBase h.2.bankSize k.bankBase k.bankSize

/-- The lowest multiple of 256 at which a script share of a size fits in a core's store (R173). -/
def State.scriptRoom (die core size : Nat) : Option Nat :=
  let used := (s.regions.map (·.2)).filter fun r =>
    r.die == die && (r.place == .loading || r.resident) && r.core == core
  ((List.range 16).map fun i => 256 * i).find? fun b =>
    b + size ≤ 4096 && used.all fun r => !overlap b size r.scriptBase r.image.scriptSize

/-- A rectangle of cores lies on the die. -/
def inDie (core rows cols : Nat) : Bool := core < 16 && core / 4 + rows ≤ 4 && core % 4 + cols ≤ 4

/-- No number is listed twice. -/
def distinct : List Nat → Bool
  | [] => true
  | x :: r => !r.contains x && distinct r

/-- The nonterminals that the NTDEF words of a script define; `skip` says that the word is a literal (R173). -/
def ntDefs : Bool → List (BitVec 32) → List Nat
  | _, [] => []
  | true, _ :: r => ntDefs false r
  | false, w :: r =>
    let l := ntDefs (hasLiteral w) r
    match decodeScript w 0 with
    | .ok (.ntdef n) => n.toNat :: l
    | _ => l

/-- A script share comes in steps of 256 words, and no nonterminal is defined twice (R173). -/
def PlaneImage.scriptFormed (m : PlaneImage) : Bool := m.scriptSize % 256 == 0 && distinct (ntDefs false m.script)

/-- The head ring of a region's image is SHARED: its load is refused (R174). -/
def State.headShared (r : Region) : Bool :=
  let m := r.image
  let ring := fun (e : Nat × Word × Nat) => (s.imageOf r.job r.die e.2.2).bind fun g =>
    (g.cells.find? fun k => k.dx == fld e.2.1 0 4 && k.dy == fld e.2.1 4 4).bind fun k =>
      k.rings.find? fun x => x.base == fld e.2.1 18 10
  ((m.cells.find? fun k => k.dx == 0 && k.dy == 0).bind fun k =>
    (k.handles.find? fun e => e.1 == m.headHandle).bind fun e => (ring e).map RingImage.shared).getD false

/-- The load of a region at a core could pass on an otherwise empty die (R19, R173, R174, R266). -/
def State.couldFit (r : Region) (core : Nat) : Bool :=
  let m := r.image
  inDie core m.rows m.cols && m.scriptSize ≤ 4096 && m.script.length ≤ m.scriptSize && m.scriptFormed && !s.headShared r
    && (rectCells core m.rows m.cols).all fun c => (m.cellOf core c).sound && !(s.cell (r.die * 256 + c)).fenced

/-- Places one region at a core if it fits there now (R266). -/
def State.placeAt (r : Region) (core : Nat) : Option State :=
  let m := r.image
  let cells := rectCells core m.rows m.cols
  if s.couldFit r core && cells.all fun c => s.cellFits r.die m.plane c (m.cellOf core c) then
    match s.scriptRoom r.die core m.scriptSize with
    | none => none
    | some b => some (s.modRegion r.key fun x =>
        { x with place := .loading, core, scriptBase := b, cellsLeft := cells, bypass := 0, blocked := false })
  else none

/-- A region that is to be placed. -/
def Region.wanting (r : Region) : Bool := r.place == .requested || r.place == .evicted || r.place == .torn

/-- Partners of a region that are still to be placed, and the core of one that is placed (R193). -/
def State.partnersToPlace (r : Region) : List Region :=
  (s.group r.key).filter fun g => g.key != r.key && (g.place == .requested || g.place == .evicted)
def State.partnerCore (r : Region) : Option Nat :=
  ((s.group r.key).find? fun g => g.key != r.key && (g.place == .loading || g.resident)).map Region.core

/-- The comparator cells of a paired region's exits: one free cell each in the primary's plane, outside both copies
(R330). -/
def State.comparators (r sh : Region) : Option State :=
  if s.exits.any fun e => e.region == r.key then some s
  else r.image.exits.foldl (init := some s) fun st e =>
    match st with
    | none => none
    | some s =>
      let bare : CellImage := { dx := 0, dy := 0, stage := 0, prog := [], progSize := 0 }
      match (List.range 256).find? fun c => s.cellFits r.die r.image.plane c bare with
      | none => none
      | some c =>
        let at_ (core : Nat) : Nat := ringKey (r.die * 256 + topCell core + e.2.1 * 16 + e.1) e.2.2
        some { s with exits := s.exits ++ [
          { region := r.key, ring := at_ r.core, shadowRing := at_ sh.core, comparator := r.die * 256 + c }] }

/-- The cores at which a region is tried: an evicted one goes back to its own rectangle where that is free, and every other
takes the lowest core (R266, R334). -/
def Region.coreOrder (r : Region) : List Nat := if r.saved.isEmpty then List.range 16 else r.fromCore :: List.range 16

/-- Places a list of regions at one core, or none of them. -/
def State.placeEach (l : List Region) (core : Nat) : Option State :=
  l.foldl (init := some s) fun st g => st.bind fun s => s.placeAt g core

/-- The comparators of every paired region of a list. -/
def State.comparatorsOf (l : List Region) : Option State :=
  l.foldl (init := some s) fun st g => st.bind fun s =>
    match s.region g.key, s.region g.shadow with
    | some r, some sh => s.comparators r sh
    | _, _ => some s

/-- Places the shadow copies of the regions of a list, on one rectangle as partners are, and the comparators; or nothing (R193,
R329, R330). -/
def State.placeShadows (l : List Region) : Option State :=
  let paired := l.filter fun g => g.shadow != 0
  let shs := (paired.filterMap fun g => s.region g.shadow).filter Region.wanting
  match shs with
  | [] => some s
  | sh :: _ =>
    let cores := match s.partnerCore sh with | some c => [c] | none => sh.coreOrder
    cores.findSome? fun c => (s.placeEach shs c).bind fun s => s.comparatorsOf paired

/-- Places a region with its partners and its shadow at a core, or nothing. -/
def State.placeAll (r : Region) (core : Nat) : Option State :=
  let l := r :: s.partnersToPlace r
  (s.placeEach l core).bind fun s => s.placeShadows l

/-- The place that a region takes now, if there is one (R266, R334). -/
def State.placeFirst (r : Region) : Option State :=
  match s.partnerCore r with
  | some c => s.placeAll r c
  | none => r.coreOrder.findSome? fun c => s.placeAll r c

/-- The die with no region placed. -/
def State.emptied (die : Nat) : State :=
  { s with
    regions := mapTab (fun _ r =>
      if r.die == die && (r.place == .loading || r.resident) then { r with place := .requested } else r) s.regions
    exits := s.exits.filter fun e => e.comparator / 256 != die }

/-- The request fits somewhere on an empty die, with its partners, its other copy and their comparators (R266, R329). -/
def State.fitsEmpty (r : Region) : Bool := ((s.emptied r.die).placeFirst r).isSome

/-! ## Region requests (R266, R267) -/

/-- A region request: its region, priority class and age, and the TAG of the slate that first asked for it. -/
structure RegionReq where
  region : Region
  prio : Nat
  age : Nat
  tag : Nat := 0
  deriving DecidableEq, Repr

/-- The requests held for a region by its drover. -/
def State.heldFor (r : Region) : List Held :=
  (s.die r.die).held.filter fun h => h.released && h.job == r.job && h.slate.region == r.rid

/-- The request that a region makes: at admission or by PLOAD, or for what waits for a region that is evicted or torn
down; the shadow copy follows its primary (R265 to R267). -/
def State.requestOf (r : Region) : Option RegionReq :=
  let hs := s.heldFor r
  let ts := if r.place == .evicted then (s.takes.map (·.2)).filter fun t => t.region == r.key else []
  let prios := hs.map (fun h => h.slate.prio) ++ ts.map fun t => t.slate.prio
  let ages := hs.map Held.age ++ ts.map Take.born
  let primary := s.regions.all fun e => !(e.2.shadow == r.key)
  let both := r.shadow == 0 || ((s.region r.shadow).map Region.wanting).getD false
  if primary && both && r.wanting && s.jobRuns r.job && (r.place == .requested || !prios.isEmpty) then
    some { region := r, prio := prios.foldl max 0, tag := ((hs.head?.map Held.slate).map Slate.tag).getD 0,
           age := ages.foldl min (if r.place == .requested || ages.isEmpty then r.age else ages.headD 0) }
  else none

/-- A request ranks above another: by priority class, then by age (R266). -/
def RegionReq.above (a b : RegionReq) : Bool := b.prio < a.prio || (a.prio == b.prio && a.age < b.age)

/-- Inserts a request in rank order, after its equals. -/
def insertReq (x : RegionReq) : List RegionReq → List RegionReq
  | [] => [x]
  | y :: r => if x.above y then x :: y :: r else y :: insertReq x r

/-- The region requests of a die in rank order. -/
def State.requests (die : Nat) : List RegionReq :=
  ((s.regions.map (·.2)).filterMap fun r => if r.die == die then s.requestOf r else none).foldl
    (fun l x => insertReq x l) []

/-- BYPASS of a die; 0 is read as 1 (R271). -/
def State.bypassBound (die : Nat) : Nat := max 1 (s.die die).bypass

/-- A request that was passed over by one that ranks below it counts it, and is blocked at BYPASS (R267). -/
def State.countBypass (die : Nat) (l : List RegionReq) : State :=
  s.fold l fun s x => s.modRegion x.region.key fun r =>
    { r with bypass := r.bypass + 1, blocked := r.blocked || s.bypassBound die ≤ r.bypass + 1 }

/-- The job of the region may be evicted, and none of its live takes reaches a priority class (R267, R273). -/
def State.evictable (r : Region) (prio : Nat) : Bool :=
  r.place == .eligible
    && ((s.job r.job).bind fun j => (j.contract[r.die]?).map fun c => !c.resident).getD false
    && (s.takes.map (·.2)).all fun t => !(t.region == r.key) || t.slate.prio < prio

/-- The regions to evict so that the request fits at a core: all that hold a cell it needs in its plane (R267). -/
def State.victimsAt (x : RegionReq) (core : Nat) : Option (List Nat) :=
  let m := x.region.image
  if !inDie core m.rows m.cols then none
  else
    let cells := rectCells core m.rows m.cols
    let vs := (s.regions.map (·.2)).filter fun r =>
      r.die == x.region.die && r.image.plane == m.plane && (r.place == .loading || r.resident)
        && r.cellsLeft.any cells.contains
    let t := s.fold vs fun s v => s.modRegion v.key fun r => { r with place := .evicted }
    if !vs.isEmpty && vs.all (fun v => s.evictable v x.prio) && (t.placeAll x.region core).isSome then some (vs.map Region.key)
    else none

/-- The fewest regions to evict for a blocked request, the lowest core first (R267). -/
def State.victims (x : RegionReq) : Option (List Nat) :=
  let cores := match s.partnerCore x.region with | some c => [c] | none => List.range 16
  (cores.filterMap (s.victimsAt x)).foldl (fun m l => match m with
    | none => some l
    | some k => if l.length < k.length then some l else some k) none

/-- Stops the planes of a region: no firing starts, running firings stop before their next instruction (R332). -/
def State.stopPlanes (r : Region) (b : Bool) : State :=
  s.fold r.pids fun s pid => s.modPlane pid fun p => { p with stopped := b }

/-- A region with the other copy of a pair: the two are placed, and evicted, together (R329). -/
def State.withTwin (key : Nat) : List Nat :=
  s.regions.filterMap fun e =>
    if e.1 == key || (e.2.shadow == key && key != 0) || (((s.region key).map Region.shadow).getD 0 == e.1 && e.1 != 0) then some e.1
    else none

/-- A blocked request that does not fit evicts, unless regions are already being saved for it (R267). -/
def State.evictFor (x : RegionReq) : State :=
  let busy := s.regions.any fun e => e.2.place == .saving && e.2.evictor == x.region.key
  if !x.region.blocked || busy then s
  else
    match s.victims x with
    | none => s
    | some l => s.fold (l.flatMap s.withTwin) fun s k =>
        match s.region k with
        | none => s
        | some r => (s.modRegion k fun r => { r with place := .saving, evictor := x.region.key }).stopPlanes r true

/-- The completion of a PLOAD that waits for a region (R367): an entry of class OK, none where it was quiet and done. -/
def State.loadEnds (key code : Nat) : State :=
  s.fold [0, 1] fun s l =>
    match (s.link l).loading with
    | none => s
    | some (k, c) =>
      if k != key then s
      else (s.modLink l fun x => { x with loading := none }).endCommand l c code (actOf code 0)

/-- `.start` slates go to the drovers of their regions' dies: KIND 0, priority class 0, no counter, zero arguments, no action
and TAG 0, of the age of this clk (R39, R370 step 7). -/
def State.startSlates (j : Job) : State :=
  s.fold j.decl.start fun s e => s.modDie e.1 fun d =>
    { d with held := d.held ++ [
        { job := j.id, slate := { region := e.2.1, entry := e.2.2 }, released := true, age := s.clk, start := true }] }

/-- A region of a job is loaded, or 0 where none is to be. With the last of those that its ADMIT places and loads, the start slates
are handed out and OK is posted (R370 steps 6 to 8). -/
def State.regionLoaded (job key : Nat) : State :=
  match s.job job with
  | none => s
  | some j =>
    match j.admitting with
    | none => s
    | some (l, c) =>
      let left := l.filter fun k => k != key
      let s := s.modJob job fun j => { j with admitting := some (left, c) }
      if left.isEmpty then (s.startSlates j).admitEnds job 0 0 else s

/-- A request that fits nowhere even on an empty die fails its job with PLACE, under the slate's TAG (R266, R287); a PLOAD
that waits for the region is refused (log 27). -/
def State.placeFails (x : RegionReq) : State :=
  (s.loadEnds x.region.key 0x1E01).failJob
    { cls := 4, act := actOf 0x1403 4, code := 0x1403, unit := unitOfNum x.region.die 0 0x14, job := x.region.job, tag := x.tag }

/-- Admits the highest-ranked request that fits; a blocked one stops those below it (R266, R267). -/
def State.admitRegion (die : Nat) : List RegionReq → List RegionReq → State
  | _, [] => s
  | passed, x :: rest =>
    if !s.fitsEmpty x.region then s.placeFails x
    else
      match s.placeFirst x.region with
      | some t => t.countBypass die passed
      | none =>
        if x.region.blocked then s.evictFor x else State.admitRegion die (passed ++ [x]) rest

/-- REGION_PLACE (R266, R267). -/
def execRegionPlace (die : Nat) (s : State) : Out := .next (s.admitRegion die [] (s.requests die))

/-! ## Bindings that follow a region (R266, R334, R356) -/

/-- A binding of a ring of the region, at the region's position. -/
def Region.rebase (r : Region) (b : Handle) : Handle :=
  if b.far == r.key then { b with cell := r.die * 256 + topCell r.core + b.rel } else b

/-- Applies a change to every binding that a matrix context, or a plane, holds. -/
def MatCtx.mapOut (c : MatCtx) (f : Handle → Handle) : MatCtx :=
  { c with
    cfg := { c.cfg with out := f c.cfg.out }
    drain := c.drain.map fun d => { d with cfg := { d.cfg with out := f d.cfg.out } } }
def Plane.mapHandles (p : Plane) (f : Handle → Handle) : Plane :=
  { p with
    h := mapTab (fun _ b => f b) p.h
    commits := p.commits.map fun c => { c with bind := f c.bind }
    mq := p.mq.map fun o => { o with bind := f o.bind, cfg := { o.cfg with out := f o.cfg.out } }
    user := p.user.mapOut f
    handler := p.handler.mapOut f }

/-- Applies a change to the bindings of every plane and frontier unit of a die, planes in the images of evicted regions
included. -/
def State.mapBindings (die : Nat) (f : Handle → Handle) : State :=
  { s with
    planes := mapTab (fun pid p => if dieOf pid == die then p.mapHandles f else p) s.planes
    regions := mapTab (fun _ (r : Region) =>
      if r.die == die then { r with saved := r.saved.map fun c => { c with plane := c.plane.mapHandles f } } else r) s.regions
    cores := mapTab (fun c (x : Core) =>
      if c / 16 == die then { x with fr := { x.fr with strm := x.fr.strm.map f } } else x) s.cores }

/-- The region key that an image's region id means to a loaded copy: a shadow's own rings are the shadow's (R329). -/
def Region.target (r : Region) (rid : Nat) : Nat := if rid == r.rid then r.key else regionKey r.job r.die rid

/-- The handle of a binding word of an image: its cell lies relative to the top-left cell of the ring's region. -/
def State.imageHandle (r : Region) (w : Word) (rid : Nat) : Handle :=
  let far := r.target rid
  let rel := fld w 4 4 * 16 + fld w 0 4
  let top := match s.region far with | some g => topCell g.core | none => 0
  { cell := r.die * 256 + top + rel, base := fld w 18 10, lg := fld w 28 4, branch := fld w 32 3, dtag := fld w 36 3,
    far, rel }

/-- SDEST and SSRC words whose ring lies in the region are written with its position added to their cell fields
(R266): CELLY in [7:4] and CELLX in [3:0]. -/
def State.rebaseWords (r : Region) : State :=
  let images := ((s.job r.job).map fun j => j.decl.regions.filter fun m => m.die == r.die).getD []
  s.fold (images.flatMap fun m => m.strWords.filter fun e => e.2.2 == r.rid) fun s e =>
    match s.placeOf r.job e.1 false with
    | none => s
    | some p =>
      let w := e.2.1.toNat
      let cell := topCell r.core + w % 256
      s.setBytes p.key (leBytes 8 (w / 256 * 256 + cell % 256))

/-! ## Loading (R27, R53) -/

/-- A table from a list, by position; zero words are not listed. -/
def tabOf (l : List Word) : Tab Word := (l.zip (List.range l.length)).foldl (fun t e => put 0 t e.2 e.1) []

/-- The stream contexts of a die whose program's ring lies in the region get its cell at the region's position (R266, R334). -/
def State.rebaseStreams (r : Region) : State :=
  { s with slices := mapTab (fun x (k : Slice) =>
    if x / 64 == r.die then
      { k with streams := mapTab (fun _ (st : Stream) =>
          if st.far == r.key then
            { st with prog := { st.prog with ring := st.prog.ring.map fun g =>
                (g.1, g.2.1, g.2.2.1, g.2.2.2.1, (topCell r.core + st.rel) % 256) } }
          else st) k.streams }
    else k) s.slices }

/-- The bindings, streamer words and stream contexts that point inside a region get its position (R266, R334). -/
def State.rebaseAll (r : Region) : State := ((s.mapBindings r.die r.rebase).rebaseWords r).rebaseStreams r

/-- Creates a ring of a cell image with its initial granules, which carry colour 0 (R100, R102). -/
def State.loadRing (r : Region) (cell : Nat) (x : RingImage) : State :=
  let ring : Ring :=
    { die := r.die, cell, base := x.base, lg := x.lg, pid := pidOf r.die cell r.image.plane, job := r.job,
      shared := x.shared, tail := x.init.length, live := x.live, timeout := x.timeout, fmt := x.fmt,
      slots := (List.range x.init.length).map fun n => (n, { filled := true }),
      since := (List.range 8).map fun b => (b, s.clk) }
  let s := s.setRing ring.key ring
  s.fold (x.init.zip (List.range x.init.length)) fun s e => (s.setGran ring e.2 e.1.1).setSide ring e.2 (e.1.2 &&& 0xFFF0)

/-- Loads one cell of a region: registers, matrix contexts and system registers at their reset values (R53). Memory operations
and commits of the cell's old owner that are still to complete go on (R28). -/
def State.loadCell (r : Region) (cell : Nat) : State :=
  let k := r.image.cellOf r.core cell
  let pid := pidOf r.die cell r.image.plane
  let p : Plane :=
    { owner := r.key, stage := k.stage, region := r.rid, job := r.job, prog := tabOf k.prog, progSize := k.progSize,
      bankBase := k.bankBase, bankSize := k.bankSize, stashBase := k.stashBase, stashSize := k.stashSize,
      h := k.handles.foldl (fun t e => ins t e.1 (s.imageHandle r e.2.1 e.2.2)) [],
      memq := (s.plane pid).memq, commits := (s.plane pid).commits, kills := (s.plane pid).kills }
  ((s.setPlane pid p).forgetLog pid).fold k.rings fun s x => s.loadRing r cell x

/-- The script words of a region's share (R173). -/
def State.loadScript (r : Region) : State :=
  let ws := r.image.script
  let clear := (List.range r.image.scriptSize).foldl (fun t i => put 0 t (r.scriptBase + i) (ws.getD i 0))
    (s.core r.driver).script
  s.modCore r.driver fun c => { c with script := clear }

/-- Loads the streamer programs that start with the region (R39). -/
def State.loadStreams (r : Region) : State :=
  s.fold r.image.runs fun s e =>
    s.bump.modStream ((r.die * 64 + e.1) * 32 + e.2.1 + r.dup) fun x =>
      { x with
        state := if x.state == .idle && x.ops.isEmpty then .load else x.state
        nextNum := x.nextNum + 1
        ops := x.ops ++ [{ num := x.nextNum, kind := 0, word := w64 e.2.2, run := true }] }

/-- PLANE_LOAD_DONE (R27): every cell is loaded and the region becomes eligible. -/
def execPlaneLoadDone (region : Nat) (s : State) : Out :=
  .next <|
    match s.region region with
    | none => s
    | some r =>
      if r.place != .loading || !r.saved.isEmpty || (s.die r.die).fenced then s
      else
        let s := s.fold r.cells fun s c => s.loadCell r c
        let s := (s.loadScript r).rebaseAll r
        let s := s.modRegion region fun x => { x with place := .eligible, nts := ntTable 0 false r.image.script }
        ((s.loadStreams r).loadEnds region 0).regionLoaded r.job region

/-! ## Eviction (R332, R333) -/

/-- Rings of a region's planes. -/
def State.ringsOf (r : Region) : List (Nat × Ring) :=
  let pids := r.pids
  s.rings.filter fun e => pids.contains e.2.pid

/-- What a save waits for: issued memory operations, commits and started matrix operations are complete, and no token
or kill message of any core is on its way to a cell (R332 step 3); and the homes of the dirty stash lines serve their write-back
(R208, R272). -/
def State.saveReady (r : Region) : Bool :=
  r.pids.all fun pid =>
    let p := s.plane pid
    p.memq.isEmpty && p.commits.isEmpty && p.mq.all (fun o => !o.started) && s.backServed pid (fun _ => true)
      && s.cores.all fun e => e.2.tokQ.all (fun k => !(k.1 == pid)) && e.2.killQ.all fun k => !(k.1 == pid)

/-- The saved image of one cell: its plane, rings, bank share and sidebands (R332). -/
def State.saveCell (r : Region) (cell : Nat) : SavedCell :=
  let pid := pidOf r.die cell r.image.plane
  let p := s.plane pid
  let off := cell - topCell r.core
  let base := cellOf pid * 1024 + p.bankBase / 64
  let n := p.bankSize / 64
  { dx := off % 16, dy := off / 16, plane := p
    rings := s.rings.filter fun e => e.2.pid == pid
    bank := (s.bank.filter fun e => base ≤ e.1 && e.1 < base + n).map fun e => (e.1 % 1024, e.2)
    sides := (s.sideband.filter fun e => base ≤ e.1 && e.1 < base + n).map fun e => (e.1 % 1024, e.2) }

/-- A binding that names a ring of the region by its position follows the region from now on (R334). -/
def Region.follow (r : Region) (keys : List Nat) (b : Handle) : Handle :=
  if b.far == 0 && keys.contains b.key then { b with far := r.key, rel := b.cell % 256 - topCell r.core } else b

/-- Applies a change to every resident window, those in the images of evicted regions included. -/
def State.mapResids (f : Resid → Resid) : State :=
  let go := fun (p : Plane) => { p with resid := mapTab (fun _ x => f x) p.resid }
  { s with
    planes := mapTab (fun _ p => go p) s.planes
    regions := mapTab (fun _ (r : Region) => { r with saved := r.saved.map fun c => { c with plane := go c.plane } }) s.regions }

/-- Stream contexts whose ring lies in the region follow it from now on (R334). -/
def State.followStreams (r : Region) (keys : List Nat) : State :=
  { s with slices := mapTab (fun x (k : Slice) =>
    if x / 64 == r.die then
      { k with streams := mapTab (fun _ (st : Stream) =>
          match st.prog.ring with
          | some (_, _, _, base, cell) =>
            if st.far == 0 && keys.contains (ringKey (r.die * 256 + cell) base) then
              { st with far := r.key, rel := cell - topCell r.core }
            else st
          | none => st) k.streams }
    else k) s.slices }

/-- The image is saved and the planes are free (R332). -/
def State.evict (r : Region) : State :=
  let s := s.fold r.pids fun s pid => s.stashEmpty pid
  let keys := (s.ringsOf r).map (·.1)
  let s := (s.mapBindings r.die (r.follow keys)).followStreams r keys
  let s := s.mapResids fun x => if x.far == 0 && keys.contains x.key then { x with far := r.key } else x
  let saved := r.cells.map fun c => s.saveCell r c
  let pids := r.pids
  let cores := rectCores (r.die * 16 + r.core) r.image.rows r.image.cols
  let mine := fun (m : MatchTok) => m.job == r.job && m.slate.region == r.rid
  let drv := s.core r.driver
  let r' := { r with
    place := .evicted
    fromCore := r.core
    evictor := 0
    saved
    savedCtxs := s.ctxs.filter fun e => e.2.region == r.key
    savedToks := (drv.store.filter mine).map (fun m => (0, m)) ++ (drv.spill.filter mine).map fun m => (1, m)
    savedPark := cores.flatMap fun c => (s.core c).park.filter fun k => pids.contains k.1 }
  let s := { s with
    regions := ins s.regions r.key r'
    ctxs := s.ctxs.filter fun e => !(e.2.region == r.key)
    rings := s.rings.filter fun e => !keys.contains e.1 }
  let s := s.fold pids fun s pid => (s.setPlane pid {}).forgetLog pid
  let s := s.modCore r.driver fun c =>
    { c with store := c.store.filter fun m => !mine m, spill := c.spill.filter fun m => !mine m }
  s.fold cores fun s c => s.modCore c fun x => { x with park := x.park.filter fun k => !pids.contains k.1 }

/-- PLANE_SAVE (R332). -/
def execPlaneSave (region : Nat) (s : State) : Out :=
  .next <|
    match s.region region with
    | none => s
    | some r => s.onDie r.die (if r.place == .saving && s.saveReady r then s.evict r else s)

/-- SAVE_ABANDON (R333): a request that ranks above the one the region is saved for fits without the region's plane;
the plane resumes as if it had never been stopped, and is freed where the conditions of R28 came to hold meanwhile. -/
def execSaveAbandon (region : Nat) (s : State) : Out :=
  .next <|
    match s.region region with
    | none => s
    | some r =>
      let reqs := s.requests r.die
      let above := match reqs.find? fun x => x.region.key == r.evictor with
        | none => reqs
        | some y => reqs.filter fun x => x.above y
      if r.place == .saving && above.any (fun x => (s.placeFirst x.region).isSome) then
        let s := (s.modRegion region fun x => { x with place := .eligible, evictor := 0 }).stopPlanes r false
        s.fold r.pids State.planeFree
      else s

/-! ## Restoring (R334) -/

/-- Where a cell, a plane or a ring of the region at its old position is now. -/
def Region.moveCid (r : Region) (cid : Nat) : Nat :=
  if cid / 256 == r.die && (rectCells r.fromCore r.image.rows r.image.cols).contains (cid % 256) then
    r.die * 256 + (cid % 256 + topCell r.core - topCell r.fromCore)
  else cid
def Region.movePid (r : Region) (pid : Nat) : Nat :=
  if pid % 4 == r.image.plane then r.moveCid (pid / 4) * 4 + pid % 4 else pid
def Region.moveKey (r : Region) (keys : List Nat) (k : Nat) : Nat :=
  if keys.contains k then ringKey (r.moveCid (k / 1024)) (k % 1024) else k

/-- Contexts for the saved ones, each at its number in the driving core where that is free, a handler's at 15 (R172, R321); none
if too few are free. -/
def State.restoreCtxs (r : Region) : Option (List (Nat × Nat)) :=
  r.savedCtxs.foldl (init := some []) fun acc e =>
    acc.bind fun l =>
      let want := r.driver * 16 + e.1 % 16
      let free := fun (c : Nat) => (find s.ctxs c).isNone && !(l.any fun x => x.2 == c)
      let cand := if e.1 % 16 == 15 then [want] else want :: (List.range 15).map fun i => r.driver * 16 + i
      (cand.find? free).map fun c => l ++ [(e.1, c)]

/-- The new number of a context. -/
def moveCtx (l : List (Nat × Nat)) (c : Nat) : Nat := ((l.find? fun e => e.1 == c).map (·.2)).getD c

/-- A claimant of the region's takes at its new position. -/
def Region.moveWho (r : Region) (cl : List (Nat × Nat)) : Claimant → Claimant
  | .firing pid fid h => .firing (r.movePid pid) fid h
  | .drain pid hand => .drain (r.movePid pid) hand
  | .stream c => .stream c
  | .script c => .script (moveCtx cl c)
  | .bridge d b => .bridge d b

/-- A plane of the region, restored at the new position. A firing that waits at a CLAIM tries it again: it takes the slots that
were granted meanwhile, or waits on in the ring's queue (R104). -/
def Region.movePlane (r : Region) (p : Plane) : Plane :=
  { p with
    stopped := false
    firing := if p.firing.wait == .claim then { p.firing with wait := .none } else p.firing
    ownParks := p.ownParks.map fun k => { k with pid := r.movePid k.pid } }

/-- A trap record of the region's takes at its new position: later records name the unit there (R334). -/
def Region.moveTrap (r : Region) (k : TrapRec) : TrapRec :=
  let pid := r.movePid k.pid
  let kind := fld k.unit 0 5
  { k with
    pid
    unit := if kind == 8 then unitOfCore r.driver 8 else if pid == k.pid then k.unit else unitOfCell (dieOf pid) (cellNoOf pid) kind }

/-- The agent that asked for a take, where it is a context of one of the region's takes. -/
def moveSource (tids : List Nat) (cl : List (Nat × Nat)) (x : Source) : Source :=
  match x with
  | .call c w => if tids.contains w then .call (moveCtx cl c) w else x
  | _ => x

/-- The traps that wait for a handler go to the region's new driving core (R321, R334). -/
def State.moveTraps (r : Region) (tids : List Nat) : State :=
  let old := r.die * 16 + r.fromCore
  if old == r.driver then s
  else
    let mine := (s.core old).trapQ.filter tids.contains
    let again := (s.core old).again
    let s := s.modCore old fun c =>
      { c with trapQ := c.trapQ.filter fun t => !tids.contains t, again := if tids.contains again then 0 else again }
    s.modCore r.driver fun c =>
      { c with trapQ := c.trapQ ++ mine, again := if tids.contains again then again else c.again }

/-- What the region's takes and waiting agents hold of its old position moves with it. -/
def State.moveRefs (r : Region) (keys tids : List Nat) (cl : List (Nat × Nat)) : State :=
  let s := s.moveTraps r tids
  let take := fun (_ : Nat) (t : Take) =>
    let t := { t with source := moveSource tids cl t.source }
    if tids.contains t.tid then
      { t with
        ctx := moveCtx cl t.ctx
        parked := t.parked.map fun k => { k with pid := r.movePid k.pid }
        traps := t.traps.map r.moveTrap
        record := t.record.map r.moveTrap }
    else t
  let callers := s.takes.filterMap fun e => match e.2.source with
    | .call _ w => if tids.contains w then some e.1 else none
    | _ => none
  let ctx := fun (_ : Nat) (c : Ctx) => if callers.contains c.tid then { c with caller := c.caller.map (moveCtx cl) } else c
  let ring := fun (x : Ring) =>
    let mine := fun (ns : List Nat) => ns.any fun n => tids.contains (look {} x.slots n).tid
    { x with
      queue := x.queue.map fun (q : ClaimReq) => if tids.contains q.tid then { q with who := r.moveWho cl q.who } else q
      granted := x.granted.map fun (g : Claimant × List Nat) => if mine g.2 then (r.moveWho cl g.1, g.2) else g }
  let s := { s with
    takes := mapTab take s.takes
    ctxs := mapTab ctx s.ctxs
    rings := mapTab (fun _ x => ring x) s.rings
    regions := mapTab (fun _ (g : Region) => g.mapSavedRings fun _ x => ring x) s.regions
    exits := s.exits.map fun (e : Exit) => { e with ring := r.moveKey keys e.ring, shadowRing := r.moveKey keys e.shadowRing }
    msgs := s.msgs.map fun (m : Msg) => if tids.contains m.tid then { m with pid := r.movePid m.pid } else m }
  let fids := (r.saved.map fun c => c.plane.firing.fid)
    ++ (s.takes.map (·.2)).flatMap fun t => if tids.contains t.tid then t.parked.map fun k => k.firing.fid else []
  let ops := r.saved.flatMap fun c => c.plane.mq.map MatOp.id
  let who := fun (w : Waiter) => match w.who with
    | .firing pid fid => if fids.contains fid then { w with who := Requester.firing (r.movePid pid) fid } else w
    | .matrix pid op => if ops.contains op then { w with who := Requester.matrix (r.movePid pid) op } else w
    | .stream _ | .message _ => w
  s.modDie r.die fun d =>
    { d with
      held := d.held.map fun h => { h with source := moveSource tids cl h.source }
      barriers := d.barriers.map fun b =>
        if b.region == r.key then
          { b with
            arrived := b.arrived.map fun a => (r.movePid a.1, a.2)
            next := b.next.map fun a => (r.movePid a.1, a.2) }
        else b
      misses := d.misses.map fun m => if m.job == r.job then { m with who := m.who.map who } else m }

/-- Writes a saved cell back at its new position (R334); its image holds no memory operation and no commit (R332), and those of
the cell's old owner go on (R28). -/
def State.putCell (r : Region) (c : SavedCell) : State :=
  let cell := topCell r.core + c.dy * 16 + c.dx
  let pid := pidOf r.die cell r.image.plane
  let old := s.plane pid
  let s := s.setPlane pid
    { (r.movePlane c.plane) with memq := old.memq, commits := old.commits, kills := old.kills ++ c.plane.kills }
  let s := s.forgetLog pid
  let s := s.fold c.rings fun s e =>
    s.setRing (ringKey (r.die * 256 + cell) e.2.base) { e.2 with cell, pid }
  let at_ (g : Nat) : Nat := (r.die * 256 + cell) * 1024 + g
  let s := s.fold c.bank fun s e => { s with bank := put 0 s.bank (at_ e.1) e.2 }
  s.fold c.sides fun s e => { s with sideband := put 0 s.sideband (at_ e.1) e.2 }

/-- PLANE_RESTORE (R334): every piece of the image returns, at the new position. Its rings settle what retired in the image, and
a plane whose last granule left there may be free now (R101, R28). -/
def execPlaneRestore (region : Nat) (s : State) : Out :=
  .next <|
    match s.region region with
    | none => s
    | some r =>
      match (if r.place == .loading && !r.saved.isEmpty && !(s.die r.die).fenced then s.restoreCtxs r else none) with
      | none => s
      | some cl =>
        let keys := r.saved.flatMap fun c => c.rings.map (·.1)
        let tids := (s.takes.map (·.2)).filterMap fun t => if t.region == region then some t.tid else none
        let s := s.mapResids fun x => if x.far == r.key then { x with key := r.moveKey keys x.key, far := 0 } else x
        let s := s.fold (((s.region region).map Region.saved).getD []) fun s c => s.putCell r c
        let s := s.fold r.savedCtxs fun s e => { s with ctxs := ins s.ctxs (moveCtx cl e.1) e.2 }
        let s := s.fold r.savedPark fun s k =>
          s.modCore (coreOf (r.movePid k.1)) fun c => { c with park := c.park ++ [(r.movePid k.1, k.2)] }
        let s := s.modCore r.driver fun c =>
          { c with
            store := c.store ++ r.savedToks.filterMap fun e => if e.1 == 0 then some e.2 else none
            spill := c.spill ++ r.savedToks.filterMap fun e => if e.1 == 1 then some e.2 else none }
        let s := (s.loadScript r).moveRefs r keys tids cl
        let s := s.rebaseAll r
        let s := s.modRegion region fun x =>
          { x with place := .eligible, saved := [], savedCtxs := [], savedToks := [], savedPark := [] }
        let s := s.fold (s.planes.map (·.1)) State.freeResids
        s.fold keys fun s k => s.reclaim (r.moveKey keys k)

/-- BANK_DRAIN (R335): writes queued at a bank port for an old owner perform before a new owner's first access. In
this model every bank and ring write performs in the step that makes it, so none is queued when a range changes
hands. -/
def execBankDrain (_cell : Nat) (s : State) : Out := .next s

end Sys2Proof.Machine
end

