-- ==== Sys2Proof/Machine/Issue.lean ====
section
/-!
DEFINITION. Issue at a cell, tokens, the start and the resumption of firings, kill messages and handler takes
(R54, R78 to R81, R127, R189, R195, R321, R322, R325, R326).
-/
namespace Sys2Proof.Machine

variable (s : State)

/-! ## Registers that an instruction reads and writes (R78) -/

/-- S registers by number, as (file, number) with file 0; V registers with file 2, M with file 3 (R80, R127). -/
def sRegs (l : List (BitVec 5)) : List (Nat × Nat) := l.map fun n => (0, n.toNat)
def vRegs (l : List (BitVec 4)) : List (Nat × Nat) := l.map fun n => (2, n.toNat)

/-- The S register that IMM names in a vector form, and one that IMM[9:5] names. -/
def immS (o : OpV) (lo : Nat) : List (Nat × Nat) := [(0, fld o.imm lo 5)]
/-- The mask register of a vector form. -/
def maskReg (o : OpV) : List (Nat × Nat) := [(3, o.m.toNat)]

/-- The S, P, V and M registers that a stage instruction reads, its guard aside: file 0 S, 1 P, 2 V, 3 M. -/
def readsOf (i : Instr) : List (Nat × Nat) :=
  match i with
  | .add o | .sub o | .mul o | .mulh o | .mulhu o | .div o | .divu o | .rem o | .remu o | .andS o | .andn o | .orS o
  | .xorS o | .shl o | .shr o | .sar o | .rotl o | .min o | .max o | .minu o | .maxu o | .sel o | .addsh _ o =>
    sRegs [o.a, o.b]
  | .lui o => sRegs [o.a]
  | .clz o | .ctz o | .popc o | .mov o | .jmpr o => sRegs [o.a]
  | .ret _ => [(0, 31)]
  | .pand o | .por o | .pxor o => [(1, o.a.toNat), (1, o.b.toNat)]
  | .pnot o => [(1, o.a.toNat)]
  | .addi o | .andi o | .ori o | .xori o | .shli o | .shri o | .sari o | .rotli o | .bfx o | .bfxu o => sRegs [o.a]
  | .bfi o => sRegs [o.a, o.d]
  | .cmp _ o => sRegs [o.a, o.b]
  | .cmpi _ o => sRegs [o.a]
  | .rst o => vRegs [o.v]
  | .rmark o | .rfmt o => [(0, o.v.toNat)]
  | .rbind o | .rcast o | .awarm o | .twait o | .front o | .frest o | .sprog o | .scfg o | .xput o | .xget o
  | .xrateWrite o | .xpath o | .kwr o | .purge o | .idle o | .haltp o => sRegs [o.a]
  | .fdone o | .fsave o => sRegs [o.a, o.d]
  | .sreq o => [(2, o.a.toNat)]
  | .slayout o => [(2, o.a.toNat), (0, fld o.kreg 0 5)]
  | .vadd o | .vadds o | .vsub o | .vmul o | .vmin o | .vmax o | .vand o | .vor o | .vxor o | .vshl o | .vshr o
  | .vsar o | .vperm o => vRegs [o.va, o.vb, o.vd] ++ maskReg o
  | .vsel o | .vcmp _ o => vRegs [o.va, o.vb] ++ maskReg o
  | .vpack o => vRegs [o.va, o.vb]
  | .vmrg o => vRegs [o.va, o.vb] ++ immS o 5
  | .vfma o | .vfms o => vRegs [o.va, o.vb, o.vc, o.vd] ++ maskReg o
  | .vabs o | .vneg o | .vcvt o | .vrcp o | .vrsq o | .vexp2 o | .vlog2 o | .vscale o => vRegs [o.va, o.vd] ++ maskReg o
  | .vredadd o | .vredmax o | .vredmin o | .vscan o | .vcomp o => vRegs [o.va] ++ maskReg o
  | .vext o | .vunpk o => vRegs [o.va]
  | .vcnt o => maskReg o
  | .vsplat o => vRegs [o.vd] ++ maskReg o ++ (if fld o.imm 19 1 == 0 then immS o 0 else [])
  | .vins o => vRegs [o.vd] ++ immS o 0
  | .mwr o => vRegs [o.va]
  | .mma o | .mmaAdv o => if o.ah == 1 then [] else [(0, o.sa.toNat), (0, o.sa.toNat + 1)]
  | .mldbBank o | .mldbtBank o => [(0, o.sb.toNat), (0, o.sb.toNat + 1)]
  | .mscaBank o => [(0, o.sa.toNat)]
  | .mscbRegister o | .mkb o => [(0, o.sb.toNat)]
  | .msave o | .mload o | .ld o | .vld o | .ldBk o | .vldBk o | .swbLine o | .sinvLine o | .spin o | .sunpin o =>
    sRegs [o.a]
  | .st o | .stBk o => sRegs [o.a, o.d]
  | .vst o | .vstBk o => sRegs [o.a] ++ [(2, vreg o)]
  | .aadd o | .aadds o | .amin o | .amax o | .aminu o | .amaxu o | .aand o | .aor o | .axor o | .aswp o | .atopk o
  | .ddec o | .dset o => sRegs [o.a, o.b]
  | .acas o => sRegs [o.a, o.b, o.c]
  | .qpush o => sRegs [o.a] ++ [(2, fld o.b 0 4)]
  | _ => []

/-- The S and V registers that a stage instruction writes. -/
def writesOf (i : Instr) : List (Nat × Nat) :=
  match i with
  | .add o | .sub o | .mul o | .mulh o | .mulhu o | .div o | .divu o | .rem o | .remu o | .andS o | .andn o | .orS o
  | .xorS o | .shl o | .shr o | .sar o | .rotl o | .min o | .max o | .minu o | .maxu o | .sel o | .addsh _ o
  | .clz o | .ctz o | .popc o | .mov o => sRegs [o.d]
  | .addi o | .andi o | .ori o | .xori o | .shli o | .shri o | .sari o | .rotli o | .lui o | .bfx o | .bfxu o
  | .bfi o => sRegs [o.d]
  | .bl _ => [(0, 31)]
  | .rld o => vRegs [o.v]
  | .rpeek o | .radv o => [(0, o.v.toNat)]
  | .rstat o | .awarm o | .awdis o | .awrd o | .twait o | .tread o | .front o | .fdone o | .fsave o | .frest o
  | .sreq o | .sprog o | .scfg o | .sstop o | .xput o | .xget o | .xrateRead o | .xrateWrite o | .xpath o | .xstat o
  | .krd o | .eret o | .purge o => sRegs [o.d]
  | .errpop o => [(2, fld o.d 0 4)]
  | .vadd o | .vadds o | .vsub o | .vmul o | .vmin o | .vmax o | .vand o | .vor o | .vxor o | .vshl o | .vshr o
  | .vsar o | .vperm o | .vsel o | .vpack o | .vfma o | .vfms o | .vabs o | .vneg o | .vcvt o | .vrcp o | .vrsq o
  | .vexp2 o | .vlog2 o | .vscale o | .vredadd o | .vredmax o | .vredmin o | .vscan o | .vunpk o | .vsplat o
  | .vins o | .mrd o => vRegs [o.vd]
  | .vmrg o | .vcomp o => vRegs [o.vd] ++ immS o 0
  | .vext o | .vcnt o => immS o 0
  | .ld o | .ldBk o | .spin o | .sunpin o => sRegs [o.d]
  | .vld o | .vldBk o => [(2, vreg o)]
  | .aadd o | .aadds o | .amin o | .amax o | .aminu o | .amaxu o | .aand o | .aor o | .axor o | .aswp o | .acas o
  | .atopk o | .qpush o | .ddec o | .dset o => sRegs [o.d]
  | _ => []

/-- A firing of a plane is parked, with its registers. -/
def State.parkedFid (pid fid : Nat) : Bool :=
  let mine := fun (k : Parked) => k.pid == pid && k.firing.fid == fid && !k.queueOnly
  (s.plane pid).ownParks.any mine || s.takes.any fun e => e.2.parked.any mine

/-- Registers of a plane that an earlier instruction is still to write: outstanding loads, atomics and queued MRD operations
(R78). Those of a firing that has ended count as well: R54 hands its registers on (DESIGN CHOICE, log 42: R78 states the
interlock within one firing). Those of a parked firing write the registers parked with it; held operations write once their take
goes on, and a firing of that take that still runs waits for its own (R320). -/
def State.pending (pid : Nat) : List (Nat × Nat) :=
  let p := s.plane pid
  (p.memq.filterMap fun o =>
    if s.parkedFid pid o.fid then none
    else match o.dst with
      | .sreg n => some (0, n)
      | .vreg n _ => some (2, n)
      | .none | .acc _ _ => none)
    ++ p.mq.filterMap fun o => if o.kind == .mrd && (!o.held || (p.running && o.fid == p.firing.fid))
      && !s.parkedFid pid o.fid then some (2, o.vd) else none

/-! ## PORT_ISSUE (R79, R80, R326) -/

/-- The instruction that a plane would issue next. -/
def State.nextOf (pid : Nat) : Instr := { s with cur := pid }.fetchStage

/-- The word that a plane would issue next. -/
def State.nextWord (pid : Nat) : Word := look 0 (s.plane pid).prog (s.plane pid).firing.pc

/-- The next instruction of a plane executes: its guard is true, or it is SEL (R42). -/
def State.guardTrue (pid : Nat) : Bool :=
  let w := s.nextWord pid
  match s.nextOf pid with
  | .sel _ => true
  | _ => (s.plane pid).regs.rP (fld w 47 3) ^^^ BitVec.ofNat 1 (fld w 46 1) == 1

/-- The next instruction of a plane reads or writes a register that an earlier one has still to write (R78). -/
def State.interlocked (pid : Nat) : Bool :=
  let i := s.nextOf pid
  s.guardTrue pid && (readsOf i ++ writesOf i).any fun r => (s.pending pid).contains r

/-- A plane has an instruction ready to issue: its firing waits for nothing else, and the registers that the instruction
reads and writes hold the results of earlier ones (R78, R79, R81). A wait that PORT_ISSUE itself ends is tried once in a
clk. -/
def State.issuable (pid : Nat) : Bool :=
  let p := s.plane pid
  let f := p.firing
  p.running && !p.stopped && decide (f.notBefore ≤ s.clk)
    && (f.wait == .none || (f.wait == .retry && f.waitArg != s.clk))
    && !((s.take f.tid).map Take.failing).getD true
    && !s.interlocked pid

/-- The registers that the next instruction reads and whose parity check fails. Where several do, no rule says which of them
TRAPINFO names: the model takes the lowest file, then the lowest number (DESIGN CHOICE, log 55). An illegal
word reads none, and one with a false guard reads its guard (R42). -/
def State.badReads (pid : Nat) (bad : List (Nat × Nat)) : List (Nat × Nat) :=
  let l := match s.nextOf pid with
    | .stageIllegal _ _ => []
    | i => (1, fld (s.nextWord pid) 47 3) :: (if s.guardTrue pid then readsOf i else [])
  let hit := l.filter bad.contains
  (List.range 4).flatMap fun f => ((List.range 32).map fun n => (f, n)).filter hit.contains

/-- The operand log holds the last write of a register (R326); a read-only register never fails its check. -/
def State.logged (pid : Nat) (r : Nat × Nat) : Bool :=
  (s.cell (cellOf pid)).log.any fun e => e.plane == planeNoOf pid && e.file == r.1 && e.num == r.2

/-- A register's value from the operand log is written back (R326). -/
def State.writeBackReg (pid : Nat) (r : Nat × Nat) : State :=
  match (s.cell (cellOf pid)).log.find? fun e => e.plane == planeNoOf pid && e.file == r.1 && e.num == r.2 with
  | none => s
  | some e => s.modRegs pid fun x =>
      match r.1 with
      | 0 => x.wS r.2 (e.val.setWidth 64)
      | 1 => x.wP r.2 (e.val.setWidth 1)
      | 2 => x.wV r.2 e.val
      | _ => x.wM r.2 (e.val.setWidth 64)

/-- A replay: the registers read are written back from the log, and it is recorded (R326). -/
def State.replayed (pid : Nat) (rs : List (Nat × Nat)) : State :=
  let s := s.fold rs fun s r => s.writeBackReg pid r
  let i : RecInfo := { cls := 1, act := 0, code := 0x0401, unit := unitOfCell (dieOf pid) (cellNoOf pid) 4 }
  match s.take (s.plane pid).firing.tid with
  | none => s.corrected { i with job := (s.plane pid).job }
  | some t =>
    let i := s.aboutTake t i
    (s.corrected i).queueRec t (i.times 1)

/-- PORT_ISSUE (R79): in each clk the port engine selects the plane that issues, which then executes its next instruction; one
whose instruction has to wait is passed over (`State.issued`). `bad` names registers whose parity check fails on this issue
and `logBad` that the operand log's copy is bad (R80, R127, R326). -/
def execPortIssue (die cell : Nat) (bad : List (Nat × Nat)) (logBad : Bool) (s : State) : Out :=
  let cid := die * 256 + cell
  let c := s.cell cid
  .next <|
    if (s.die die).fenced || (c.everIssued && c.issuedAt == s.clk) then s
    else
      match s.choosePlane die c.lastIssuer fun p => s.issuable (pidOf die cell p) with
      | none => s
      | some p =>
        let pid := pidOf die cell p
        let f := (s.plane pid).firing
        let run := fun (s : State) =>
          { s.modFiring pid fun f => { f with wait := .none } with cur := pid, turn := .plane }
        match s.badReads pid bad with
        | [] => run s
        | rs =>
          match rs.find? fun x => logBad || !s.logged pid x with
          | some x =>
            (s.counted pid (s.plane pid).job f.tid).trapAt pid 11 (w64 f.pc) (w64 (x.1 * 32 + x.2)) 4
          | none => run (s.replayed pid rs)

/-! ## Tokens and kill messages (R81, R189, R195) -/

/-- Tokens on their way, over all cores: core and token. -/
def State.tokensUnderWay : List (Nat × (Nat × Token)) := s.cores.flatMap fun e => e.2.tokQ.map fun k => (e.1, k)

/-- TOKEN_DELIVERY (R189): a token reaches its cell's buffer; tokens of a take to a cell arrive in the order sent. A
token of a take that is parked joins those withdrawn from its cell (R320). -/
def execTokenDelivery (idx : Nat) (s : State) : Out :=
  let l := s.tokensUnderWay
  .next <|
    match l[idx]? with
    | none => s
    | some (core, k) => s.onDie (dieOf k.1) <|
      let earlier := (l.take idx).any fun e => e.1 == core && e.2.1 == k.1 && e.2.2.tid == k.2.tid
      if earlier then s
      else
        let s := s.modCore core fun c => { c with tokQ := c.tokQ.erase k }
        match s.take k.2.tid with
        | none => s
        | some t =>
          let tok := { k.2 with came := s.clk }
          if t.isParked then s.modCore (coreOf k.1) fun c => { c with park := c.park ++ [(k.1, tok)] }
          else s.modPlane k.1 fun p => { p with tokens := p.tokens ++ [tok] }

/-- An unparked take has a firing that resumes on the plane (R325 step 2). -/
def State.resumable (pid : Nat) : Option (Take × Parked) :=
  s.takes.findSome? fun e =>
    if e.2.isParked then none
    else (e.2.parked.find? fun k => k.pid == pid && !k.queueOnly).map fun k => (e.2, k)

/-- The registers that a handler firing finds on the trapping cell: the parked ones (R322). -/
def State.handlerRegs (pid tid : Nat) : Option Parked :=
  (s.take tid).bind fun h => h.record.bind fun k => (s.take h.serves).bind fun t =>
    if k.pid == pid then t.parked.find? fun x => x.pid == pid && !x.queueOnly else none

/-- FIRING_START (R54, R81): a plane with no running firing starts the oldest waiting token at its entry point, after a
firing that is to resume there. S1 is written with the action argument, which the operand log holds as any write (R326); a start
waits for an earlier instruction's result that is still due there (log 42). No rule says what becomes of loads and atomics of a
trapped firing that are outstanding where its handler firing is to start: the start waits until they have delivered into the parked
registers (DESIGN CHOICE, log 54). -/
def execFiringStart (pid : Nat) (s : State) : Out :=
  let p := s.plane pid
  .next <|
    match p.tokens with
    | [] => s
    | k :: rest =>
      let old := if k.colour == 15 then s.handlerRegs pid k.tid else none
      let late := match old with
        | none => false
        | some x => p.memq.any fun o => o.fid == x.firing.fid && o.dst != .none
      if p.running || p.stopped || !s.jobRuns p.job || s.ownReady pid || (s.resumable pid).isSome || late
          || (s.pending pid).contains (0, 1) || (s.die (dieOf pid)).fenced then s
      else
        let f : Firing :=
          { tid := k.tid, fid := s.serial, colour := k.colour, stage := k.stage, entry := k.entry, pc := k.entry,
            lastPc := k.entry, coord := k.coord, clayer := k.clayer, notBefore := max (k.came + 1) p.nextAt }
        let s := (s.bump.note p.job (dieOf pid)).setPlane pid { p with tokens := rest, running := true, firing := f }
        let s := match old with
          | some x => (s.modRegs pid fun _ => x.regs).forgetLog pid
          | none => s
        s.setS pid 1 (k.arg.setWidth 64)

/-- KILL_DELIVERY (R195): a kill message reaches a cell after every token sent before it; waiting tokens beyond the
horizon go, and a firing that has not issued counts as one. -/
def execKillDelivery (idx : Nat) (s : State) : Out :=
  let l := s.cores.flatMap fun e => e.2.killQ.map fun k => (e.1, k)
  .next <|
    match l[idx]? with
    | none => s
    | some (core, (pid, tid, h)) => s.onDie (dieOf pid) <|
      if (s.core core).tokQ.any fun k => k.1 == pid && k.2.tid == tid then s
      else
        let s := s.modCore core fun c => { c with killQ := c.killQ.erase (pid, tid, h) }
        let parked := (s.core (coreOf pid)).park.filter fun k => k.1 == pid && k.2.killed tid h
        let gone := (s.plane pid).beyond tid h + parked.length
        let s := s.modPlane pid fun p => p.kill tid h
        let s := s.modCore (coreOf pid) fun c => { c with park := c.park.filter fun k => !parked.contains k }
        match s.take tid with
        | none => s
        | some t =>
          let left := s.cores.any fun e => e.2.killQ.any fun k => k.2.1 == tid
          (s.modTakeCtx t fun c => { c with sent := c.sent - gone, killing := left }).planeFree pid

/-! ## Handler takes and resumption (R321, R325) -/

/-- The take of a handler (R321): colour 15, context 15, arguments from the trap it serves. That of a shadow is a shadow (R329). -/
def handlerTake (t : Take) (k : TrapRec) (r : Region) (entry tid : Nat) (again : Bool) : Take :=
  let cell := cellIdWord (dieOf k.pid) (cellNoOf k.pid)
  { tid, job := t.job, region := t.region, colour := 15, ctx := r.driver * 16 + 15, source := .handler, born := 0
    slate := { prio := t.slate.prio, region := r.rid, entry, tag := t.slate.tag,
               args := [BitVec.ofNat 32 cell, BitVec.ofNat 32 k.cause, BitVec.ofNat 32 k.colour, k.pc.setWidth 32, 0, 0] }
    serves := t.tid, record := some k, reissued := again, shadow := t.shadow }

/-- The handler take that serves the twin of a take and has no twin yet: the two are twins (R329). -/
def State.twinHandler (t : Take) : Nat :=
  (((s.takes.map (·.2)).find? fun u => t.twin != 0 && u.serves == t.twin && u.colour == 15 && u.twin == 0).map Take.tid).getD 0

/-- HANDLER_TAKE_CREATE (R321): when context 15 of a core is free, the next trap raised in the regions it drives gets a
handler take. -/
def execHandlerTakeCreate (core : Nat) (s : State) : Out :=
  let c := s.core core
  .next <| s.onDie (core / 16) <|
    match c.trapQ with
    | [] => s
    | tid :: rest =>
      let drop := s.modCore core fun c => { c with trapQ := rest }
      if (find s.ctxs (core * 16 + 15)).isSome then s
      else
        match s.take tid with
        | none => drop
        | some t =>
          match s.servedTrap t, s.region t.region with
          | some k, some r =>
            if r.place != .eligible then s
            else
              match r.image.handler with
              | none => drop
              | some entry =>
                let h := { handlerTake t k r entry s.serial (c.again == tid) with born := s.clk, twin := s.twinHandler t }
                let x : Ctx := { state := .run, curnt := entry, tplane := r.image.plane, args := h.slate.args,
                                 tid := h.tid, region := r.key }
                let s := drop.bump.modTake h.twin fun u => { u with twin := h.tid }
                let s := { s with takes := ins s.takes h.tid h, ctxs := ins s.ctxs h.ctx x }
                (s.beginEntry r h.ctx entry).noteClass t.job r.die t.slate.prio
          | _, _ => drop

/-- A claim that a parked firing had made and that its next instruction does not ask for any more is withdrawn. -/
def State.settleClaims (pid : Nat) : State :=
  let fid := (s.plane pid).firing.fid
  let at_ := match s.nextOf pid with | .claim o => some o.h.toNat | _ => none
  s.withdrawClaims fun w => match w with
    | .firing p f h => p == pid && f == fid && at_ != some h
    | .drain _ _ | .stream _ | .script _ | .bridge _ _ => false

/-- PARKED_FIRING_RESUME (R325 step 2): a parked firing of an unparked take resumes with its saved registers. -/
def execParkedFiringResume (pid : Nat) (s : State) : Out :=
  let p := s.plane pid
  .next <| s.onDie (dieOf pid) <|
    match s.resumable pid with
    | none => s
    | some (t, k) =>
      if p.running || p.stopped then s
      else
        let s := s.modTake t.tid fun t => { t with parked := t.parked.erase k }
        let s := s.modPlane pid fun p => { p with running := true, firing := k.firing, regs := k.regs }
        (s.forgetLog pid).settleClaims pid

end Sys2Proof.Machine
end

