-- ==== Sys2Proof/Machine/Scalar.lean ====
section
/-!
DEFINITION. Scalar, predicate and branch instructions (05_scalar, R83 to R95).
-/
namespace Sys2Proof.Machine

/-! ## Shared shapes -/

/-- A register form: `f` of the two operands read by width, written by width (R85, R87, R90). -/
def regForm (o : OpA) (s : State) (f : Word → Word → Word) : Out :=
  stageS o.g o.gn s o.d fun s => scalarOut (f (scalarIn (s.rS o.a.toNat) o.w) (scalarIn (s.rS o.b.toNat) o.w)) o.w

/-- A register form on exact signed integers of width N (R85, R86). -/
def signedForm (o : OpA) (s : State) (f : Int → Int → Int) : Out :=
  stageS o.g o.gn s o.d fun s =>
    scalarOut (BitVec.ofInt 64 (f (signedIn (s.rS o.a.toNat) o.w) (signedIn (s.rS o.b.toNat) o.w))) o.w

/-- A register form on exact unsigned integers of width N (R85, R86). -/
def unsignedForm (o : OpA) (s : State) (f : Nat → Nat → Nat) : Out :=
  stageS o.g o.gn s o.d fun s =>
    scalarOut (w64 (f (unsignedIn (s.rS o.a.toNat) o.w) (unsignedIn (s.rS o.b.toNat) o.w))) o.w

/-- A shift by S[B] reduced to the width (R88). -/
def shiftForm (o : OpA) (s : State) (f : Nat → Nat → Nat → Nat) : Out :=
  stageS o.g o.gn s o.d fun s =>
    let n := scalarWidth o.w
    scalarOut (w64 (f n (unsignedIn (s.rS o.a.toNat) o.w) ((s.rS o.b.toNat).toNat % n))) o.w

/-- A shift by the immediate (R88). -/
def shiftImmForm (o : OpI) (s : State) (f : Nat → Nat → Nat → Nat) : Out :=
  stageS o.g o.gn s o.d fun s =>
    scalarOut (w64 (f (scalarWidth o.w) (unsignedIn (s.rS o.a.toNat) o.w) o.imm.toNat)) o.w

/-- An immediate form (R87). -/
def immForm (o : OpI) (s : State) (b : Word) (f : Word → Word → Word) : Out :=
  stageS o.g o.gn s o.d fun s => scalarOut (f (scalarIn (s.rS o.a.toNat) o.w) b) o.w

/-- A bit count of x := ReadS(A)[N-1:0], written zero-extended (R89). -/
def countForm (o : OpA) (s : State) (f : Nat → Nat → Nat) : Out :=
  stageS o.g o.gn s o.d fun s => w64 (f (scalarWidth o.w) (unsignedIn (s.rS o.a.toNat) o.w))

/-- A predicate form (R93). -/
def predForm (o : OpA) (s : State) (f : BitVec 1 → BitVec 1 → BitVec 1) : Out :=
  stage o.g o.gn s fun s => (s.wP o.d.toNat (f (s.rP o.a.toNat) (s.rP o.b.toNat))).adv

/-! ## Values of the shifts and counts (R88, R89) -/

def shlN (n x k : Nat) : Nat := x * 2 ^ k % 2 ^ n
def shrN (_n x k : Nat) : Nat := x / 2 ^ k
/-- The sign fill rounds to minus infinity. -/
def sarN (n x k : Nat) : Nat := ofInt n (toInt n x / (2 ^ k : Int))
def rotlN (n x k : Nat) : Nat := (x * 2 ^ k + x / 2 ^ (n - k)) % 2 ^ n
/-- Zero bits above the highest 1. -/
def clzN (n x : Nat) : Nat := if x == 0 then n else n - 1 - x.log2
/-- Zero bits below the lowest 1, looking at `n` bits. -/
def ctzN : Nat → Nat → Nat
  | 0, _ => 0
  | n + 1, x => if x % 2 == 1 then 0 else 1 + ctzN n (x / 2)
/-- The number of 1 bits among `n`. -/
def popN : Nat → Nat → Nat
  | 0, _ => 0
  | n + 1, x => x % 2 + popN n (x / 2)

/-! ## NOP, END (R83) -/

def execNop (o : OpA) (s : State) : Out := stage o.g o.gn s fun s => s.adv

/-- The end of a firing (R83): residencies that reached zero are retired (R109), its take's parse context is told
that a firing of its tokens ended (R191), and the plane is free for its next token. -/
def State.endFiring (s : State) : State :=
  let p := s.pl
  let s := s.fold p.firing.retireAtEnd fun s id => s.endResidency s.cur id
  let s := match s.take p.firing.tid with
    | none => s
    | some t => s.modTakeCtx t fun c => { c with sent := c.sent - 1 }
  (s.modPl fun p =>
    { p with
      running := false, nextAt := s.clk + 1,
      firing := { p.firing with claims := [], counted := [], retireAtEnd := [] } }).planeFree s.cur

/-- END: OPENCLAIM (subcode 4) while the firing holds uncommitted claims; TRAPINFO names the lowest handle that holds
one (R83, R105, R123). -/
def execEndFiring (o : OpA) (s : State) : Out :=
  stage o.g o.gn s fun s =>
    match s.pl.firing.claims.find? fun c => !c.2.isEmpty with
    | some c => s.ringFault c.1 4
    | none => s.endFiring

/-! ## Integer arithmetic (R85, R86) -/

def execAdd (o : OpA) (s : State) : Out := regForm o s fun a b => a + b
def execSub (o : OpA) (s : State) : Out := regForm o s fun a b => a - b
def execMul (o : OpA) (s : State) : Out := regForm o s fun a b => a * b
def execMulh (o : OpA) (s : State) : Out := signedForm o s fun a b => a * b / (2 ^ scalarWidth o.w : Int)
def execMulhu (o : OpA) (s : State) : Out := unsignedForm o s fun a b => a * b / 2 ^ scalarWidth o.w
def execMin (o : OpA) (s : State) : Out := signedForm o s fun a b => if a ≤ b then a else b
def execMax (o : OpA) (s : State) : Out := signedForm o s fun a b => if a ≤ b then b else a
def execMinu (o : OpA) (s : State) : Out := unsignedForm o s fun a b => if a ≤ b then a else b
def execMaxu (o : OpA) (s : State) : Out := unsignedForm o s fun a b => if a ≤ b then b else a

/-- The quotient of R86: all ones for a zero divisor; the overflow case wraps when it is written. -/
def quotS (a b : Int) : Int := if b == 0 then -1 else a.tdiv b
/-- The remainder of R86. -/
def remS (a b : Int) : Int := if b == 0 then a else a.tmod b

def execDiv (o : OpA) (s : State) : Out := signedForm o s quotS
def execRem (o : OpA) (s : State) : Out := signedForm o s remS
def execDivu (o : OpA) (s : State) : Out :=
  unsignedForm o s fun a b => if b == 0 then 2 ^ scalarWidth o.w - 1 else a / b
def execRemu (o : OpA) (s : State) : Out := unsignedForm o s fun a b => if b == 0 then a else a % b

/-! ## Logic, shifts, immediates (R87, R88) -/

def execAndS (o : OpA) (s : State) : Out := regForm o s fun a b => a &&& b
def execAndn (o : OpA) (s : State) : Out := regForm o s fun a b => a &&& ~~~b
def execOrS (o : OpA) (s : State) : Out := regForm o s fun a b => a ||| b
def execXorS (o : OpA) (s : State) : Out := regForm o s fun a b => a ^^^ b
def execAddi (o : OpI) (s : State) : Out := immForm o s (signImm o.imm) fun a b => a + b
def execAndi (o : OpI) (s : State) : Out := immForm o s (zeroImm o.imm) fun a b => a &&& b
def execOri (o : OpI) (s : State) : Out := immForm o s (zeroImm o.imm) fun a b => a ||| b
def execXori (o : OpI) (s : State) : Out := immForm o s (zeroImm o.imm) fun a b => a ^^^ b
def execShl (o : OpA) (s : State) : Out := shiftForm o s shlN
def execShr (o : OpA) (s : State) : Out := shiftForm o s shrN
def execSar (o : OpA) (s : State) : Out := shiftForm o s sarN
def execRotl (o : OpA) (s : State) : Out := shiftForm o s rotlN
def execShli (o : OpI) (s : State) : Out := shiftImmForm o s shlN
def execShri (o : OpI) (s : State) : Out := shiftImmForm o s shrN
def execSari (o : OpI) (s : State) : Out := shiftImmForm o s sarN
def execRotli (o : OpI) (s : State) : Out := shiftImmForm o s rotlN

/-! ## Bit counts (R89) -/

def execClz (o : OpA) (s : State) : Out := countForm o s clzN
def execCtz (o : OpA) (s : State) : Out := countForm o s ctzN
def execPopc (o : OpA) (s : State) : Out := countForm o s popN

/-! ## Moves, selection, scaled add, upper immediate (R90) -/

def execMov (o : OpA) (s : State) : Out := regForm o s fun a _ => a

/-- SEL always executes; its guard is the selector (R42, R90). -/
def execSel (o : OpA) (s : State) : Out :=
  let v := scalarIn (s.rS (if s.guard o.g o.gn then o.a else o.b).toNat) o.w
  .next (s.wS o.d.toNat (scalarOut v o.w)).adv

def execAddsh (sh : BitVec 2) (o : OpA) (s : State) : Out := regForm o s fun a b => a + (b <<< sh.toNat)

def execLui (o : OpI) (s : State) : Out :=
  stageS o.g o.gn s o.d fun s => o.imm ++ ((s.rS o.a.toNat).setWidth 32 : BitVec 32)

/-! ## Bit fields (R91) -/

/-- POS and len of the immediate. -/
def bfPos (o : OpI) : Nat := fld o.imm 0 6
def bfLen (o : OpI) : Nat := fld o.imm 8 6 + 1

def execBfx (o : OpI) (s : State) : Out :=
  stageS o.g o.gn s o.d fun s => BitVec.ofInt 64 (toInt (bfLen o) (fld (s.rS o.a.toNat) (bfPos o) (bfLen o)))
def execBfxu (o : OpI) (s : State) : Out :=
  stageS o.g o.gn s o.d fun s => w64 (fld (s.rS o.a.toNat) (bfPos o) (bfLen o))
def execBfi (o : OpI) (s : State) : Out :=
  stageS o.g o.gn s o.d fun s =>
    let d := s.rS o.d.toNat
    let m : Word := w64 ((2 ^ (bfLen o) - 1) * 2 ^ (bfPos o))
    (d &&& ~~~m) ||| (((s.rS o.a.toNat) <<< (bfPos o)) &&& m)

/-! ## Compares and predicates (R92, R93) -/

def execCmp (cc : Cond) (o : OpC) (s : State) : Out :=
  stage o.g o.gn s fun s =>
    (s.wP o.pd.toNat (predBit (condHolds cc (s.rS o.a.toNat) (s.rS o.b.toNat)))).adv

def execCmpi (cc : Cond) (o : OpC) (s : State) : Out :=
  stage o.g o.gn s fun s => (s.wP o.pd.toNat (predBit (condHolds cc (s.rS o.a.toNat) (signImm o.imm)))).adv

def execPand (o : OpA) (s : State) : Out := predForm o s fun a b => a &&& b
def execPor (o : OpA) (s : State) : Out := predForm o s fun a b => a ||| b
def execPxor (o : OpA) (s : State) : Out := predForm o s fun a b => a ^^^ b
def execPnot (o : OpA) (s : State) : Out := predForm o s fun a _ => ~~~a

/-! ## Branches (R94, R95) -/

/-- Transfers control to an index of the share; one outside it raises ILLEGAL at the branch, whose link register is
not written (R51, R94, R95). -/
def State.branch (s : State) (t : Int) (link : Bool) : State :=
  if t < 0 || (s.pl.progSize : Int) ≤ t then s.trap 1 (BitVec.ofInt 64 t) 0
  else
    let s := if link then s.wS 31 (w64 (s.pc + 1)) else s
    s.goto t.toNat

def execBr (o : OpB) (s : State) : Out := stage o.g o.gn s fun s => s.branch (s.pc + o.off.toInt) false
def execBl (o : OpB) (s : State) : Out := stage o.g o.gn s fun s => s.branch (s.pc + o.off.toInt) true
def execRet (o : OpA) (s : State) : Out := stage o.g o.gn s fun s => s.branch (s.rS 31).toNat false
def execJmpr (o : OpA) (s : State) : Out := stage o.g o.gn s fun s => s.branch (s.rS o.a.toNat).toNat false

/-- What decode or fetch does with an illegal word or an index outside the share (R51): ILLEGAL, with TRAPPC and
TRAPINFO as the cause gives them. -/
def execStageIllegal (pc info : BitVec 64) (s : State) : Out := .next (s.trapAt s.cur 1 pc info 0)

end Sys2Proof.Machine
end

