-- ==== Sys2Proof/Machine/System.lean ====
section
/-!
DEFINITION. System and trap instructions (14_system, R340 to R347; R56, R57).
-/
namespace Sys2Proof.Machine

variable (s : State)

/-! ## System registers (R56, R57, R341) -/

/-- The handler take of the running firing, in colour 15 (R322). -/
def State.handlerOf : Option Take := if s.pl.firing.colour == 15 then s.take s.pl.firing.tid else none

/-- The record of the trap that the running firing's handler take serves (R322). -/
def State.servedRec : Option TrapRec := s.handlerOf.bind Take.record

/-- The value of a system register (R56); the trap registers read zero in colours 0 to 14. -/
def State.sysReg (n : Nat) : Word :=
  let p := s.pl
  let f := p.firing
  let trap (g : TrapRec → Word) : Word := match s.servedRec with | some k => g k | none => 0
  match n with
  | 0x000 => w64 (planeNoOf s.cur)
  | 0x001 => w64 f.colour
  | 0x002 => w64 p.stage
  | 0x003 => w64 (cellIdWord (dieOf s.cur) (cellNoOf s.cur))
  | 0x004 => w64 p.region
  | 0x005 => w64 p.job
  | 0x010 => f.coord.row.setWidth 64
  | 0x011 => f.coord.grp.setWidth 64
  | 0x012 => f.coord.seq.setWidth 64
  | 0x013 => w64 f.clayer
  | 0x014 => w64 f.entry
  | 0x100 => if p.ftz then 1 else 0
  | 0x101 => p.lfsr.setWidth 64
  | 0x200 => trap fun k => w64 k.cause
  | 0x201 => trap fun k => k.pc
  | 0x202 => trap fun k => k.info
  | 0x203 => trap fun k => w64 k.colour
  | 0x300 => w64 s.frameSlot
  | _ => w64 s.clk

def execKrd (o : OpK) (s : State) : Out :=
  stage o.g o.gn s fun s =>
    if o.kreg == 0x101 && s.pl.drawsQueued then s.hold .retry 0
    else (s.wS o.d.toNat (s.sysReg o.kreg.toNat)).adv

/-- A write of TRAPPC writes the record that the handler take serves (R322); the record that the take still holds is
the same one. -/
def State.setTrapPc (v : Word) : State :=
  match s.handlerOf with
  | none => s
  | some h =>
    match h.record with
    | none => s
    | some k =>
      let k' := { k with pc := v }
      let s := s.modTake h.tid fun x => { x with record := some k' }
      if h.resolved then s
      else s.modTake h.serves fun t => { t with traps := t.traps.map fun x => if x == k then k' else x }

/-- KWR (R341): reserved bits are stored as zero; a register that is read-only for the colour raises ILLEGAL, with a true
guard only: R56 does not say whether a false guard keeps that ILLEGAL away, as it does not keep away that of an unlisted
number, which no word encodes legally (DESIGN CHOICE, log 45). -/
def execKwr (o : OpK) (s : State) : Out :=
  stage o.g o.gn s fun s =>
    let v := s.rS o.a.toNat
    if o.kreg == 0x100 then (s.modPl fun p => { p with ftz := v.getLsbD 0 }).adv
    else if o.kreg == 0x101 then
      if s.pl.drawsQueued then s.hold .retry 0
      else
        let x : BitVec 32 := v.setWidth 32
        (s.modPl fun p => { p with lfsr := if x == 0 then 0xC0D15EED else x }).adv
    else if o.kreg == 0x201 && s.pl.firing.colour == 15 then (s.setTrapPc v).adv
    else s.illegalWord

/-! ## TRAP, BRK (R342) -/

def execTrap (o : OpK) (s : State) : Out :=
  stage o.g o.gn s fun s => s.trapAt s.cur 13 (w64 (s.pc + 1)) (o.imm.setWidth 64) 0
def execBrk (o : OpK) (s : State) : Out :=
  stage o.g o.gn s fun s => s.trapAt s.cur 12 (w64 (s.pc + 1)) (o.imm.setWidth 64) 0

/-! ## ERET, PURGE (R343, R344) -/

/-- The take and the trap that a handler take has still to resolve: none once the trap is resolved, its take is gone
or is failing (R343, R349). -/
def State.unresolved (h : Take) : Option (Take × TrapRec) :=
  if h.resolved then none
  else h.record.bind fun k => (s.take h.serves).bind fun t =>
    if !t.failing && t.traps.contains k then some (t, k) else none

def execEret (o : OpK) (s : State) : Out :=
  stage o.g o.gn s fun s =>
    if s.pl.firing.colour != 15 then s.illegalWord
    else
      match s.handlerOf.bind s.unresolved with
      | none => (s.wS o.d.toNat 3).adv
      | some (t, k) =>
        if !s.released then s.hold .retry 0
        else s.afterBack fun s =>
          let s := s.modTake s.pl.firing.tid fun x => { x with resolved := true }
          if fld o.imm 0 1 == 1 then
            ((s.wS o.d.toNat 1).adv).failTake t.tid (causeCode k.cause k.info) k.unit k.addr k.detail
          else if k.cause == 11 then ((s.wS o.d.toNat 2).adv).purgeTake t.tid false
          else ((s.wS o.d.toNat 0).adv).resolveTrap t.tid fun x => x == k

/-- PURGE (R344); a purge of the firing's own colour writes S[D] and then stops the firing. -/
def execPurge (o : OpK) (s : State) : Out :=
  stage o.g o.gn s fun s =>
    let colour := fld (s.rS o.a.toNat) 0 4
    if colour == 15 then (s.wS o.d.toNat 2).adv
    else
      match s.takeOf s.pl.owner colour with
      | none => (s.wS o.d.toNat 1).adv
      | some t => ((s.wS o.d.toNat 0).adv).purgeTake t.tid (fld o.imm 0 1 == 1)

/-! ## IDLE, HALTP, ERRPOP (R345 to R347) -/

def execIdle (o : OpK) (s : State) : Out :=
  stage o.g o.gn s fun s =>
    let until_ := if o.a == 0 then s.clk + o.imm.toNat else (s.rS o.a.toNat).toNat
    if until_ ≤ s.clk then s.adv else s.hold .idle until_

def execIdleExpiry (pid : Nat) (s : State) : Out :=
  let p := s.plane pid
  .next <| s.onDie (dieOf pid) (if p.running && p.firing.wait == .idle && decide (p.firing.waitArg ≤ s.clk)
    then s.modFiring pid Firing.pass else s)

def execHaltp (o : OpK) (s : State) : Out :=
  stage o.g o.gn s fun s =>
    let i : RecInfo :=
      { cls := 4, act := actOf 0x000A 4, code := 0x000A, unit := unitOfCell (dieOf s.cur) (cellNoOf s.cur) 0,
        job := s.pl.job, detail := (s.rS o.a.toNat).toNat }
    let i := match s.take s.pl.firing.tid with | some t => s.aboutTake t i | none => i
    s.endFiring.failJob i

/-- The record that ERRPOP writes in colour 15: the served trap, laid out as an error record (R347). -/
def State.servedInfo : Option (BitVec 512) :=
  s.handlerOf.bind fun h => h.record.map fun k =>
    let about := fun (i : RecInfo) => match s.take h.serves with
      | some t => s.aboutTake t i
      | none => { s.aboutTake h i with colour := k.colour }
    let r := (about { cls := 0, act := 0, code := k.cause, unit := k.unit, addr := k.info.toNat,
                      detail := k.pc.toNat }).toRec k.time
    (r.detail.getD 0) ++ r.entry

def execErrpop (o : OpK) (s : State) : Out :=
  stage o.g o.gn s fun s =>
    let v := fld o.d 0 4
    if s.pl.firing.colour == 15 then (s.wV v ((s.servedInfo.getD 0).setWidth 1024)).adv
    else
      match s.take s.pl.firing.tid with
      | none => (s.wV v 0).adv
      | some t =>
        let q := (s.takeCtx t).recs
        let s := s.modTakeCtx t fun c => { c with recs := q.drop 1 }
        (s.wV v ((q.headD 0).setWidth 1024)).adv

end Sys2Proof.Machine
end

