-- ==== Sys2Proof/Machine/Frontier.lean ====
section
/-!
DEFINITION. Frontier units (12_tasks, R278 to R285).
-/
namespace Sys2Proof.Machine

variable (s : State)

/-! ## The descriptor (R278) -/

/-- A point of a space, or a place outside it. -/
abbrev Pt := Int × Int × Int

def frDims (d : BitVec 512) : Nat := fld d 0 2
def frOpen (d : BitVec 512) : Bool := fld d 2 1 == 1
def frVecs (d : BitVec 512) : Nat := fld d 8 3
/-- W (R278). -/
def frWidth (d : BitVec 512) : Nat := recNum d 2 1 + 1
def frRule (d : BitVec 512) (v : Nat) : Nat := fld d (24 + 2 * v) 2
def frExt (d : BitVec 512) (i : Nat) : Nat := recNum d (4 + 4 * i) 4
/-- Vector `v`. -/
def frVec (d : BitVec 512) (v : Nat) : Pt := (recInt d (16 + 3 * v) 1, recInt d (17 + 3 * v) 1, recInt d (18 + 3 * v) 1)
def frDone (d : BitVec 512) : Nat := recNum d 28 2
def frGlvl (d : BitVec 512) : Nat := fld d 240 3
def frClvl (d : BitVec 512) : Nat := fld d 243 3
def frTmpl (d : BitVec 512) : Nat := recNum d 32 8
def frBtmpl (d : BitVec 512) : Nat := recNum d 40 8
def frStream (d : BitVec 512) : Nat := recNum d 48 8
def frTag (d : BitVec 512) : Nat := recNum d 56 6

/-- A vector is lexicographically positive and zero at or above NDIM (R278). -/
def frVecOk (n : Nat) (c : Pt) : Bool :=
  (n == 3 || c.2.2 == 0) && (2 ≤ n || c.2.1 == 0)
    && (0 < c.2.2 || (c.2.2 == 0 && (0 < c.2.1 || (c.2.1 == 0 && 0 < c.1))))

/-- A rule of a vector is 1: the boundary template is used. -/
def frBoundary (d : BitVec 512) : Bool := (List.range (frVecs d)).any fun v => frRule d v == 1

/-- The checks of R278 but for the templates. In a record a closed extent may be 0, and LEVELS and STREAM keep their
values when OPEN has been cleared (R284). -/
def frOk (d : BitVec 512) (inRecord : Bool) : Bool :=
  let n := frDims d
  1 ≤ n && fld d 3 5 == 0 && 1 ≤ frVecs d && frVecs d ≤ 4 && fld d 11 5 == 0
    && (List.range 4).all (fun v => frRule d v != 3)
    && (List.range 3).all (fun i => (1 ≤ frExt d i || (inRecord && !frOpen d && i + 1 == n)) && frExt d i ≤ 2097151
        && (i < n || frExt d i == 1))
    && (List.range (frVecs d)).all (fun v => frVecOk n (frVec d v))
    && frDone d / 4096 % 8 == 0
    && fld d 246 2 == 0
    && (if frOpen d then 1 ≤ frGlvl d && frGlvl d ≤ 4 && frGlvl d ≤ frClvl d && frClvl d ≤ 4
        else inRecord || (recNum d 30 1 == 0 && frStream d == 0))
    && recNum d 31 1 == 0 && recNum d 62 2 == 0
    && frTmpl d % 64 == 0 && frBtmpl d % 64 == 0 && (frBoundary d || frBtmpl d == 0)

/-- A template is a KIND 0 slate with DV 0 naming a region of the job on the die (R278). -/
def State.templateOk (die job : Nat) (w : BitVec 512) : Bool :=
  let x := slateOf w
  !slateBad w && x.kind == 0 && !x.dv && (s.imageOf job die x.region).isSome

/-! ## Points (R279, R280) -/

/-- The extent of a dimension: K in the open one. -/
def Frontier.lim (f : Frontier) (i : Nat) : Nat :=
  if frOpen f.desc && i + 1 == frDims f.desc then f.k else frExt f.desc i
/-- Rows of the space so far. -/
def Frontier.nrows (f : Frontier) : Nat := f.lim 1 * f.lim 2
/-- The row of a point, and the point of a row at an index of dimension 0 (R279). -/
def Frontier.rowOf (f : Frontier) (p : Nat × Nat × Nat) : Nat := p.2.2 * frExt f.desc 1 + p.2.1
def Frontier.pointOf (f : Frontier) (r i0 : Nat) : Nat × Nat × Nat := (i0, r % frExt f.desc 1, r / frExt f.desc 1)
def Frontier.row (f : Frontier) (r : Nat) : FrRow := look {} f.rows r

/-- A point is done (R279). -/
def Frontier.isDone (f : Frontier) (p : Nat × Nat × Nat) : Bool :=
  let r := f.rowOf p
  let x := f.row r
  r < f.rowlo || p.1 < x.pfx || (p.1 < x.pfx + 64 && x.bitmap.getLsbD (p.1 - x.pfx))

/-- A row is complete: PREFIX has reached its extent (it lies beyond it where a restored frontier's stream closed early), which
in an open dimension 0 is known once it is closed
(R279). -/
def Frontier.rowComplete (f : Frontier) (r : Nat) : Bool :=
  decide (f.lim 0 ≤ (f.row r).pfx) && (frDims f.desc != 1 || !frOpen f.desc || f.closed)

/-- ROWLO moves past the complete rows at its bottom; `n` bounds them (R279). -/
def Frontier.slide (f : Frontier) : Nat → Frontier
  | 0 => f
  | n + 1 =>
    if f.rowlo < f.nrows && f.rowComplete f.rowlo then
      Frontier.slide { f with rowlo := f.rowlo + 1, rows := del f.rows f.rowlo } n
    else f
def Frontier.settle (f : Frontier) : Frontier := f.slide 4096

/-- PREFIX grows over the done points at the bottom of the bitmap. -/
def FrRow.pack (x : FrRow) : Nat → FrRow
  | 0 => x
  | n + 1 => if x.bitmap.getLsbD 0 then FrRow.pack { pfx := x.pfx + 1, bitmap := x.bitmap >>> 1 } n else x

/-- A point becomes done (R279). -/
def Frontier.markDone (f : Frontier) (p : Nat × Nat × Nat) : Frontier :=
  let r := f.rowOf p
  let x := f.row r
  let x' := FrRow.pack { x with bitmap := x.bitmap ||| (1#64 <<< (p.1 - x.pfx)) } 64
  { f with
    rows := put {} f.rows r x'
    flight := f.flight.erase p
    bDone := f.bDone.filter fun b => !((b.1, b.2.1, b.2.2.1) == p) }.settle

/-- The points that rows and bitmaps allow to issue and that are not done, lowest first (R279, R280). -/
def Frontier.candidates (f : Frontier) : List (Nat × Nat × Nat) :=
  ((List.range (min 4096 (f.nrows - f.rowlo))).flatMap fun i =>
    let r := f.rowlo + i
    let x := f.row r
    (List.range (min 64 (f.lim 0 - x.pfx))).filterMap fun j =>
      if x.bitmap.getLsbD j then none else some (f.pointOf r (x.pfx + j))).filter fun p => !f.flight.contains p

/-- The predecessor of a point, and whether a place lies in the space. -/
def predOf (p : Nat × Nat × Nat) (c : Pt) : Pt := (p.1 - c.1, p.2.1 - c.2.1, p.2.2 - c.2.2)
def Frontier.inSpace (f : Frontier) (q : Pt) : Bool :=
  0 ≤ q.1 && q.1 < f.lim 0 && 0 ≤ q.2.1 && q.2.1 < f.lim 1 && 0 ≤ q.2.2 && q.2.2 < f.lim 2

/-- The vectors whose predecessor of a point lies outside the space. -/
def Frontier.outside (f : Frontier) (p : Nat × Nat × Nat) : List Nat :=
  (List.range (frVecs f.desc)).filter fun v => !f.inSpace (predOf p (frVec f.desc v))
/-- Every predecessor inside the space is done. -/
def Frontier.insideDone (f : Frontier) (p : Nat × Nat × Nat) : Bool :=
  (List.range (frVecs f.desc)).all fun v =>
    let q := predOf p (frVec f.desc v)
    !f.inSpace q || f.isDone (q.1.toNat, q.2.1.toNat, q.2.2.toNat)

/-- A boundary take of a point and a vector. -/
def bTake (p : Nat × Nat × Nat) (v : Nat) : Nat × Nat × Nat × Nat := (p.1, p.2.1, p.2.2, v)

/-- A point is issuable (R280). -/
def Frontier.issuable (f : Frontier) (p : Nat × Nat × Nat) : Bool :=
  f.insideDone p && (f.outside p).all fun v =>
    frRule f.desc v == 0 || (frRule f.desc v == 1 && f.bDone.contains (bTake p v))

/-- A predecessor that rule 2 forbids (R280). -/
def Frontier.forbidden (f : Frontier) : Bool :=
  f.candidates.any fun p => f.insideDone p && (f.outside p).any fun v => frRule f.desc v == 2

/-- The next boundary take to create (R280). -/
def Frontier.boundaryDue (f : Frontier) : Option (Nat × Nat × Nat × Nat) :=
  f.candidates.findSome? fun p =>
    if f.insideDone p then
      ((f.outside p).find? fun v =>
        frRule f.desc v == 1 && !f.bOut.contains (bTake p v) && !f.bDone.contains (bTake p v)).map (bTake p)
    else none

/-! ## The unit -/

def State.frontier (core : Nat) : Frontier := (s.core core).fr
def State.modFr (core : Nat) (f : Frontier → Frontier) : State := s.modCore core fun c => { c with fr := f c.fr }

/-- The plane that a frontier belongs to is evicted (R285). -/
def State.frFrozen (core : Nat) : Bool :=
  ((s.region (s.frontier core).region).map fun r =>
    r.place == .evicted || (r.place == .loading && !r.saved.isEmpty)).getD false

/-- The name word of a core's frontier (R283). -/
def frName (core : Nat) (f : Frontier) : Nat := core % 16 + f.ticket * 256

/-- The frontier enters FAULT with a code; the take that executed FRONT or FREST fails with it, or, where it fails
already, reports this cause too; where that take has ended the record is written alone. Each record carries the
frontier's TAG (R280, R282, R287, R393, R401). -/
def State.frFault (core code : Nat) : State :=
  let f := s.frontier core
  let tag := frTag f.desc
  let unit := unitOfCore core 9
  if f.state == .idle || f.state == .fault || f.wasFault then s
  else
    let s := s.modFr core fun f => if f.state == .saving then { f with wasFault := true } else { f with state := .fault }
    match s.take f.tid with
    | some t =>
      let s := s.failTake f.tid code unit 0 0
      if t.failing then
        if t.shadow then s
        else s.modTake f.tid fun x =>
          { x with later := x.later.dropLast ++ (x.later.getLast?.map fun e => ({ e.1 with tag }, e.2)).toList }
      else s.modTake f.tid fun x => { x with failTag := some tag }
    | none => s.post { cls := 3, act := actOf code 3, code, unit, job := f.job, tag }

/-- A take request of a frontier: the template with ARG2 to ARG5 replaced (R280). -/
def State.frAsk (core : Nat) (x : Slate) (arg2 : Nat) (p : Nat × Nat × Nat) (source : Source) : State :=
  let args := x.args.take 2 ++ [BitVec.ofNat 32 arg2, BitVec.ofNat 32 p.1, BitVec.ofNat 32 p.2.1, BitVec.ofNat 32 p.2.2]
  s.modDie (core / 16) fun d =>
    { d with held := d.held ++ [{ job := (s.frontier core).job, slate := { x with args }, released := true, age := s.clk, source }] }

/-- Rule 2 forbids a predecessor, and the unit is not in FAULT yet; while it drains for an FSAVE too (R280). -/
def State.frBound (core : Nat) : Bool :=
  let f := s.frontier core
  (f.state == .run || (f.state == .saving && !f.wasFault)) && f.forbidden

/-- FRONTIER_ISSUE (R280): the unit issues the lowest issuable point as a take. -/
def execFrontierIssue (core : Nat) (s : State) : Out :=
  let f := s.frontier core
  .next <|
    if s.frFrozen core then s
    else if s.frBound core then s.frFault core 0x0901
    else if f.state != .run then s
    else if frWidth f.desc ≤ f.flight.length then s
    else
      match f.candidates.find? f.issuable with
      | none => s
      | some p =>
        let s := s.frAsk core f.tmpl (frName core f) p (.point core f.ticket p.1 p.2.1 p.2.2)
        s.modFr core fun f => { f with flight := f.flight ++ [p] }

/-- BOUNDARY_TAKE (R280): at most 64 are outstanding. -/
def execBoundaryTake (core : Nat) (s : State) : Out :=
  let f := s.frontier core
  .next <|
    if s.frFrozen core then s
    else if s.frBound core then s.frFault core 0x0901
    else if f.state != .run then s
    else if 64 ≤ f.bOut.length then s
    else
      match f.boundaryDue with
      | none => s
      | some (i0, i1, i2, v) =>
        let s := s.frAsk core f.btmpl (frName core f + 2 ^ 16 + v * 2 ^ 17) (i0, i1, i2) (.boundary core f.ticket i0 i1 i2 v)
        s.modFr core fun f => { f with bOut := f.bOut ++ [(i0, i1, i2, v)] }

/-- FRONTIER_STREAM_SLOT (R281): the unit reads the sideband of the next slot of its take's colour and retires the slot;
its mark may extend or close the open extent. -/
def execFrontierStreamSlot (core : Nat) (s : State) : Out :=
  let f := s.frontier core
  .next <|
    match (if f.state == .idle || f.closed || !frOpen f.desc || s.frFrozen core then none else f.strm) with
    | none => s
    | some b =>
      match s.ringOf b with
      | none => s
      | some r =>
        match (if r.live.getLsbD b.branch then s.window r b.branch f.colour 1 else none) with
        | none => s
        | some ns =>
          let m := sideMark (s.side r (ns.headD 0))
          let close := levelAtLeast m (frClvl f.desc)
          let s := s.retire b.key b.branch ns
          let s := if close then s.dropBranch b.key b.branch else s
          s.modFr core fun f =>
            { f with
              k := if levelAtLeast m (frGlvl f.desc) then min (f.k + 1) (frExt f.desc (frDims f.desc - 1)) else f.k
              closed := close }.settle

/-- Every point of the space is done (R282). -/
def Frontier.complete (f : Frontier) : Bool := (f.closed || !frOpen f.desc) && f.nrows ≤ f.rowlo

/-- FRONTIER_COMPLETE (R282). -/
def execFrontierComplete (core : Nat) (s : State) : Out :=
  let f := s.frontier core
  .next <|
    if f.state != .run || s.frFrozen core || !f.complete then s
    else
      let s := s.modFr core fun f => { f with state := .idle }
      if frDone f.desc / 2 ^ 15 == 1 then s.decDep (core / 16) (frDone f.desc % 4096) 1 else s

/-- A point or boundary take of a frontier has ended (R280, R282): a boundary take's ACCEPT settles its vector; a take
that fails puts the frontier in FAULT, and its point is in flight no longer. -/
def State.frTakeOver (t : Take) (accepted : Bool) : State :=
  match t.source with
  | .point core ticket i0 i1 i2 =>
    if (s.frontier core).ticket != ticket || accepted || t.shadow then s
    else (s.modFr core fun f => { f with flight := f.flight.erase (i0, i1, i2) }).frFault core 0x0902
  | .boundary core ticket i0 i1 i2 v =>
    if (s.frontier core).ticket != ticket || t.shadow then s
    else
      let b := (i0, i1, i2, v)
      let s := s.modFr core fun f =>
        { f with bOut := f.bOut.erase b, bDone := if accepted then f.bDone ++ [b] else f.bDone }
      if accepted then s else s.frFault core 0x0902
  | .slate | .call _ _ | .spawn | .handler => s

/-! ## Instructions (R283) -/

/-- Reads 64 bytes as the issuing firing; a poisoned line purges its take (R389). -/
def State.readLine (va : Nat) (body : State → BitVec 512 → State) : State :=
  if s.lineBusy va 64 then s.hold .retry 0
  else s.afterOwn va 64 fun s => s.withPhys va 0 fun s ph => s.lineAt ph body

/-- Reads the templates of a descriptor (R278): none where one of them is refused. -/
def State.readTemplates (d : BitVec 512) (body : State → Option (Slate × Slate) → State) : State :=
  let die := dieOf s.cur
  if 2 ^ 52 ≤ frTmpl d || 2 ^ 52 ≤ frBtmpl d then body s none
  else
    s.readLine (frTmpl d) fun s w =>
      if !s.templateOk die s.pl.job w then body s none
      else if !frBoundary d then body s (some (slateOf w, {}))
      else s.readLine (frBtmpl d) fun s b =>
        body s (if s.templateOk die s.pl.job b then some (slateOf w, slateOf b) else none)

/-- The unit starts or restores a frontier under a fresh ticket (R283). -/
def State.frStart (core : Nat) (d : BitVec 512) (t : Slate × Slate) (f : Frontier) (o : OpK) : State :=
  let p := s.pl
  let s := s.modFr core fun old =>
    { f with
      ticket := (old.ticket + 1) % 256, desc := d, job := p.job, region := p.owner, tid := p.firing.tid,
      colour := p.firing.colour, tmpl := t.1, btmpl := t.2,
      strm := if frOpen d then s.bindingOf (w64 (frStream d)) else none }.settle
  (s.wS o.d.toNat (w64 (frName core (s.frontier core)))).adv

/-- The open extent's ring can be read. -/
def State.streamOk (d : BitVec 512) : Bool := !frOpen d || (s.bindingOf (w64 (frStream d))).isSome

def execFront (o : OpK) (s : State) : Out :=
  globalOp o.g o.gn s (fun s => s.rS o.a.toNat) 64 fun s ea =>
    let core := dieOf s.cur * 16 + fld o.kreg 0 4
    s.readLine ea fun s d =>
      if (s.frontier core).state != .idle then (s.wS o.d.toNat (w64 (2 ^ 63 + 1))).adv
      else if !frOk d false || !s.streamOk d then (s.wS o.d.toNat (w64 (2 ^ 63 + 2))).adv
      else s.readTemplates d fun s t =>
        match t with
        | none => (s.wS o.d.toNat (w64 (2 ^ 63 + 2))).adv
        | some t => s.frStart core d t { state := .run } o

/-- The core of the frontier that a name word names, for the issuing firing's job (R283). -/
def State.named (w : Word) : Option Nat :=
  let core := dieOf s.cur * 16 + fld w 0 4
  let f := s.frontier core
  if w == w64 (frName core f) && f.job == s.pl.job then some core else none

/-- FDONE (R283): a release of die scope before its effect; it waits while the frontier's plane is evicted (R285). -/
def execFdone (o : OpK) (s : State) : Out :=
  stage o.g o.gn s fun s =>
    if !s.released || !s.pl.acquired s.pl.firing.fid then s.hold .retry 0
    else
      match s.named (s.rS o.d.toNat) with
      | none => s.afterBack fun s => (s.wS o.d.toNat 2).adv
      | some core =>
        if s.frFrozen core then s.hold .retry 0
        else s.afterBack fun s =>
          let a := s.rS o.a.toNat
          let p := (fld a 0 21, fld a 21 21, fld a 42 21)
          let f := s.frontier core
          if f.state != .idle && f.flight.contains p then
            ((s.modFr core fun f => f.markDone p).wS o.d.toNat 0).adv
          else (s.wS o.d.toNat 1).adv

/-- Bytes that a frontier record may take (R283). -/
def frArea : Nat := 98432

/-- Asks for the translation of every page of a range. -/
def State.withPages (va access : Nat) (body : State → State) : Nat → State → State
  | 0, s => body s
  | n + 1, s => s.withPhys va access fun s _ => State.withPages (va / 65536 * 65536 + 65536) access body n s
def pagesOf (va n : Nat) : Nat := (va % 65536 + n + 65535) / 65536

/-- FSAVE (R283): the unit stops issuing and drains; the firing waits for the record. -/
def execFsave (o : OpK) (s : State) : Out :=
  globalOp o.g o.gn s (fun s => s.rS o.a.toNat) 64 fun s ea =>
    match s.named (s.rS o.d.toNat) with
    | none => (s.wS o.d.toNat (w64 (2 ^ 63 + 2))).adv
    | some core =>
      let f := s.frontier core
      let busy := s.pl.memq.any fun m => m.job == s.pl.job && decide (m.va < ea + frArea) && decide (ea < m.va + m.size)
      if f.state == .idle then (s.wS o.d.toNat (w64 (2 ^ 63 + 2))).adv
      else if f.state == .saving || busy then s.hold .retry 0
      else State.withPages ea 1 (fun s =>
        let fi := s.pl.firing
        (s.modFr core fun f =>
          { f with
            state := .saving, wasFault := f.state == .fault, saveVa := ea, saveStop := fld o.imm 0 1 == 1,
            saveFid := fi.fid, saveTid := fi.tid, saveD := o.d.toNat }).hold .save 0) (pagesOf ea frArea) s

/-! ## Records (R284) -/

/-- Runs of rows of one PREFIX, from an offset on. -/
def frRuns : Nat → List Nat → List (Nat × Nat × Nat)
  | _, [] => []
  | i, p :: rest =>
    match frRuns (i + 1) rest with
    | (_, n, q) :: r => if p == q then (i, n + 1, q) :: r else (i, 1, p) :: (i + 1, n, q) :: r
    | [] => [(i, 1, p)]

/-- The record of a frontier. -/
def Frontier.bytes (f : Frontier) (fault : Bool) : List Byte :=
  let top := f.rows.foldl (fun m e => max m (e.1 + 1 - f.rowlo)) 0
  let prefixes := (List.range top).map fun i => (f.row (f.rowlo + i)).pfx
  let runs := frRuns 0 prefixes
  let wins := f.rows.filter fun e => e.2.bitmap != 0
  let head := leBytes 64 f.desc.toNat
  let n := frDims f.desc - 1
  let head := if frOpen f.desc && f.closed then
      leBytes 1 ((head.getD 0 0).toNat - 4) ++ (head.drop 1).take (3 + 4 * n) ++ leBytes 4 f.k ++ head.drop (8 + 4 * n)
    else head
  head ++ leBytes 4 f.rowlo ++ leBytes 2 runs.length ++ leBytes 2 wins.length ++ leBytes 1 (if fault then 1 else 0)
    ++ leBytes 55 0
    ++ runs.flatMap (fun r => leBytes 2 r.1 ++ leBytes 2 r.2.1 ++ leBytes 4 r.2.2)
    ++ wins.flatMap fun e => leBytes 2 (e.1 - f.rowlo) ++ leBytes 6 0 ++ leBytes 8 e.2.bitmap.toNat

/-- Stores bytes at a job's address, a line at a time (R283). -/
def State.storeLines (job tid writer : Nat) : Nat → State → Nat → List Byte → State
  | 0, s, _, _ => s
  | n + 1, s, va, bs =>
    if bs.isEmpty then s
    else
      let s := match s.placeOf job va true with
        | none => s
        | some p => s.performWrite { key := p.key, home := p.die * 64 + p.slice, data := bs.take 64, job, va, tid, writer }
      State.storeLines job tid writer n s (va + 64) (bs.drop 64)

/-- The home slices of the lines of a range of a job. -/
def State.rangeHomes (job va n : Nat) : List Nat :=
  (List.range ((va % 64 + n + 63) / 64)).filterMap fun i =>
    (s.placeOf job ((va / 64 + i) * 64) false).map fun p => p.die * 64 + p.slice

/-- A read of a range waits at the home of one of its lines; one that is made is charged there, line by line (R272). -/
def State.rangeWaits (job va n : Nat) : Bool := (s.rangeHomes job va n).any fun home => !s.served home job
def State.chargeRange (job va n : Nat) : State := s.fold (s.rangeHomes job va n) fun s home => s.charge home job 64

/-- FRONTIER_SAVE_DONE (R283): nothing is in flight any more; the record is written, once the homes of its lines serve it (R272),
and the firing goes on. A rule 2 that came to hold in the drain puts the frontier in FAULT first (R280). -/
def execFrontierSaveDone (core : Nat) (s : State) : Out :=
  let f := s.frontier core
  let who := s.planes.find? fun e => e.2.running && e.2.firing.fid == f.saveFid && e.2.firing.wait == .save
  let gone := ((s.take f.saveTid).map Take.failing).getD true
  .next <|
    let bs := f.bytes f.wasFault
    let shadow := ((s.take f.saveTid).map Take.shadow).getD false
    if f.state != .saving || !f.flight.isEmpty || !f.bOut.isEmpty || s.frFrozen core || (who.isNone && !gone) then s
    else if s.frBound core then s.frFault core 0x0901
    else if !shadow && s.rangeWaits f.job f.saveVa bs.length then s
    else
      let s := if shadow then s
        else State.storeLines f.job f.saveTid ((who.map fun e => e.1 + 1).getD 0) (bs.length / 64 + 1) s f.saveVa bs
      let s := s.modFr core fun f =>
        { f with state := if f.saveStop then .idle else if f.wasFault then .fault else .run, wasFault := false }
      match who with
      | none => s
      | some e => (s.setS e.1 f.saveD (w64 bs.length)).modFiring e.1 Firing.pass

/-- Little-endian number in a list of bytes. -/
def numAt (bs : List Byte) (a n : Nat) : Nat := leNat ((bs.drop a).take n)

/-- The most points a row of a record may hold: an extent still open is bounded by the descriptor's (R278, R284). -/
def Frontier.rowBound (f : Frontier) : Nat := if frOpen f.desc && frDims f.desc == 1 then frExt f.desc 0 else f.lim 0

/-- The rows that a record's run and window entries give; none for a bad entry. -/
def frRows (f : Frontier) (bs : List Byte) (nruns nwin : Nat) : Option (Tab FrRow) :=
  let run := fun (acc : Option (Nat × Tab FrRow)) (i : Nat) =>
    acc.bind fun (at_, t) =>
      let off := numAt bs (128 + 8 * i) 2
      let n := numAt bs (130 + 8 * i) 2
      let p := numAt bs (132 + 8 * i) 4
      if off != at_ || n == 0 || 4096 < at_ + n || f.rowBound < p then none
      else some (at_ + n, (List.range n).foldl (fun t j => put {} t (f.rowlo + at_ + j) { pfx := p }) t)
  let win := fun (acc : Option (Nat × Tab FrRow)) (i : Nat) =>
    acc.bind fun (next, t) =>
      let base := 128 + 8 * nruns + 16 * i
      let off := numAt bs base 2
      let b := numAt bs (base + 8) 8
      if off < next || 4096 ≤ off || numAt bs (base + 2) 6 != 0 || b == 0 then none
      else some (off + 1, put {} t (f.rowlo + off) { look ({} : FrRow) t (f.rowlo + off) with bitmap := BitVec.ofNat 64 b })
  ((List.range nruns).foldl run (some (0, []))).bind fun (_, t) =>
    ((List.range nwin).foldl win (some (0, t))).map (·.2)

/-- The frontier that a record describes (R284); none for a bad one. An extent that is still open starts again at 0
(R281). -/
def frOf (bs : List Byte) : Option Frontier :=
  let d : BitVec 512 := BitVec.ofNat 512 (numAt bs 0 64)
  let f : Frontier :=
    { state := if numAt bs 72 1 == 1 then .fault else .run, desc := d, rowlo := numAt bs 64 4 }
  if !frOk d true || 1 < numAt bs 72 1 || numAt bs 73 55 != 0 then none
  else (frRows f bs (numAt bs 68 2) (numAt bs 70 2)).map fun rows => { f with rows }

/-- Bytes of a job's addresses, where every page is mapped. -/
def State.bytesVa (job va n : Nat) : List Byte :=
  (List.range n).map fun i => match s.placeOf job (va + i) false with | some p => s.byte p.key | none => 0

/-- A line of a range is poisoned or its home is fenced (R389). -/
def State.rangeBad (job va n : Nat) : Bool :=
  (List.range (n / 64 + 1)).any fun i =>
    match s.placeOf job (va + 64 * i) false with
    | some p => s.unreadable (p.die * 64 + p.slice) p.key
    | none => false

def execFrest (o : OpK) (s : State) : Out :=
  globalOp o.g o.gn s (fun s => s.rS o.a.toNat) 64 fun s ea =>
    let core := dieOf s.cur * 16 + fld o.kreg 0 4
    let bad := fun (s : State) => (s.wS o.d.toNat (w64 (2 ^ 63 + 3))).adv
    s.readLine ea fun s _ => s.readLine (ea + 64) fun s w =>
      if (s.frontier core).state != .idle then (s.wS o.d.toNat (w64 (2 ^ 63 + 1))).adv
      else
        let size := 128 + 8 * recNum w 4 2 + 16 * recNum w 6 2
        if frArea < size then bad s
        else State.withPages ea 0 (fun s =>
          let mine := fun (l : StashLine) => l.job == s.pl.job && decide (ea / 64 ≤ l.vline) && decide (l.vline ≤ ea / 64 + size / 64)
          if !s.backServed s.cur mine then s.hold .retry 0 else
          let s := (List.range (size / 64 + 1)).foldl (fun s i => s.flushOwn (ea + 64 * i) 64) s
          if s.rangeWaits s.pl.job ea size then s.hold .retry 0
          else if s.rangeBad s.pl.job ea size then s.purgeTake s.pl.firing.tid false
          else
            let s := s.chargeRange s.pl.job ea size
            match frOf (s.bytesVa s.pl.job ea size) with
            | none => bad s
            | some f =>
              if !s.streamOk f.desc then bad s
              else s.readTemplates f.desc fun s t =>
                match t with
                | none => bad s
                | some t => s.frStart core f.desc t f o) (pagesOf ea size) s

end Sys2Proof.Machine
end

