-- ==== Sys2Proof/Machine/Ends.lean ====
section
/-!
DEFINITION. The end of a take by ACCEPT or failure, latency, deadlock and paired comparators (R25, R30, R31, R157, R191,
R195, R274, R323, R330, R331, R393, R401).
-/
namespace Sys2Proof.Machine

variable (s : State)

/-! ## The end of a take (R191, R401) -/

/-- A plane holds nothing that a take's end waits for: queued matrix operations, releases and drains, commits and
writes (R191). -/
def Plane.doneWith (p : Plane) (tid : Nat) : Bool :=
  let free := fun (c : MatCtx) =>
    (match c.release with | some r => r.tid != tid | none => true)
      && (match c.drain with | some d => d.tid != tid | none => true)
  p.mq.all (fun o => o.tid != tid) && free p.user && free p.handler && p.commits.all (fun c => c.tid != tid)
    && p.memq.all (fun o => !(o.tid == tid && o.isWrite))

/-- No granule of a take waits for a comparator (R330). -/
def State.noExits (tid : Nat) : Bool := s.exits.all fun e => (e.prim ++ e.shad).all fun x => x.1 != tid

/-- A draining take's work is done (R191, R304): no plane holds any of it, one that has been freed with writes still to perform
included (R28), nor does the image of an evicted region of its group. -/
def State.drained (t : Take) : Bool :=
  let c := s.ctx t.ctx
  c.tid == t.tid && c.state == .drain && !t.failing && c.sent == 0 && !c.killing
    && t.parked.isEmpty && t.traps.isEmpty && !s.ownParked t
    && s.planes.all (fun e => e.2.doneWith t.tid) && s.allGroup t.region (fun p => p.doneWith t.tid)
    && s.noExits t.tid && !s.openMsgs t.tid

/-- Head-ring slots of the take's colour that its context has not passed are retired for every branch, in the image of the
region that the ring went away with too (R191, R332). -/
def State.dropUnpassed (t : Take) : State :=
  let pos := (s.ctx t.ctx).pos
  match s.headRing t.ctx, s.headHandle t.ctx with
  | some r, _ => s.retireAll r.key ((s.ofColour r t.colour).filter fun n => pos ≤ n)
  | none, some h => s.modRegion h.far fun g => g.mapSavedRings fun c x =>
      if x.key == h.key then x.voidSlots ((c.ofColour x t.colour).filter fun n => pos ≤ n) else x
  | none, none => s

/-- Ring keys of the rings of a take's region and of its partners. -/
def State.ringKeysOf (region : Nat) : List Nat :=
  let pids := s.groupPids region
  s.rings.filterMap fun e => if pids.contains e.2.pid then some e.1 else none

/-- A take that executed KILL: slots of its colour still filled and unretired are retired (R195 step 4). -/
def State.killFlush (t : Take) : State :=
  if t.killed.isNone then s
  else
    let s := s.modSaved t.region fun g => g.mapSavedRings fun c x => x.voidSlots ((c.ofColour x t.colour).filter x.isFilled)
    s.fold (s.ringKeysOf t.region) fun s k =>
      match s.ring k with
      | none => s
      | some r => s.retireAll k ((s.ofColour r t.colour).filter r.isFilled)

/-- A condemned region is torn down with its other copy once no take of either is left (R331). -/
def State.condemnedDown (key : Nat) : State :=
  let both := s.withTwin key
  let quiet := s.takes.all fun e => !both.contains e.2.region
  if quiet && ((s.region key).map Region.condemned).getD false then
    s.fold both fun s k =>
      match s.region k with
      | none => s
      | some r => (s.fold r.pids fun s pid => s.freePlane pid).tearDown k
  else s

/-- A take leaves: its plane's stashes are written back, its barrier instance goes, its context is freed and its colour
returns, and the rings of its region settle (R208, R276, R191). -/
def State.takeLeaves (t : Take) : State :=
  let pids := s.groupPids t.region
  let keys := (s.group t.region).map Region.key
  let s := s.fold pids fun s pid => s.writeBack pid
  let s := s.modDie (t.region / 256 % 8) fun d =>
    { d with barriers := d.barriers.filter fun b => !(keys.contains b.region && b.colour == t.colour) }
  let s := s.modGroup t.region fun p => { p with kills := p.kills.filter fun k => !(k.1 == t.tid) }
  let s := s.freeCtx t
  let s := { s with takes := del s.takes t.tid }
  let s := s.fold (s.ringKeysOf t.region) fun s k => s.reclaim k
  (s.fold pids State.planeFree).condemnedDown t.region

/-- A handler take that ends without having resolved its trap fails the take that it serves (R323). -/
def State.leftUnresolved (h : Take) : State :=
  if h.colour != 15 then s
  else
    match s.unresolved h with
    | some (t, k) => s.failTake t.tid 0x0008 k.unit k.addr 0
    | none => s

/-- The homes of the dirty lines of every plane of a take's region and partners serve their write-back (R208, R272). -/
def State.groupServed (t : Take) : Bool := (s.groupPids t.region).all fun pid => s.backServed pid fun _ => true

/-- TAKE_END (R25, R191): a take that executed ACCEPT ends once its work is done, and its completion actions run. -/
def execTakeEnd (tid : Nat) (s : State) : Out :=
  .next <|
    match s.take tid with
    | none => s
    | some t =>
      if !s.drained t || !s.groupServed t then s
      else
        let s := (s.dropUnpassed t).killFlush t
        let s := (s.endResidencies t false).modGroup t.region fun p => p.clearOwned tid
        let s := (s.callDone t 1).frTakeOver t true
        let s := s.fold [t.slate.act0, t.slate.act1] fun s a => s.runAction t a
        (s.takeLeaves t).leftUnresolved t

/-- Inserts a record by TIME, then by UNIT (R393). -/
def insertRec (x : RecInfo × Nat) : List (RecInfo × Nat) → List (RecInfo × Nat)
  | [] => [x]
  | y :: r => if x.2 < y.2 || (x.2 == y.2 && x.1.unit < y.1.unit) then x :: y :: r else y :: insertRec x r

/-- The records of a failed take, one for each failing cause, each with the TAG it was detected with: by TIME, and those
of one TIME by UNIT (R393). -/
def State.failRecords (t : Take) : State :=
  let first : RecInfo :=
    { cls := 3, act := actOf t.failCode 3, code := t.failCode, unit := t.failUnit, addr := t.failAddr,
      detail := t.failDetail, tag := t.failTag.getD t.slate.tag }
  s.fold ((((first, t.failAt) :: t.later).foldl (fun l e => insertRec e l) []))
    fun s e => s.post { s.aboutTake t e.1 with tag := e.1.tag, at_ := some e.2 }

/-- TAKE_FAIL (R25, R401): once the writes that a failed take issued have performed and its messages are PACKed or
lost, its records are written, its UNCOND actions run, and its colour returns. -/
def execTakeFail (tid : Nat) (s : State) : Out :=
  .next <|
    match s.take tid with
    | none => s
    | some t =>
      let writes := s.planes.any fun e => e.2.memq.any fun o => o.tid == tid && o.isWrite
      if !t.failing || writes || s.openMsgs tid || !s.groupServed t then s
      else
        let s := if t.shadow then s else s.failRecords t
        let s := s.fold [t.slate.act0, t.slate.act1] fun s a => if actUncond a then s.runAction t a else s
        let s := (s.callDone t 2).frTakeOver t false
        (s.takeLeaves t).leftUnresolved t

/-! ## LATENCY (R274) -/

/-- The bound B_c, E_c and M_c of a take's class. -/
def State.boundOf (t : Take) : Option (Nat × Nat × Nat) :=
  ((s.job t.job).bind fun j => j.contract[t.region / 256 % 8]?).bind fun c => c.bound[t.slate.prio]?

/-- Bits 1 to 5 of a cause mask: the lowest one set, 0 for none. -/
def lowestCause (m : BitVec 8) : Nat := ((List.range 8).find? fun r => m.getLsbD r).getD 0

/-- LATENCY (R274): a take that has outlived B_c is recorded once and runs on. -/
def execLatency (tid : Nat) (s : State) : Out :=
  .next <|
    match s.take tid with
    | none => s
    | some t =>
      match s.boundOf t with
      | none => s
      | some (b, e, _) =>
        if t.late || t.shadow || t.colour == 15 || s.clk < t.born + b then s
        else
          let m := if t.issue.any fun x => e < x.2 then t.causes ||| (1#8 <<< 1) else t.causes
          let r := lowestCause m
          let s := s.modTake tid fun t => { t with late := true, causes := m }
          s.postTake t
            { cls := 2, act := if r == 1 then 2 else 0, code := 0x1404, unit := unitOfNum (t.region / 256 % 8) 0 0x14,
              detail := r + m.toNat * 256 }

/-! ## Quiescence and deadlock (R30, R31, R393) -/

/-- The firing of a plane counts as running: it can issue, or time alone ends its wait (R30). One whose next instruction needs the
result of an earlier one waits for that (R78): a memory operation counts by itself, a matrix operation while it executes. -/
def State.firingRuns (pid : Nat) : Bool :=
  let p := s.plane pid
  let w := p.firing.wait
  p.running && (w == .idle || w == .yield || (w == .none && !s.interlocked pid))

/-- A started matrix operation executes: it does not wait for a release that the drain before it holds back (R153, R159). -/
def Plane.matRuns (p : Plane) : Bool :=
  p.mq.any fun o => o.started && !((p.mat o.hand).release.isSome && (p.mat o.hand).drain.isSome)

/-- A message is outstanding on a die, at its source or at its destination (R30). -/
def State.movesOn (m : Msg) (die : Nat) : Bool :=
  if m.srcEp == s.pkg.endpoint then
    (m.die == die || (m.dstEp == s.pkg.endpoint && m.dstDie == die)) && !m.packed && !m.lostM
  else m.dstDie == die && !m.performed && !m.aborted

/-- A context of a streamer has writes of a job outstanding: sectors of the point that it is writing (R30, R244). -/
def Stream.writing (st : Stream) (job : Nat) : Bool := st.job == job && !st.walk.sectors.isEmpty

/-- No firing of a job starts, issues or executes, and nothing of it moves or is outstanding, on a die, and nothing has for
4,096 clk (R30, R31). Where no take of the job is outstanding there, no firing of it may wait there either (R31). -/
def State.quietOn (job die : Nat) : Bool :=
  let at_ := ((s.job job).map fun j => look 0 j.active die).getD 0
  let out := s.outstanding job die
  at_ + 4096 ≤ s.clk
    && s.planes.all (fun e => dieOf e.1 != die
        || (e.2.memq.all (fun o => o.job != job)
          && (e.2.job != job
            || (!(s.firingRuns e.1 || (e.2.running && !out)) && (out || e.2.ownParks.isEmpty) && !e.2.matRuns))))
    && s.slices.all (fun e => e.1 / 64 != die || e.2.streams.all fun x => !x.2.writing job)
    && s.msgs.all (fun m => !(m.job == job && s.movesOn m die))
    && (s.die die).misses.all (fun m => m.job != job)

/-- Dies of a job (R31). -/
def Job.dies (j : Job) : List Nat := (List.range 8).filter fun d => j.diemask / 2 ^ d % 2 == 1

/-- Every die of the job in the package is quiet, and one is locally quiescent (R31). -/
def State.stalled (j : Job) : Bool :=
  j.dies.all (fun d => s.quietOn j.id d) && j.dies.any fun d => s.outstanding j.id d

/-- What a waiting firing awaits: WAIT, handle and count of R393. -/
def State.awaits (pid : Nat) (f : Firing) : Nat × Nat × Nat :=
  match f.wait with
  | .claim =>
    let q := s.rings.findSome? fun e => e.2.queue.findSome? fun q => match q.who with
      | .firing p fid h => if p == pid && fid == f.fid then some (h, q.nw) else none
      | _ => none
    match q with | some (h, n) => (2, h, min n 63) | none => (7, 0, 0)
  | .window =>
    match { s with cur := pid }.fetchStage with
    | .rld o | .rpeek o | .await o | .retire o | .radv o => (1, o.h.toNat, o.nw.toNat)
    | _ => (7, 0, 0)
  | .bar => (3, 0, 0)
  | .twait => (4, 0, 0)
  | _ => (7, 0, 0)

/-- A detail entry for a blocked cell, with its place in the order (R393). -/
def blockedAt (pid colour n : Nat) (w : Nat × Nat × Nat) : Nat × Nat :=
  let core := coreOf pid
  let cell := cellInCore (cellNoOf pid)
  (((core * 16 + cell) * 4 + planeNoOf pid) * 1024 + n,
    core / 16 * 2 ^ 29 + core % 16 * 2 ^ 25 + cell * 2 ^ 21 + planeNoOf pid * 2 ^ 19 + colour % 16 * 2 ^ 15
      + w.2.1 % 16 * 2 ^ 11 + w.2.2 % 64 * 2 ^ 5 + w.1)

/-- What a plane's queued work awaits: the window of its first operation that has still to take one, or what a release buffer waits
for. -/
def Plane.workAwaits (p : Plane) : Option (Nat × (Nat × Nat × Nat)) :=
  match p.mq.find? fun o => o.useH && !o.took, p.user.drain, p.handler.drain with
  | some o, _, _ => some (o.colour, (1, o.h, o.nw))
  | none, some d, _ | none, none, some d => some (d.colour, (7, 0, 0))
  | none, none, none => none

/-- The blocked cells of a job: waiting firings, ownership parks, cells in which only queued matrix work is blocked, and contexts in
WAITW at their region's cell 0. -/
def State.blocked (job : Nat) : Tab Nat :=
  let l := s.planes.flatMap fun e =>
    if e.2.job != job then []
    else
      let firing := e.2.running && !s.firingRuns e.1
      (if firing then [blockedAt e.1 e.2.firing.colour 0 (s.awaits e.1 e.2.firing)] else [])
        ++ (if firing || !e.2.ownParks.isEmpty then []
          else (e.2.workAwaits.map fun w => blockedAt e.1 w.1 800 w.2).toList)
        ++ (e.2.ownParks.zip (List.range e.2.ownParks.length)).map fun k =>
          blockedAt e.1 k.1.firing.colour (k.2 + 1) (6, 0, 0)
  let w := s.takes.filterMap fun e =>
    let t := e.2
    let c := s.ctx t.ctx
    if t.job == job && c.tid == t.tid && c.state == .window then
      (s.region t.region).map fun r => blockedAt (r.cell0 r.image.plane) t.colour (900 + t.colour) (5, 0, 0)
    else none
  (l ++ w).foldl (fun t e => ins t e.1 e.2) []

/-- Lists of eight. -/
def eights : Nat → List Nat → List (List Nat)
  | 0, _ => []
  | n + 1, l => if l.isEmpty then [] else l.take 8 :: eights n (l.drop 8)

/-- The records of a deadlock (R31, R393); without a blocked cell one record names the detector. -/
def State.declareDeadlock (j : Job) : State :=
  let l := (s.blocked j.id).map (·.2)
  let base : RecInfo :=
    { cls := 4, act := actOf 0x1501 4, code := 0x1501, unit := unitOfNum (j.dies.headD 0) 0 0x15, job := j.id,
      tag := s.clk % 2 ^ 48 }
  let groups := if l.isEmpty then [[]] else eights l.length l
  s.fold groups fun s g =>
    let detail := g.foldr (fun x acc => x % 2 ^ 32 + 2 ^ 32 * acc) 0
    match g with
    | [] => s.failJob base
    | x :: _ =>
      let die := x / 2 ^ 29
      let cell := cellAt (x / 2 ^ 25 % 16) (x / 2 ^ 21 % 16)
      let w := x % 32
      let pid := pidOf die cell (x / 2 ^ 19 % 4)
      s.failJob { base with
        unit := unitOfCell die cell (if w == 1 || w == 2 then 3 else 0)
        plane := x / 2 ^ 19 % 4
        colour := x / 2 ^ 15 % 16
        region := (s.plane pid).region
        detail }

/-- Other packages that a job spans, by endpoint. -/
def State.otherPackages (j : Job) : List Nat := (j.endpoints.map (·.1)).filter fun e => e != s.pkg.endpoint

/-- Every package has reported, over intervals that overlap (R31). -/
def State.allReported (j : Job) : Bool :=
  (s.pkg.endpoint :: s.otherPackages j).all fun e =>
    j.reports.any fun r => r.1 == e && j.reports.all fun q => r.2 < q.2 + 4096 && q.2 < r.2 + 4096

/-- A package's report replaces its earlier one; the job is deadlocked once all reports overlap (R31). -/
def State.reportStall (job endpoint : Nat) : State :=
  let s := s.modJob job fun j => { j with reports := (j.reports.filter fun r => !(r.1 == endpoint)) ++ [(endpoint, s.clk)] }
  match s.job job with
  | none => s
  | some j => if !j.stopped && s.allReported j then s.declareDeadlock j else s

/-- DEADLOCK (R31): the detectors find the job stalled; a job of several packages is reported to the others first. -/
def execDeadlock (job : Nat) (s : State) : Out :=
  .next <|
    match s.job job with
    | none => s
    | some j =>
      if j.stopped || j.ended || !s.stalled j then s
      else if (s.otherPackages j).isEmpty then s.declareDeadlock j
      else s.reportStall job s.pkg.endpoint

/-- LOCAL_DEADLOCK_REPORT (R31): another package that the job spans reports local deadlock. -/
def execLocalDeadlockReport (job pkg : Nat) (s : State) : Out :=
  .next <|
    match s.job job with
    | none => s
    | some j => if (s.otherPackages j).contains pkg && !j.stopped then s.reportStall job pkg else s

/-! ## Paired comparators (R330, R331) -/

/-- The first granule of the primary whose twin take has committed one: the two entries and the take (R330). -/
def State.nextPair (e : Exit) : Option ((Nat × Nat × Nat) × (Nat × Nat × Nat) × Take) :=
  e.prim.findSome? fun x => (s.take x.1).bind fun t =>
    (e.shad.find? fun y => y.1 == t.twin).map fun y => (x, y, t)

/-- The 64 data bytes and the sidebands agree, COLOUR excepted (R330). -/
def State.pairAgrees (e : Exit) (n m : Nat) : Bool :=
  match s.ring e.ring, s.ring e.shadowRing with
  | some r, some q => s.gran r n == s.gran q m && (s.side r n).toNat / 16 == (s.side q m).toNat / 16
  | _, _ => false

/-- Fences a cell that committed a differing granule (R331). -/
def State.fenceCell (cid : Nat) : State :=
  let s := s.modCell cid fun c => { c with fenced := true }
  s.post { cls := 5, act := actOf 0x1421 5, code := 0x1421, unit := unitOfCell (cid / 256) (cid % 256) 0 }

/-- A pair differs: both twins are purged and reissued; a second mismatch of a reissued pair quarantines the cells and
fails the take (R331). -/
def State.pairDiffers (e : Exit) (x y : Nat × Nat × Nat) (t : Take) : State :=
  if t.failing then s
  else if t.pairOf == 0 then s.purgeAs t.tid false 0x1420 (unitOfCell (e.comparator / 256) (e.comparator % 256) 3)
  else
    let s := s.fold (if x.2.2 == y.2.2 then [x.2.2] else [x.2.2, y.2.2]) State.fenceCell
    let s := s.fold (s.withTwin e.region) fun s k => s.modRegion k fun r => { r with condemned := true }
    s.failTake t.tid 0x1421 (unitOfNum (t.region / 256 % 8) 0 0x14) 0 0

/-- COMPARATOR_PAIR (R330, R331): the comparator of a region's exit compares the next pair; a match is passed, or
dropped where the purged pair had passed it. -/
def execComparatorPair (region exit : Nat) (s : State) : Out :=
  .next <|
    match (s.exits.filter fun e => e.region == region && !(s.die (e.comparator / 256)).fenced)[exit]? with
    | none => s
    | some e =>
      match s.nextPair e with
      | none => s
      | some (x, y, t) =>
        if !s.pairAgrees e x.2.1 y.2.1 then s.pairDiffers e x y t
        else
          let again := t.pairOf != 0 && look 0 e.drop t.tid < look 0 e.passed t.pairOf
          let e' := { e with
            prim := e.prim.erase x
            shad := e.shad.erase y
            passed := if again then e.passed else ins e.passed t.tid (look 0 e.passed t.tid + 1)
            drop := if again then ins e.drop t.tid (look 0 e.drop t.tid + 1) else e.drop }
          let s := { s with exits := s.exits.map fun q => if q == e then e' else q }
          let s := if again then s.retireAll e.ring [x.2.1] else s.fillRaw e.ring [x.2.1]
          ((s.retireAll e.shadowRing [y.2.1]).reclaim e.ring).reclaim e.shadowRing

end Sys2Proof.Machine
end

