-- ==== Sys2Proof/Machine/Messages.lean ====
section
/-!
DEFINITION. Messages: fragments, identifiers, resending and loss, performing, bridges, and the message instructions
(13_messages, R290 to R317). What another package sends comes as an operand of its event: another package is an agent outside the
model (log 23, 24).
-/
namespace Sys2Proof.Machine

variable (s : State)

/-! ## Fragments under way -/

/-- Traffic of a destination entry (R298). -/
def State.dstTraffic (die ep ed : Nat) : State :=
  s.modDie die fun d => { d with dsts := d.dsts.map fun x => if x.ep == ep && x.die == ed then { x with last := s.clk } else x }

/-- Counts fragments reported lost by the classes of a die (R298, R306). -/
def State.countLost (d : Nat) (l : List (Nat × Nat)) : State :=
  s.fold l fun s e => s.modClass d e.1 fun c => { c with lost := c.lost + e.2, frameLost := c.frameLost + e.2 }

/-- A fragment leaves the wire at the end of its path, its last port crossed. The report of an acknowledgement counts once,
whichever copy arrives first (R298). -/
def State.landed (idx : Nat) (f : Frag) : State :=
  let s := { s with wire := s.wire.eraseIdx idx }
  let s := match f.ports with
    | [] => s
    | p :: _ => s.portLeft f p
  if f.ack == 0 || f.dstEp != s.pkg.endpoint then s
  else
    let s := s.countLost f.dstDie f.report
    { s with wire := s.wire.map fun (g : Frag) => if g.ack == f.ack then { g with report := [] } else g }

/-- A bridge context of a die, and a change of it. -/
def State.bridge (die b : Nat) : Option Bridge := find (s.die die).bridges b
def State.modBridge (die b : Nat) (f : Bridge → Bridge) : State :=
  s.modDie die fun d => { d with bridges := match find d.bridges b with | some x => ins d.bridges b (f x) | none => d.bridges }

/-! ## Sending (R296) -/

/-- FRAGMENT_SEND (R296): the next fragment of a message, in index order, comes to the first port of its path. -/
def execFragmentSend (msg : Nat) (s : State) : Out :=
  .next <|
    match s.msgs[msg]? with
    | none => s
    | some m =>
      match m.todo, m.paths with
      | n :: _, p :: ps =>
        let path := ((p :: ps)[m.pos % (ps.length + 1)]?).getD p
        let (s, ext) := s.turnPort m.die (s.targetOf m.job m.dstEp m.dstDie) path
        let s := s.putFrag
          { die := m.die, ports := portsTo m.die m.dstDie path ext, mid := m.mid, msgid := m.msgid, srcEp := s.pkg.endpoint,
            dstEp := m.dstEp, dstDie := m.dstDie, idx := n, k := m.k, mcode := m.mcode, ord := m.ord, cls := m.cls,
            ftype := if m.kind == 2 then 1 else 0, len := m.data.length, job := m.job,
            payload := BitVec.ofNat 2048 (leNat (m.fragBytes n)) }
        let s := s.modMsg m.mid fun m => { m with todo := m.todo.drop 1, pos := m.pos + 1, lastSent := s.clk }
        let s := s.modClass m.die m.cls fun c => { c with sent := c.sent + 1, frameSent := c.frameSent + 1 }
        s.dstTraffic m.die m.dstEp m.dstDie
      | _, _ => s

/-! ## Recovery of data fragments (R294) -/

/-- The entry for data fragment `y` and parity fragment `x` of the inverse of the Cauchy matrix of rows `xs` and columns `ys`, as
field elements. -/
def cauchyInverse (xs ys : List Nat) (x y : Nat) : Nat :=
  let prod (l : List Nat) (g : Nat → Nat) : Nat := l.foldl (fun a e => gmul a (g e)) 1
  gmul (gmul (prod ys fun e => x ^^^ e) (prod xs fun e => e ^^^ y))
    (ginv (gmul (x ^^^ y) (gmul (prod (xs.filter fun e => e != x) fun e => x ^^^ e) (prod (ys.filter fun e => e != y) fun e => y ^^^ e))))

/-- The sum of products of byte lists with field elements. -/
def gsum (l : List (Nat × List Byte)) : List Byte :=
  l.foldl (fun acc e => (acc.zip e.2).map fun x => BitVec.ofNat 8 (x.1.toNat ^^^ gmul e.1 x.2.toNat)) (List.replicate 256 0)

/-- The message that `k` of its fragments determine: data fragments as they came, the missing ones from as many parity fragments
(R294). -/
def recoverData (k len : Nat) (frags : List (Nat × BitVec 2048)) : List Byte :=
  let got := fun (n : Nat) => (frags.find? fun g => g.1 == n).map fun g => leBytes 256 g.2.toNat
  let missing := (List.range k).filter fun j => (got j).isNone
  let parity := ((List.range 4).filter fun i => (got (k + i)).isSome).take missing.length
  let ys := missing.map fun j => 4 + j
  -- what each parity fragment says of the missing data alone
  let rhs := parity.map fun i =>
    (i, gsum ((1, (got (k + i)).getD []) :: (List.range k).filterMap fun j => (got j).map fun b => (cauchy i j, b)))
  let data := fun (j : Nat) => match got j with
    | some b => b
    | none => gsum (rhs.map fun e => (cauchyInverse parity ys e.1 (4 + j), e.2))
  ((List.range k).flatMap data).take len

/-! ## At the destination (R297 to R299) -/

/-- The error detail of a message: MSGID, then SRC or DST (R316). -/
def msgDetail (msgid ep die : Nat) : Nat := msgid % 2 ^ 32 + (ep % 2 ^ 22 + die % 8 * 2 ^ 22) * 2 ^ 32

/-- The decoding port as a port. -/
def decodingPort (d port : Nat) : Port := if d < 8 then .die d port else .ext port

/-- A message of an entry's source that leaves its window as H moves to `id`, no fragment of it having arrived: all of them count
as lost (R298). -/
def State.unseen (e : SrcEntry) (d id : Nat) : List Msg :=
  let e' := { e with high := id }
  s.msgs.filter fun m => m.srcEp == e.srcEp && m.die == e.srcDie && m.dstEp == s.pkg.endpoint
    && s.decodes m == (d, e.port) && !m.inside s.pkg.endpoint
    && !e.below m.msgid && e'.below m.msgid && (find e.ids m.msgid).isNone

/-- A higher identifier moves H forward; what leaves the window owes its missing fragments (R298). -/
def State.raise (e : SrcEntry) (d id : Nat) : SrcEntry :=
  if serialLe id e.high then e
  else
    let e' := { e with high := id }
    let out := (e.ids.filter fun x => e'.below x.1).map fun x => (x.2.cls, x.2.missing.length)
    { e' with
      ids := e.ids.filter fun x => !e'.below x.1
      owed := (out ++ (s.unseen e d id).map fun m => (m.cls, m.total)).foldl
        (fun t x => put 0 t x.1 (look 0 t x.1 + x.2)) e.owed }

/-- Sets the state of an identifier at the destination (R298). -/
def State.setId (m : Msg) (st : IdState) : State :=
  match s.srcEntry m with
  | none => s
  | some e =>
    let old := (find e.ids m.msgid).getD { state := st, cls := m.cls, missing := List.range m.total }
    s.putSrc (s.decodes m).1 { e with ids := ins e.ids m.msgid { old with state := st } }

def RxSlot.holds (x : RxSlot) (mid : Nat) : Bool := x.mid == mid
def State.dropSlot (m : Msg) : State :=
  s.modDie (s.decodes m).1 fun x => { x with slots := x.slots.filter fun y => !y.holds m.mid }

/-- The k-th fragment of a message is there: it is decoded, its slot is freed, and DACK goes back (R297, R299). The data of a
message of another package are what the slot's fragments determine; those of one of this package are its own (R294). -/
def State.decoded (m : Msg) (x : RxSlot) : State :=
  let own := m.srcEp == s.pkg.endpoint
  let s := ((s.dropSlot m).setId m .done).modMsg m.mid fun m =>
    { m with decoded := true, data := if own then m.data else recoverData x.k m.data.length x.frags }
  s.acknowledge m 1 []

/-- A data fragment reaches its decoding port: it is late, discarded for want of room, or joins a slot (R297, R298). -/
def State.receive (f : Frag) (m : Msg) : State :=
  let (d, port) := s.decodes m
  let full := s.modDie d fun x => { x with bufDropped := x.bufDropped + 1 }
  let srcs := (s.die d).srcs.filter fun e => e.port == port
  match s.srcEntry m with
  | none =>
    if 1024 ≤ srcs.length || 512 ≤ ((s.die d).slots.filter fun x => x.port == port).length then full
    else start s d port { port, srcEp := m.srcEp, srcDie := m.die, high := f.msgid }
  | some e =>
    let late := fun (s : State) => s.modDie d fun x => { x with lateDropped := x.lateDropped + 1 }
    if e.below f.msgid then late (s.putSrc d e)
    else
      match find e.ids f.msgid with
      | some x =>
        let s := s.putSrc d { e with ids := ins e.ids f.msgid { x with missing := x.missing.erase f.idx } }
        if x.state != .open_ then late s else join s d
      | none =>
        if 512 ≤ ((s.die d).slots.filter fun x => x.port == port).length then full else start s d port (s.raise e d f.msgid)
where
  /-- The fragment joins its message's slot; the k-th decodes it. -/
  join (s : State) (d : Nat) : State :=
    let add := fun (x : RxSlot) =>
      if x.holds m.mid && !(x.frags.any fun g => g.1 == f.idx) then { x with frags := x.frags ++ [(f.idx, f.payload)] } else x
    let s := s.modDie d fun x => { x with slots := x.slots.map add }
    match (s.die d).slots.find? fun x => x.holds m.mid with
    | some x => if x.k ≤ x.frags.length then s.decoded m x else s
    | none => s
  /-- The first fragment of a message opens a slot. -/
  start (s : State) (d port : Nat) (e : SrcEntry) : State :=
    let id : IdEntry := { state := .open_, cls := f.cls, missing := (List.range m.total).erase f.idx }
    let s := s.putSrc d { e with ids := ins e.ids f.msgid id }
    let x : RxSlot := { port, mid := m.mid, msgid := f.msgid, srcDie := f.die, k := f.k, opened := s.clk }
    join (s.modDie d fun y => { y with slots := y.slots ++ [x] }) d

/-! ## Fragments of other packages (R297, R316) -/

/-- A fragment as its 288 bytes say, where they are those of a data fragment: its control fields, its K and LEN, and its CHECK
(R295). -/
def fragOf (bs : List Byte) : Option Frag :=
  let num (a n : Nat) : Nat := numAt bs a n
  let flags := num 14 1
  let f : Frag :=
    { die := num 4 4 / 2 ^ 22 % 8, mid := 0, msgid := num 0 4, srcEp := num 4 4 % 2 ^ 22, dstEp := num 8 4 % 2 ^ 22,
      dstDie := num 8 4 / 2 ^ 22 % 8, idx := num 12 1, k := num 13 1 % 32, mcode := flags % 4, ord := flags / 4 % 2 == 1,
      cls := flags / 8 % 8, ftype := flags / 64, hops := num 15 1, len := num 16 2, job := num 18 2,
      check := BitVec.ofNat 32 (num 24 4), payload := BitVec.ofNat 2048 (num 32 256) }
  if bs.length == 288 && f.ftype == 0 && 1 ≤ f.len && f.len ≤ 4096 && f.k == (f.len + 255) / 256
      && f.idx < f.k + mOf f.mcode && 1 < f.hops && f.check == f.crc then some f else none

/-- The message that a first fragment of another package begins: its fields, and the addresses and the action of its descriptor
(R300, R301; log 24). A reply goes where the request's descriptor says, for the take that asked. Its source side lies in the
other package. -/
def State.messageOf (x : Inbound) (f : Frag) : Msg :=
  let d := x.desc
  let asked := s.msgs.find? fun m => m.kind == 1 && m.srcEp == s.pkg.endpoint && m.dstEp == f.srcEp && m.dstDie == f.die
    && m.die == f.dstDie && m.laddr == recNum d 16 8
  { mid := s.serial, srcEp := f.srcEp, die := f.die, dstEp := f.dstEp, dstDie := f.dstDie, job := f.job,
    tid := if x.reply then (asked.map Msg.tid).getD 0 else 0, pid := 0, cls := f.cls,
    kind := if x.reply then 3 else fld d 0 2 % 2, ord := f.ord, data := List.replicate f.len 0,
    len := if x.reply then f.len else recNum d 2 2, raddr := recNum d (if x.reply then 16 else 8) 8, laddr := recNum d 16 8,
    lv := fld d 200 1 == 1, lctr := recNum d 24 1, ract := if x.reply then 0 else fld d 201 2, rctr := fld d 208 12,
    msgid := f.msgid, mcode := f.mcode, dacked := true, packed := true, pred := if f.ord then x.pred else none }

/-- A fragment of another package arrives at an external port. One that the port's checks refuse is lost; one for a job that this
package does not hold is answered so; any other joins its message, which the first of them begins (R295, R297, R298, R316). -/
def State.arriveOutside (x : Inbound) : State :=
  match fragOf x.bytes with
  | none => s
  | some f =>
    if f.srcEp == s.pkg.endpoint || f.dstEp != s.pkg.endpoint || s.pkg.extDown.contains x.port then s
    else
      let new := s.messageOf x f
      if !((s.job f.job).map fun j => j.diemask / 2 ^ f.dstDie % 2 == 1).getD false then
        s.sendCtl new f.dstDie f.srcEp f.die 8 [] [] f.msgid
      else
        let known := ((s.srcEntry new).bind fun e => find e.ids f.msgid).isSome
        match (if known then (s.msgs.filter fun m => m.srcEp == f.srcEp && m.die == f.die && m.dstDie == f.dstDie
            && m.msgid == f.msgid).getLast? else none) with
        | some m => s.receive f m
        | none =>
          let t := { s.bump with msgs := s.msgs ++ [new] }.receive f new
          if (t.msgOf new.mid).map (fun m => m.decoded) == some true
              || (t.die (s.decodes new).1).slots.any (fun y => y.holds new.mid) then t
          else { t with msgs := t.msgs.filter fun m => !(m.mid == new.mid) }

/-- FRAGMENT_ARRIVE (R295, R297): a fragment goes on to its next port; at the end of its path a data fragment, a GRANT or a BREAK
reaches its place, and one for another package leaves. A fragment of another package comes to an external port. -/
def execFragmentArrive (frag : Nat ⊕ Inbound) (s : State) : Out :=
  .next <|
    match frag with
    | .inr x => s.arriveOutside x
    | .inl idx =>
      match s.wire[idx]? with
      | none => s
      | some f =>
        if !s.mayCross f then s
        else
          match f.ports with
          | p :: q :: rest => s.hop idx f p (q :: rest)
          | [_] | [] =>
            if f.dstEp != s.pkg.endpoint then s.landed idx f
            else if f.ctl == 6 || f.ctl == 7 then
              -- a control fragment of a bridge: `mid` names the bridge of the sending die
              let b := f.mid - 2 ^ 64
              let s := s.landed idx f
              if f.ctl == 6 then s.modBridge f.dstDie b fun x => { x with grant := max x.grant f.arg }
              else s.modBridge f.die b fun x => { x with broken := some f.arg }
            else if f.ctl != 0 then s
            else
              match s.msgOf f.mid with
              | none => s.landed idx f
              | some m => (s.landed idx f).receive f m

/-- FRAGMENT_DISCARD (R295): a port drops a fragment; a fragment inside a die passes no port. -/
def execFragmentDiscard (idx : Nat) (s : State) : Out :=
  .next <|
    match s.wire[idx]? with
    | none => s
    | some f => if f.ports.isEmpty then s else { s with wire := s.wire.eraseIdx idx }

/-! ## Timeouts at the destination (R299) -/

/-- The slot of an event, its message, and whether its timer has run out. -/
def State.timedOut (die slot : Nat) : Option (RxSlot × Msg) :=
  (s.die die).slots[slot]?.bind fun x => if x.opened + (s.die die).tout ≤ s.clk then (s.msgOf x.mid).map fun m => (x, m) else none

/-- NACK_TIMEOUT (R299 step 2): the first timeout lists the missing fragments and restarts the timer. -/
def execNackTimeout (die slot : Nat) (s : State) : Out :=
  .next <|
    match s.timedOut die slot with
    | none => s
    | some (x, m) =>
      if x.timeouts != 0 then s
      else
        let miss := (List.range m.total).filter fun n => !(x.frags.any fun g => g.1 == n)
        let s := s.modDie die fun d =>
          { d with slots := d.slots.map fun y => if y == x then { y with timeouts := 1, opened := s.clk } else y }
        let s := match s.srcEntry m with
          | none => s
          | some e => match find e.ids x.msgid with
            | none => s
            | some i => s.putSrc die { e with ids := ins e.ids x.msgid { i with missing := [] } }
        s.acknowledge m 3 miss

/-- SLOT_ABORT_TIMEOUT (R299 step 4): the second timeout discards the slot. -/
def execSlotAbortTimeout (die slot : Nat) (s : State) : Out :=
  .next <|
    match s.timedOut die slot with
    | none => s
    | some (x, m) =>
      if x.timeouts == 0 then s
      else
        let s := ((s.dropSlot m).setId m .aborted).modMsg m.mid fun m => { m with aborted := true }
        let s := s.post { cls := 2, act := actOf 0x1703 2, code := 0x1703, unit := (decodingPort die x.port).unit, job := m.job,
                          detail := msgDetail x.msgid m.srcEp x.srcDie }
        s.acknowledge m 4 []

/-! ## Performing: reads, writes and actions (R301, R302) -/

/-- The first page of a range that the destination's cache does not translate. -/
def State.msgMiss (m : Msg) (va n access : Nat) : Option Nat :=
  ((List.range (pagesOf va n)).map fun i => if i == 0 then va else va / 65536 * 65536 + i * 65536).find? fun a =>
    (s.tlbFind m.slice (s.asid m.job) a (needsWrite access)).isNone

/-- Acts once every page of a range is translated; a miss asks the walker (R302, R336). One that waits for the service of a pending
fault stays stalled, and its take has met cause 2 (R274, R339). -/
def State.withMsgPages (m : Msg) (va n access : Nat) (body : State → State) : State :=
  match s.msgMiss m va n access with
  | none =>
    let pages := (List.range (pagesOf va n)).map fun i => if i == 0 then va else va / 65536 * 65536 + i * 65536
    body (s.fold pages fun s a => s.useXlate m.slice m.job a access)
  | some a =>
    let t := s.joinMiss m.slice m.job a access (.message m.mid)
    match t.missLook m.slice (.message m.mid) with
    | .faulted => (t.cause m.tid 2).modMsg m.mid fun m => { m with stalled := true }
    | .full | .queued => t

/-- A message's writes perform, line by line, and the bytes that count in windows add up; `n` bounds the lines
(R302, R219). R302 lets the sectors of a message perform in any order, one by one: here they perform in rising order, in one step
(DESIGN CHOICE, log 59). -/
def State.msgWrites (m : Msg) : Nat → State → Nat → List Byte → State
  | 0, s, _, _ => s
  | n + 1, s, va, bs =>
    if bs.isEmpty then s
    else
      let c := bs.take (64 - va % 64)
      let hits := (s.windowHits m.job va c.length).foldl (fun k h => k + h.2) 0
      let s := match s.msgPlace m va with
        | none => s
        | some p =>
          (s.performWrite { key := p.key, home := p.die * 64 + p.slice, data := c, job := m.job, va, tid := 0, writer := 0 }).modMsg
            m.mid fun m => { m with counted := m.counted + hits }
      State.msgWrites m n s (va + c.length) (bs.drop c.length)

/-- Bytes that a message reads at its destination. -/
def State.msgBytes (m : Msg) (va n : Nat) : List Byte :=
  (List.range n).map fun i => match s.msgPlace m (va + i) with | some p => s.byte p.key | none => 0

/-- A line of the range is unreadable (R389). -/
def State.msgBad (m : Msg) (va n : Nat) : Bool :=
  (List.range n).any fun i => match s.msgPlace m (va + i) with
    | some p => s.unreadable (p.die * 64 + p.slice) p.key
    | none => false

/-- A message waits at a slice that does not serve its job yet (R272). -/
def State.msgWaits (m : Msg) : Bool := (s.msgHomes m).any fun home => !s.served home m.job

/-- RACT takes effect on the destination die (R300, R302). -/
def State.remoteAct (m : Msg) : State :=
  if m.ract == 1 then s.addTimeline m.dstDie m.rctr 1 else if m.ract == 2 then s.decDep m.dstDie m.rctr 1 else s

/-- Every write of a message has performed: a PUT's RACT takes effect, a reply adds to LCTR, and PACK goes back (R301, R302). -/
def State.writesPerformed (mid : Nat) : State :=
  match s.msgOf mid with
  | none => s
  | some m =>
    let s := if m.kind != 3 then s.remoteAct m else if m.lv then s.addTimeline m.dstDie m.lctr 1 else s
    s.performed m

/-! ## Writes that travel on (R297), and accesses of the host (R364) -/

/-- The parts of a message's bytes that lie in one page each: where a part begins, and its bytes. -/
def Msg.pieces (m : Msg) : List (Nat × List Byte) :=
  (List.range (pagesOf m.raddr m.data.length)).map fun i =>
    let at_ := if i == 0 then 0 else m.raddr / 65536 * 65536 + i * 65536 - m.raddr
    (at_, (m.data.drop at_).take (65536 - (m.raddr + at_) % 65536))

/-- The destination of a message to a home die, one of another package included (R291). -/
def homeEp (own die : Nat) : Nat := if die < 8 then own else podEp (die / 8 - 1)

/-- The class 7 message that carries a part of a message's writes from its decoding port to their home (R297). -/
def State.pieceAt (m : Msg) (p : Phys) (e : Nat × List Byte) : Msg :=
  { mid := 0, die := (s.decodes m).1, dstEp := homeEp s.pkg.endpoint p.die, dstDie := p.die % 8, job := m.job, tid := 0, pid := 0,
    cls := 7, kind := 5, ord := false, data := e.2, len := e.2.length, raddr := m.raddr + e.1, laddr := p.key, lv := false, lctr := 0,
    ract := 0, rctr := 0, msgid := 0, mcode := 0, access := m.mid }

/-- The writes of another package's message, translated, go on from its decoding port as messages of class 7 (R297): one for each
page that they lie in (log 24). -/
def State.carry (m : Msg) : State :=
  let l := m.pieces.filterMap fun e => (s.msgPlace m (m.raddr + e.1)).map fun p => s.pieceAt m p e
  let room := l.all fun x =>
    s.mayIssueAll (l.filter fun y => y.dstEp == x.dstEp && y.dstDie == x.dstDie).length x.die x.dstEp x.dstDie m.data.length
  if room then (s.fold l State.launch).modMsg m.mid fun m => { m with carried := true } else s

/-- The writes of a message of class 7 have performed: the message whose bytes it carries has performed with the last of them
(R297, R302). -/
def State.pieceDone (m : Msg) : State :=
  let s := s.modMsg m.access fun x => { x with counted := x.counted + m.counted }
  if s.msgs.any fun x => x.kind == 5 && x.access == m.access && !x.performed then s else s.writesPerformed m.access

/-- What a host access does at its home: a write performs, and a read takes the bytes, all ones for those of a poisoned line
(R364, R389). -/
def State.hostAct (m : Msg) : State :=
  if m.kind == 6 then State.msgWrites m 66 s m.raddr m.data
  else
    let get := fun (i : Nat) => if s.msgBad m (m.raddr + i) 1 then [0xFF] else s.msgBytes m (m.raddr + i) 1
    let s' := s.fold (s.msgHomes m) fun s home => s.charge home m.job 64
    s'.modMsg m.mid fun x => { x with data := (List.range m.data.length).flatMap get }

/-- A message of class 7 that an I/O die sent to another package has been answered: what it did there is modelled now (log 23). -/
def State.awayAnswered (m : Msg) : State :=
  if m.dstEp == s.pkg.endpoint then s
  else if m.kind == 5 then
    let s := (State.msgWrites m 66 s m.raddr m.data).modMsg m.mid fun m => { m with performed := true }
    s.pieceDone ((s.msgOf m.mid).getD m)
  else if m.fromHost then (s.hostAct m).modMsg m.mid fun m => { m with performed := true }
  else s

/-- The bytes that a read of the host has brought reach its link (R364). -/
def State.hostAnswered (m : Msg) : State :=
  if m.kind == 7 then s.modLink m.access fun k => { k with lastRead := ((s.msgOf m.mid).map Msg.data).getD [] } else s

/-- A read of the host that is lost brings bytes that the spec does not state (log 24). -/
def State.hostLost (m : Msg) : State :=
  let (s, v) := s.freeNum m.data.length
  s.modLink m.access fun k => { k with lastRead := leBytes m.data.length v }

/-! ## Resending and loss at the source (R299, R312) -/

/-- The takes that a message acts for: the one that issued it, or, for a stream message, those of its granules' colours in the
bridge's source region (R274, R309). -/
def State.actsFor (m : Msg) : List Nat :=
  if m.kind != 2 then [m.tid]
  else
    match find (s.die m.die).bridges (m.bridge % 64) with
    | none => []
    | some b =>
      let key := regionKey b.job m.die (recNum b.record 22 1)
      (List.range ((m.data.length - 128) / 64)).filterMap fun i =>
        (s.takeOf key (sideColour (BitVec.ofNat 16 (leNat ((m.data.drop (2 * i)).take 2))))).map Take.tid

/-- A message is resent or lost: each take that it acts for has met cause 4 (R274). -/
def State.messageDelay (m : Msg) : State := s.fold (s.actsFor m) fun s tid => s.cause tid 4

/-- Fragments are sent again, once for each message, with the mask now current (R296, R299). -/
def State.resend (m : Msg) (l : List Nat) : State :=
  let paths := s.pathsFor m.die m.cls (s.targetOf m.job m.dstEp m.dstDie)
  let s := s.modMsg m.mid fun m =>
    { m with paths, todo := if paths.isEmpty then [] else l, pos := 0, resent := true, lastSent := s.clk }
  (s.modClass m.die m.cls fun c => { c with resent := c.resent + 1 }).messageDelay m

/-- A source timer of a message has run out: all its fragments are sent and 3 TOUT have passed (R299). -/
def State.sourceLate (m : Msg) : Bool :=
  m.unresolved && !m.dacked && m.todo.isEmpty && decide (m.lastSent + 3 * (s.die m.die).tout ≤ s.clk)

/-- SOURCE_RESEND_TIMEOUT (R299 step 3). -/
def execSourceResendTimeout (msg : Nat) (s : State) : Out :=
  .next <|
    match s.msgs[msg]? with
    | none => s
    | some m => if s.sourceLate m && !m.resent then s.resend m (List.range m.total) else s

/-- SOURCE_ABORT_TIMEOUT (R299 step 5). -/
def execSourceAbortTimeout (msg : Nat) (s : State) : Out :=
  .next <|
    match s.msgs[msg]? with
    | none => s
    | some m =>
      if s.sourceLate m && m.resent && !m.aborting then
        (s.modMsg m.mid fun m => { m with aborting := true, abortAt := s.clk }).sendCtl m m.die m.dstEp m.dstDie 5 [] [] 0
      else s

/-- A firing that waits in XFLUSH goes on once its take's earlier messages are resolved (R314). -/
def State.wakeFlush (tid : Nat) : State :=
  let waits := fun (p : Plane) => p.running && p.firing.tid == tid && p.firing.wait == .xflush
    && s.msgs.all fun m => !(m.tid == tid && m.isPut && m.unresolved && decide (m.mid < p.firing.waitArg))
  { s with planes := mapTab (fun _ p => if waits p then { p with firing := p.firing.pass } else p) s.planes }

/-- The unit of a message's source: its first enabled port, a die port or an external one (R18, R316; log 24). -/
def State.msgUnit (m : Msg) : BitVec 16 :=
  let t := s.targetOf m.job m.dstEp m.dstDie
  let p := (s.pathsFor m.die m.cls t).headD 0
  (match extPort t p 0 with
  | none => Port.die m.die p
  | some x => Port.ext x).unit

/-- The take that issued a message parks, naming the message; ERET resumes nothing of it (R312, R161). -/
def State.sprayTrap (m : Msg) (unknown : Bool) : State :=
  match s.take m.tid with
  | none => s
  | some t =>
    if t.failing then s
    else
      let p := s.plane m.pid
      let mine := p.running && p.firing.tid == t.tid
      let pc : Word := if mine then w64 p.firing.pc else BitVec.allOnes 64
      let info : Word := w64 (2 ^ 63 + (if unknown then 2 ^ 62 else 0) + m.cls % 8 * 2 ^ 56 + m.msgid)
      let unit := s.msgUnit m
      let detail := msgDetail m.msgid m.dstEp m.dstDie
      let s := if mine then s.stopFiring m.pid else s
      let s := (s.holdTake t).parkTake t
      let s := s.modTake t.tid fun x =>
        { x with
          parked := x.parked ++ [parkedAt m.pid p pc]
          traps := insertTrap { cause := 9, pc, info, colour := t.colour, pid := m.pid, unit, time := s.clk, detail } x.traps }
      s.offerTrap t 9 unit 0 info detail

/-- The colour of the first granule of a stream message (R309). -/
def Msg.firstColour (m : Msg) : Nat := ((m.data.headD 0).toNat) % 16

/-- A message is outstanding no more at its source die and at a destination die of this package (R30). -/
def State.noteMsg (m : Msg) : State :=
  let s := s.note m.job m.die
  if m.dstEp == s.pkg.endpoint then s.note m.job m.dstDie else s

/-- The memory operation of a lost access of class 7 performs no more; the spec states no value for what a load or an atomic would
have read, and its register gets a free one (R291, R312; log 24). -/
def State.accessLost (m : Msg) : State :=
  match (s.plane m.pid).memq.find? fun o => o.isMsg m.pid m with
  | none => s
  | some o =>
    let s := s.opGone m.pid o
    if o.kind == .store then s
    else
      let (s, v) := s.freeNum o.size
      s.deliver m.pid o v

/-- SPRAYLOSS of a message (R299 step 6, R310, R312). -/
def State.sprayLoss (m : Msg) (unknown : Bool) : State :=
  let s := (s.modMsg m.mid fun m => { m with lostM := true, todo := [] }).modClass m.die m.cls fun c =>
    { c with spray := c.spray + 1 }
  let s := (s.noteMsg m).messageDelay m
  if m.kind == 2 then
    s.modBridge m.die (m.bridge % 64) fun x => if x.lost.isNone then { x with lost := some (m.firstColour, m.mid) } else x
  else ((if m.kind == 4 then s.accessLost m else if m.kind == 7 then s.hostLost m else s).sprayTrap m unknown).wakeFlush m.tid

/-- REJECT (R316): the destination holds no such job, and the issuing take fails. -/
def State.rejected (m : Msg) : State :=
  let s := (s.modMsg m.mid fun m => { m with lostM := true, todo := [] }).noteMsg m
  let s := s.failTake m.tid 0x1707 (s.msgUnit m) 0 (msgDetail m.msgid m.dstEp m.dstDie)
  s.wakeFlush m.tid

/-- A loss is held while the region of the issuing take is evicted (R317). -/
def State.lossHeld (m : Msg) : Bool :=
  match s.take m.tid with
  | none => false
  | some t => ((s.region t.region).map fun r => r.place != .eligible).getD false

/-- ABORT_UNANSWERED (R299 step 6). -/
def execAbortUnanswered (msg : Nat) (s : State) : Out :=
  .next <|
    match s.msgs[msg]? with
    | none => s
    | some m =>
      if m.aborting && m.unresolved && !m.dacked && decide (m.abortAt + 3 * (s.die m.die).tout ≤ s.clk) && !s.lossHeld m then
        s.sprayLoss m true
      else s

/-- An acknowledgement that arrives: a control fragment at the end of its path, or one of another package that names a message of
this one of which a fragment has been sent (log 23). Gives the state without it, the message, and the indices listed. -/
def State.ackAt (ctl : Nat) (frag : Nat ⊕ Answer) : Option (State × Msg × List Nat) :=
  match frag with
  | .inl idx =>
    (s.wire[idx]?).bind fun f =>
      if f.ctl == ctl && s.crosses f && f.dstEp == s.pkg.endpoint then
        (s.msgOf f.mid).map fun m => ((s.landed idx f).dstTraffic m.die m.dstEp m.dstDie, m, f.list)
      else none
  | .inr a =>
    (s.msgs.find? fun m => m.srcEp == s.pkg.endpoint && m.die == a.dstDie && m.dstEp == a.ep && m.dstDie == a.die
      && m.msgid == a.msgid && a.ep != s.pkg.endpoint && m.unresolved && decide (m.todo.length < m.total)).map fun m =>
      ((s.countLost m.die a.lost).dstTraffic m.die m.dstEp m.dstDie, m, a.list)

/-- DACK (R299 step 1): timers stop and the store is freed. -/
def execDack (frag : Nat ⊕ Answer) (s : State) : Out :=
  .next <|
    match s.ackAt 1 frag with
    | none => s
    | some (s, m, _) => s.modMsg m.mid fun m => if m.lostM then m else { m with dacked := true, todo := [] }

/-- PACK (R301, R302, R221): a PUT adds to LCTR, and counted window bytes touch the take. -/
def execPack (frag : Nat ⊕ Answer) (s : State) : Out :=
  .next <|
    match s.ackAt 2 frag with
    | none => s
    | some (s, m, _) =>
      if m.packed || m.lostM then s
      else
        let counted := (match frag with | .inl _ => m.counted != 0 | .inr a => a.counted)
        let s := (s.modMsg m.mid fun m =>
          { m with dacked := true, packed := true, todo := [], counted := if counted then max m.counted 1 else m.counted }).noteMsg m
        let s := if m.kind == 0 && m.lv then s.addTimeline m.die m.lctr 1 else if m.kind == 4 then s.accessAnswered m
          else (s.awayAnswered m).hostAnswered m
        let s := if counted then s.modTake m.tid fun t => { t with touched := true } else s
        s.wakeFlush m.tid

/-- NACK (R299 step 2): the listed fragments are sent again. -/
def execNack (frag : Nat ⊕ Answer) (s : State) : Out :=
  .next <|
    match s.ackAt 3 frag with
    | none => s
    | some (s, m, l) => if m.dacked || m.resent || !m.unresolved then s else s.resend m (l.filter fun n => n < m.total)

/-- LOSS (R299 step 6): the message is lost for certain. The answer that the destination holds no such job fails the take
(R316). -/
def execLoss (frag : Nat ⊕ Answer) (s : State) : Out :=
  .next <|
    match s.ackAt 4 frag with
    | none => s
    | some (s', m, _) =>
      if (match frag with | .inl _ => false | .inr a => a.reject) then s'.rejected m
      else if s.lossHeld m then s
      else if m.dacked || !m.unresolved then s' else s'.sprayLoss m false

/-- The message of another package that an ABORT of it names: a known one, or, where no fragment of it has arrived, one of which
only the identifier is known. -/
def State.abortedOutside (a : Answer) : State × Msg :=
  match (s.msgs.filter fun m => m.srcEp == a.ep && m.die == a.die && m.dstDie == a.dstDie && m.msgid == a.msgid).getLast? with
  | some m => (s, m)
  | none =>
    let m : Msg :=
      { mid := s.serial, srcEp := a.ep, die := a.die, dstEp := s.pkg.endpoint, dstDie := a.dstDie, job := a.job, tid := 0, pid := 0,
        cls := a.cls, kind := 0, ord := false, data := [], len := 0, raddr := 0, laddr := 0, lv := false, lctr := 0, ract := 0,
        rctr := 0, msgid := a.msgid, mcode := 0, dacked := true, packed := true }
    ({ s.bump with msgs := s.msgs ++ [m] }, m)

/-- An ABORT for a message (R299 step 5): a decoded one is answered DACK; any other becomes ABORTED, its slot is discarded, and it
is answered LOSS. -/
def State.abortMsg (m : Msg) : State :=
  let (d, port) := s.decodes m
  let give := fun (s : State) =>
    (((s.dropSlot m).setId m .aborted).modMsg m.mid fun m => { m with aborted := true }).acknowledge m 4 []
  if m.decoded then s.acknowledge m 1 []
  else
    match s.srcEntry m with
    | none =>
      if 1024 ≤ ((s.die d).srcs.filter fun e => e.port == port).length then s
      else give (s.putSrc d { port, srcEp := m.srcEp, srcDie := m.die, high := m.msgid })
    | some e => if e.below m.msgid then s else give (s.putSrc d (s.raise e d m.msgid))

/-- ABORT (R299 step 5), of this package or of another one. -/
def execAbort (frag : Nat ⊕ Answer) (s : State) : Out :=
  .next <|
    match frag with
    | .inr a =>
      if a.ep == s.pkg.endpoint || (s.job a.job).isNone then s
      else let (s, m) := s.abortedOutside a; s.abortMsg m
    | .inl idx =>
      match s.wire[idx]? with
      | none => s
      | some f =>
        match s.msgOf f.mid with
        | none => s
        | some m =>
          if f.ctl != 5 || f.dstEp != s.pkg.endpoint || !s.crosses f then s else (s.landed idx f).abortMsg m

/-- ENTRY_EXPIRE (R298): destination entries, then source entries, are freed after 4 ms and 2 ms without traffic. -/
def execEntryExpire (die idx : Nat) (s : State) : Out :=
  let d := s.die die
  .next <|
    match d.dsts[idx]? with
    | some e => if e.last + 7200000 ≤ s.clk then s.modDie die fun d => { d with dsts := d.dsts.eraseIdx idx } else s
    | none =>
      let i := idx - d.dsts.length
      match d.srcs[i]? with
      | some e => if e.last + 3600000 ≤ s.clk then s.modDie die fun d => { d with srcs := d.srcs.eraseIdx i } else s
      | none => s

/-- LINKDOWN (R316): nothing crosses a link for 2 TOUT while traffic waits. Ports 0 to 3 are the die's, 4 + x the
package's external port x. -/
def execLinkdown (die port : Nat) (s : State) : Out :=
  let p : Port := if port < 4 then .die die port else .ext (port - 4)
  let at_ := if port < 4 then look 0 (s.die die).portLast port else look 0 s.pkg.extLast (port - 4)
  let down := if port < 4 then (s.die die).portDown.getLsbD port else s.pkg.extDown.contains (port - 4)
  .next <|
    match s.wire.find? fun f => f.ports.head? == some p with
    | none => s
    | some f =>
      if down || s.clk < at_ + 2 * (s.die die).tout then s
      else
        let s := if port < 4 then s.modDie die fun d => { d with portDown := d.portDown ||| (1#4 <<< port) }
          else { s with pkg := { s.pkg with extDown := s.pkg.extDown ++ [port - 4] } }
        s.post { cls := 5, act := actOf 0x1706 5, code := 0x1706, unit := p.unit, detail := msgDetail f.msgid f.dstEp f.dstDie }

/-! ## Performing (R301 to R303) -/

/-- The reply of a GET: its bytes go back in a message of the same class and ORD (R301). -/
def replyMsg (m : Msg) (bs : List Byte) : Msg :=
  { m with
    die := m.dstDie, dstEp := m.srcEp, dstDie := m.die, kind := 3, data := bs, raddr := m.laddr, ract := 0, rctr := 0
    todo := [], pos := 0, resent := false, aborting := false, abortAt := 0, dacked := false
    packed := false, lostM := false, decoded := false, performed := false, aborted := false, counted := 0
    stalled := false, carried := false, pred := none }

/-- A GET performs: it reads, and its reply is issued where the replying die has room for it (R301). A poisoned line
purges the take that asked, and no reply is made (R389; log 24). -/
def State.performGet (m : Msg) : State :=
  s.withMsgPages m m.raddr m.len 0 fun s =>
    if s.msgWaits m then s
    else
    let act := fun (s : State) => (s.remoteAct m).performed m
    if s.msgBad m m.raddr m.len then (act s).purgeTake m.tid false
    else
      let ready := s.mayIssue m.dstDie m.srcEp m.die m.len
        && (m.inside s.pkg.endpoint || !(s.pathsFor m.dstDie m.cls (s.targetOf m.job m.srcEp m.die)).isEmpty)
      let s := if ready then s.fold (s.msgHomes m) fun s home => s.charge home m.job 64 else s
      if ready then act (s.launch (replyMsg m (s.msgBytes m m.raddr m.len))) else s

/-- The writes of a message at its destination, once its pages are translated: there, or, for one of another package, on their way
(R297, R302). -/
def State.performWrites (m : Msg) : State :=
  s.withMsgPages m m.raddr m.len 5 fun s =>
    if s.goesOn m then s.carry m
    else if s.msgWaits m then s
    else (State.msgWrites m 66 s m.raddr m.data).writesPerformed m.mid

/-- Writes that have travelled to their home perform there (R297, R302). -/
def State.performPiece (m : Msg) : State :=
  if s.msgWaits m then s
  else
    let s := State.msgWrites m 66 s m.raddr m.data
    let m := (s.msgOf m.mid).getD m
    (s.performed m).pieceDone m

/-- An access of the host performs at its home die, where its address is translated (R364). -/
def State.performHost (m : Msg) : State :=
  s.withMsgPages m m.raddr m.len (if m.kind == 6 then 5 else 0) fun s =>
    if s.msgWaits m then s else (s.hostAct m).performed m

/-- MESSAGE_PERFORM (R297, R302, R364): a PUT writes, a GET reads, then RACT and PACK; and messages of class 7 that carry writes or
an access of the host. -/
def execMessagePerform (msg : Nat) (s : State) : Out :=
  .next <|
    match s.msgs[msg]? with
    | none => s
    | some m =>
      if !s.mayPerform m then s
      else
        match m.kind with
        | 0 => s.performWrites m
        | 1 => s.performGet m
        | 5 => s.performPiece m
        | 6 | 7 => s.performHost m
        | _ => s

/-- GET_REPLY_PERFORM (R301, R302): the reply is written at LADDR, and LCTR is added. -/
def execGetReplyPerform (msg : Nat) (s : State) : Out :=
  .next <|
    match s.msgs[msg]? with
    | none => s
    | some m => if s.mayPerform m && m.kind == 3 then s.performWrites m else s

/-! ## Bridges (R308 to R310) -/

/-- Fields of a bridge record (R308). -/
def Bridge.far (b : Bridge) : Nat := fld b.record 128 3
def Bridge.cls (b : Bridge) : Nat := fld b.record 136 3
def Bridge.ckeep (b : Bridge) : Bool := fld b.record 139 1 == 1
def Bridge.colour (b : Bridge) : Nat := fld b.record 140 4
def Bridge.flvl (b : Bridge) : Nat := fld b.record 144 3
def Bridge.gwin (b : Bridge) : Nat := recNum b.record 20 2

/-- The ring that a bridge record's word names in a region whose place is known, and its branch (R308). -/
def State.bridgeRing (job die rid : Nat) (w : Nat) : Option (Ring × Nat) :=
  (s.region (regionKey job die rid)).bind fun r =>
    if r.resident then
      let cell := die * 256 + r.cellAtOff (w % 16) (w / 16 % 16)
      (s.ring (ringKey cell (w / 2 ^ 18 % 1024))).map fun q => (q, w / 2 ^ 32 % 8)
    else none

/-- Source and destination rings of a bridge; one whose regions are not both placed holds its granules (R308). -/
def State.bridgeEnds (die : Nat) (b : Bridge) : Option ((Ring × Nat) × Ring) :=
  (s.bridgeRing b.job die (recNum b.record 22 1) (recNum b.record 0 8)).bind fun x =>
    (s.bridgeRing b.job b.far (recNum b.record 23 1) (recNum b.record 8 8)).map fun y => (x, y.1)

/-- The filled slots that the sending engine consumes next, in slot order, whatever their colour (R309). -/
def Ring.upNext (r : Ring) (branch : Nat) : List Nat :=
  (((r.slots.filter fun e => !e.2.gone branch).takeWhile fun e => e.2.filled)).map (·.1)

/-- Granules up to and with the first whose mark has level FLVL; `true` when there is one (R309). -/
def State.upToMark (r : Ring) (flvl : Nat) : List Nat → List Nat × Bool
  | [] => ([], false)
  | n :: ns =>
    if levelAtLeast (sideMark (s.side r n)) flvl then ([n], true)
    else let (l, b) := State.upToMark r flvl ns; (n :: l, b)

/-- The data of a stream message: a 128-byte block of sidebands, then the granules (R309). -/
def State.streamData (r : Ring) (ns : List Nat) : List Byte :=
  let side := ns.flatMap fun n => leBytes 2 (s.side r n).toNat
  side ++ List.replicate (128 - side.length) 0 ++ ns.flatMap fun n => leBytes 64 (s.gran r n).toNat

/-- BRIDGE_SEND (R309): the granules at hand go once the message is full, marked, 64 clk old or at the grant. A message is begun
once its first granule is filled and the message before it has gone. -/
def execBridgeSend (die bridge : Nat) (s : State) : Out :=
  .next <|
    match s.bridge die bridge with
    | none => s
    | some b =>
      match s.bridgeEnds die b with
      | none => s
      | some ((r, branch), _) =>
        let (ns, marked) := s.upToMark r b.flvl ((r.upNext branch).take (min 62 (b.grant - b.sent)))
        let first := ((ns.head?.map fun n => (look {} r.slots n).filledAt).getD 0)
        let old := decide (max first (look 0 r.since branch) + 64 ≤ s.clk)
        let go := !ns.isEmpty && (ns.length == 62 || marked || old || b.sent + ns.length == b.grant)
        let paths := s.pathsFor die b.cls b.far
        if b.stopped || b.lost.isSome || !go || !r.live.getLsbD branch || (paths.isEmpty && b.far != die) then s
        else
          let data := s.streamData r ns
          if !s.mayIssue die s.pkg.endpoint b.far data.length then s
          else
            let m : Msg :=
              { mid := 0, die, dstEp := s.pkg.endpoint, dstDie := b.far, job := b.job, tid := 0, pid := 0, cls := b.cls,
                kind := 2, ord := true, data, len := data.length, raddr := 0, laddr := 0, lv := false, lctr := 0,
                ract := 0, rctr := 0, msgid := 0, mcode := 0, bridge := die * 64 + bridge, first := b.sent }
            let s := (s.launch m).modBridge die bridge fun b => { b with sent := b.sent + ns.length }
            s.retire r.key branch ns

/-- A stand-in message for a control fragment of a bridge: its class and job, and a `mid` that names the bridge. -/
def bridgeMsg (b : Bridge) (bridge : Nat) : Msg :=
  { mid := 2 ^ 64 + bridge, die := 0, dstEp := 0, dstDie := 0, job := b.job, tid := 0, pid := 0, cls := b.cls, kind := 2,
    ord := true, data := [], len := 0, raddr := 0, laddr := 0, lv := false, lctr := 0, ract := 0, rctr := 0, msgid := 0,
    mcode := 0 }

/-- The receiving engine claims what room allows, up to GWIN ahead (R104, R309); under CKEEP a slot has colour 15 until
its granule comes (log 25). -/
def State.bridgeClaim (die bridge : Nat) (b : Bridge) (r : Ring) : State :=
  let n := min (b.gwin - b.claimed.length) r.free
  if !r.queue.isEmpty || n == 0 then s
  else
    let (s, ns) := s.grant r.key n 0 (if b.ckeep then 15 else b.colour) 0 0
    s.modBridge die bridge fun b => { b with claimed := b.claimed ++ ns, claimedCount := b.claimedCount + ns.length }

/-- GRANT (R309): the receiving engine claims, and tells the sender the count, again after 1,024 clk unchanged. -/
def execGrant (die bridge : Nat) (s : State) : Out :=
  .next <|
    match s.bridge die bridge with
    | none => s
    | some b =>
      match s.bridgeEnds die b with
      | none => s
      | some (_, r) =>
        if b.ended then s
        else
          let s := s.bridgeClaim die bridge b r
          let n := ((s.bridge die bridge).getD b).claimedCount
          if n == 0 || (n == b.grantSent && s.clk < b.grantAt + 1024) then s
          else
            let s := s.modBridge die bridge fun b => { b with grantSent := n, grantAt := s.clk }
            s.sendCtl (bridgeMsg b bridge) b.far s.pkg.endpoint die 6 [] [] n

/-- Granule `i` of a stream message: its sideband and data. -/
def Msg.granule (m : Msg) (i : Nat) : Side × Gran :=
  (BitVec.ofNat 16 (leNat ((m.data.drop (2 * i)).take 2)), BitVec.ofNat 512 (leNat ((m.data.drop (128 + 64 * i)).take 64)))

/-- Granules fill claimed slots and are committed, at an exit ring through its comparator (R330); takes of their colours in DREGION
have met the bridge (R309, R328). -/
def State.bridgeFill (die bridge : Nat) (b : Bridge) (r : Ring) (l : List (Side × Gran)) : State :=
  let ns := b.claimed.take l.length
  let s := s.fold (ns.zip l) fun s e => (s.setSide r e.1 e.2.1).setGran r e.1 e.2.2
  let region := regionKey b.job b.far (recNum b.record 23 1)
  let s := s.fold l fun s e => match s.takeOf region (sideColour e.1) with
    | some t => s.modTake t.tid fun t => { t with bridged := true }
    | none => s
  let s := s.fold (ns.zip l) fun s e =>
    s.fill r.key [e.1] (((s.takeOf region (sideColour e.2.1)).map Take.tid).getD 0) (r.key / 1024)
  s.modBridge die bridge fun b =>
    { b with claimed := b.claimed.drop l.length, filledCount := b.filledCount + l.length }

/-- A granule's sideband under MODE (R309). -/
def Bridge.recolour (b : Bridge) (w : Side) : Side :=
  if b.ckeep then w else mkSide (sideMark w) (sideFmt w) (sideValid w) b.colour

/-- BRIDGE_ARRIVAL (R309): the next decoded stream message of a bridge fills slots in granule order; one that comes
after the receiver has stopped is dropped (R310). -/
def execBridgeArrival (die bridge : Nat) (s : State) : Out :=
  .next <|
    match s.bridge die bridge with
    | none => s
    | some b =>
      match s.msgs.find? fun m => m.kind == 2 && m.bridge == die * 64 + bridge && s.mayPerform m with
      | none => s
      | some m =>
        if b.ended then s.performed m
        else
          match s.bridgeEnds die b with
          | none => s
          | some (_, r) =>
            let n := (m.data.length - 128) / 64
            if m.first != b.filledCount || b.claimed.length < n || s.exitFull r.key n then s
            else
              let l := (List.range n).map fun i => let g := m.granule i; (b.recolour g.1, g.2)
              (s.bridgeFill die bridge b r l).performed m

/-- BRIDGEBREAK (R310): the sender of a lost stream message sends BREAK and stops, and the take of its colour fails; the
receiver ends the stream with a BAD and an EOT granule once BREAK has come. -/
def execBridgebreak (die bridge : Nat) (s : State) : Out :=
  .next <|
    match s.bridge die bridge with
    | none => s
    | some b =>
      match (if b.stopped then none else b.lost) with
      | some (colour, mid) =>
        let s := s.modBridge die bridge fun b => { b with stopped := true }
        let s := s.sendCtl (bridgeMsg b bridge) die s.pkg.endpoint b.far 7 [] [] colour
        let msgid := ((s.msgOf mid).map Msg.msgid).getD 0
        let unit := unitOfNum die ((s.pathsFor die b.cls b.far).headD 0) 0x17
        let detail := msgDetail msgid s.pkg.endpoint b.far
        let rid := recNum b.record 22 1
        match s.takeOf (regionKey b.job die rid) colour with
        | some t => s.failTake t.tid 0x1704 unit 0 detail
        | none => s.post { cls := 3, act := actOf 0x1704 3, code := 0x1704, unit, job := b.job, detail }
      | none =>
        match b.broken, s.bridgeEnds die b with
        | some colour, some (_, r) =>
          let before := s.msgs.any fun m => m.kind == 2 && m.bridge == die * 64 + bridge && !s.passed m
            && match b.lost with | some x => decide (m.mid < x.2) | none => false
          if b.ended || before || b.claimed.length < 2 || s.exitFull r.key 2 then s
          else
            let s := s.bridgeFill die bridge b r [(mkSide 7 0 0 colour, 0), (mkSide 4 0 0 colour, 0)]
            let rest := b.claimed.drop 2
            let s := (s.retireAll r.key rest).modBridge die bridge fun b => { b with ended := true, claimed := [] }
            s.reclaim r.key
        | _, _ => s

/-! ## Instructions (R311 to R315) -/

/-- Fields of a descriptor (R300). -/
def descCls (d : BitVec 512) : Nat := fld d 8 3
def descEp (d : BitVec 512) : Nat := fld d 32 22
def descDie (d : BitVec 512) : Nat := fld d 54 3
def descLen (d : BitVec 512) : Nat := recNum d 2 2

/-- The faults of a descriptor that give status 2 (R300, R312). -/
def descBad (d : BitVec 512) (get : Bool) : Bool :=
  let ract := fld d 201 2
  fld d 3 5 != 0 || fld d 11 5 != 0 || fld d 57 7 != 0 || fld d 203 5 != 0 || fld d 220 4 != 0 || fld d 224 288 != 0
    || (ract == 1 && fld d 216 4 != 0) || ract == 3 || fld d 0 2 != (if get then 1 else 0)
    || descLen d == 0 || decide (4096 < descLen d) || decide (2 ^ 52 < recNum d 8 8 + descLen d)
    || decide (2 ^ 52 < recNum d 16 8 + descLen d)

/-- The destination is one of the job's (R290, R312). -/
def State.destOk (job ep die : Nat) : Bool :=
  match s.job job with
  | none => false
  | some j => if ep == s.pkg.endpoint then j.diemask / 2 ^ die % 2 == 1 else j.endpoints.any fun e => e.1 == ep

/-- The status of XPUT and XGET (R312). -/
def State.descStatus (get : Bool) (d : BitVec 512) : Nat :=
  let die := dieOf s.cur
  let job := s.pl.job
  if descCls d == 7 || (s.cls die (descCls d)).job != job then 1
  else if descBad d get then 2
  else if !s.destOk job (descEp d) (descDie d) then 3
  else if (s.pathsFor die (descCls d) (s.targetOf job (descEp d) (descDie d))).isEmpty then 4
  else 0

/-- The message of a descriptor, with the bytes that it carries. -/
def State.msgFrom (get : Bool) (d : BitVec 512) (data : List Byte) : Msg :=
  { mid := 0, die := dieOf s.cur, dstEp := descEp d, dstDie := descDie d, job := s.pl.job, tid := s.pl.firing.tid,
    pid := s.cur, cls := descCls d, kind := if get then 1 else 0, ord := fld d 2 1 == 1, data, len := descLen d,
    raddr := recNum d 8 8, laddr := recNum d 16 8, lv := fld d 200 1 == 1, lctr := recNum d 24 1, ract := fld d 201 2,
    rctr := fld d 208 12, msgid := 0, mcode := 0 }

/-- The message is issued, and S[D] gets its identifier (R312). -/
def State.issueMsg (o : OpK) (m : Msg) : State :=
  let id := s.nextMsgid m.die m.dstEp m.dstDie
  ((s.launch m).wS o.d.toNat (w64 id)).adv

/-- XPUT and XGET (R312): a release of die scope first; a shadow's sends nothing and its status is free (R329; log 5). R301 lets a
write that races with the building of a PUT's fragments give old or new bytes in each sector of 32 bytes: here XPUT takes all the
bytes at one moment, its own (DESIGN CHOICE, log 59). -/
def messageOp (o : OpK) (get : Bool) (s : State) : Out :=
  globalOp o.g o.gn s (fun s => s.rS o.a.toNat) 64 fun s ea =>
    if !s.released then s.hold .retry 0
    else s.afterBack fun s =>
      if s.shadowed then
        let (s, st) := s.freeNum 8
        (s.wS o.d.toNat (w64 st)).adv
      else s.readLine ea fun s d =>
        let st := s.descStatus get d
        if st != 0 then (s.wS o.d.toNat (w64 (2 ^ 63 + st))).adv
        else
          let n := if get then 64 else descLen d
          if !s.mayIssue (dieOf s.cur) (descEp d) (descDie d) n then s.hold .retry 0
          else if get then s.issueMsg o (s.msgFrom true d (leBytes 64 d.toNat))
          else
            let va := recNum d 16 8
            State.withPages va 0 (fun s =>
              if s.rangeWaits s.pl.job va n then s.hold .retry 0
              else if s.rangeBad s.pl.job (va / 64 * 64) (n + va % 64) then s.purgeTake s.pl.firing.tid false
              else (s.chargeRange s.pl.job va n).issueMsg o (s.msgFrom false d (s.bytesVa s.pl.job va n))) (pagesOf va n) s

def execXput (o : OpK) (s : State) : Out := messageOp o false s
def execXget (o : OpK) (s : State) : Out := messageOp o true s

/-- The code-rate register (R305). -/
def MsgClass.rateWord (c : MsgClass) : Word :=
  w64 (c.quiet * 2 ^ 32 + c.thresh * 2 ^ 16 + c.mmax * 2 ^ 10 + c.mmin * 2 ^ 8 + (if c.adapt then 128 else 0) + c.m)
/-- A value that R305 refuses. -/
def rateRefused (v : Word) : Bool := fld v 0 2 < fld v 8 2 || fld v 10 2 < fld v 0 2 || fld v 32 16 == 0
def MsgClass.setRate (c : MsgClass) (v : Word) : MsgClass :=
  { c with quiet := fld v 32 16, thresh := fld v 16 16, mmax := fld v 10 2, mmin := fld v 8 2, adapt := v.getLsbD 7, m := fld v 0 2 }

/-- An instruction on a class of the job's; another class gives all ones (R291). -/
def classOp (o : OpK) (s : State) (body : State → Nat → Nat → State) : Out :=
  stage o.g o.gn s fun s =>
    let die := dieOf s.cur
    let c := fld o.kreg 0 3
    if c == 7 || (s.cls die c).job != s.pl.job then (s.wS o.d.toNat (BitVec.allOnes 64)).adv else body s die c

def execXrateRead (o : OpK) (s : State) : Out :=
  classOp o s fun s die c => (s.wS o.d.toNat (s.cls die c).rateWord).adv

/-- XRATE with WRITE (R313): the old value, and the new one is installed unless R305 refuses it. -/
def execXrateWrite (o : OpK) (s : State) : Out :=
  classOp o s fun s die c =>
    let v := s.rS o.a.toNat
    if rateRefused v then (s.wS o.d.toNat (w64 (2 ^ 63 + 2))).adv
    else ((s.modClass die c fun x => x.setRate v).wS o.d.toNat (s.cls die c).rateWord).adv

/-- XPATH (R313). -/
def execXpath (o : OpK) (s : State) : Out :=
  classOp o s fun s die c =>
    let v := s.rS o.a.toNat
    let t := fld v 8 4
    let mask : BitVec 8 := v.setWidth 8
    if 9 < t || fld v 12 52 != 0 || (t < 8 && fld v 4 4 != 0) then (s.wS o.d.toNat (w64 (2 ^ 63 + 2))).adv
    else ((s.modClass die c fun x => { x with paths := ins x.paths t mask }).wS o.d.toNat ((s.mask die c t).setWidth 64)).adv

/-- XFLUSH (R314). -/
def execXflush (o : OpK) (s : State) : Out :=
  stage o.g o.gn s fun s => if s.openMsgs s.pl.firing.tid then s.hold .xflush s.serial else s.adv

/-- Messages of a class on a die that are outstanding (R315). -/
def State.outstandingMsgs (die c : Nat) : Nat := (s.msgs.filter fun m => m.die == die && m.cls == c && m.unresolved).length

/-- The value of XSTAT (R315). -/
def State.xstatValue (die c sel : Nat) : Nat :=
  let x := s.cls die c
  match sel with
  | 0 => x.sent
  | 1 => x.lost
  | 2 => x.resent
  | 3 => x.spray
  | 4 => x.m + s.outstandingMsgs die c % 8192 * 65536
  | 5 => (s.die die).bufDropped
  | _ => (s.die die).lateDropped

def execXstat (o : OpK) (s : State) : Out :=
  let sel := fld o.kreg 4 4
  if 5 ≤ sel then stage o.g o.gn s fun s => (s.wS o.d.toNat (w64 (s.xstatValue (dieOf s.cur) 0 sel))).adv
  else classOp o s fun s die c => (s.wS o.d.toNat (w64 (s.xstatValue die c sel))).adv

end Sys2Proof.Machine
end

