-- ==== Sys2Proof/Machine/Host.lean ====
section
/-!
DEFINITION. The host's side of a link: registers, the aperture, the completion queue, and the commands but for admission,
cancellation and package reset (16_host, R363 to R368, R371, R372, R377, R402; R259, R339, R342).
-/
namespace Sys2Proof.Machine

variable (s : State)

/-! ## Command records (R366, R367) -/

/-- The completion entry of a command: class OK, of the firmware, with the command's TAG (R367, R382). -/
def entryOf (c : Cmd) (code addr clk : Nat) : Rec :=
  RecInfo.toRec { cls := 0, act := actOf code 0, code, unit := unitOfNum 0 0 0x1E, job := c.job, tag := c.tag, addr } clk

/-- A command ends: one entry, but none for a quiet command that was done (R366, R367). -/
def State.complete (c : Cmd) (code addr : Nat) : State :=
  if code == 0 && c.quiet then s else s.postLink c.link (entryOf c code addr s.clk)

/-- A command on a link without a queue is discarded and counted (R368). -/
def State.discard (link : Nat) : State := s.modLink link fun k => { k with dropcmd := k.dropcmd + 1 }

/-- A command other than CQSETUP: discarded without a queue, BADCMD where its record is malformed. -/
def command (c : Cmd) (op : Nat) (s : State) (body : State → State) : Out :=
  .next (if (s.link c.link).cq.isNone then s.discard c.link
    else if !c.shaped op then s.complete c 0x1E01 0
    else body s)

/-- A command about an admitted job: NOJOB for any other (R367). -/
def jobCommand (c : Cmd) (op : Nat) (s : State) (body : State → Job → State) : Out :=
  command c op s fun s =>
    match s.job c.job with
    | none => s.complete c 0x1E02 0
    | some j => body s j

/-- Bytes written into host memory, at most `n` lines. -/
def State.hostWrite : Nat → State → Nat → List Byte → State
  | 0, s, _, _ => s
  | n + 1, s, a, bs =>
    if bs.isEmpty then s
    else
      let c := bs.take (64 - a % 64)
      let key := hostKey a
      let s := s.performWrite { key, home := homeSlice (key % 2 ^ 64), data := c, job := 0, va := 0, tid := 0, writer := 0 }
      State.hostWrite n s (a + c.length) (bs.drop c.length)

/-! ## The completion queue (R368) -/

/-- The PACKAGE-RESET record that the first CQSETUP of a link after a package reset places first (R373). Its TIME is that of the
reset, from which CLKCOUNT counts (R271, R382). -/
def State.resetRecord : Rec :=
  let code := 0x1E20 + s.pkg.cause.toNat
  RecInfo.toRec { cls := 7, act := actOf code 7, code, unit := unitOfNum 0 0 0x1E } 0

/-- A queue is set up; its first entry is the completion, after a PACKAGE-RESET record where one is due (R367). -/
def State.installCq (c : Cmd) (q : Cq) : State :=
  let own := if c.quiet then [] else [entryOf c 0 0 s.clk]
  s.modLink c.link fun k =>
    { k with
      cq := some q, tail := 0, head := 0, nextCq := none, hadSetup := true, msixTail := 0
      held := (if k.hadSetup then [] else [s.resetRecord]) ++ own ++ k.held ++ k.heldBehind, heldBehind := [] }

/-- CQSETUP (R367, R368): a second one waits until the held entries are written to the old queue. -/
def execCqsetup (c : Cmd) (s : State) : Out :=
  let q : Cq := { base := c.num 16 8, log2n := c.num 24 1, msi := fld c.record 200 1 == 1 }
  let k := s.link c.link
  .next (if !c.shaped 0x01 || q.base % 4096 != 0 || q.log2n < 6 || 16 < q.log2n then s.complete c 0x1E01 0
    else if k.cq.isSome && !k.held.isEmpty then s.modLink c.link fun k => { k with nextCq := some (q, c.record) }
    else s.installCq c q)

/-- Room in a queue for `n` entries: TAIL - HEAD stays below N as each is written (R368). -/
def Link.room (k : Link) (q : Cq) (n : Nat) : Bool := decide ((k.tail - k.head).toNat + n ≤ 2 ^ q.log2n)

/-- The entries of a record. -/
def Rec.entries (r : Rec) : List (BitVec 256) := match r.detail with | none => [r.entry] | some d => [r.entry, d]

/-- A stash line that a change of a page's entry writes back and drops: its device tag lies in the old page, or, where the entry
led to further tables, its address of the job lies under the entry (R205). -/
def StashLine.stale (l : StashLine) (job lo n : Nat) (old : Option (Nat × Nat)) : Bool :=
  (match old with | some (key, len) => overlap l.key 64 key len | none => false)
    || (l.job == job && overlap (64 * l.vline) 64 lo n)

/-- Every plane writes back and drops the stash lines of a page (R205). -/
def State.dropPage (job lo n : Nat) (old : Option (Nat × Nat)) : State :=
  s.fold s.planes fun s e =>
    s.fold (e.2.stash.filter fun l => l.stale job lo n old) fun s l => s.stashForget e.1 l

/-- A MAP whose old accesses have all performed writes back and drops the stash lines of the old page, and is complete (R205,
R335, R402). -/
def State.mapDone (link : Nat) : State :=
  let k := s.link link
  match k.mapping with
  | none => s
  | some (job, lo, n, r) =>
    let old := (s.planes.any fun e => e.2.memq.any fun o => o.job == job && decide (lo ≤ o.va) && decide (o.va < lo + n))
      || s.msgs.any fun m => m.placed && m.job == job && !m.performed && !m.lostM && overlap m.raddr m.data.length lo n
    if old then s
    else ((s.dropPage job lo n k.mapOld).modLink link fun k => { k with mapping := none, mapOld := none }).complete
      { link, record := r } 0 0

/-- A record of a job waits for the records of its failing takes and of its mismatches that were detected before it (R393). A
record that the host has to answer with FAULTSVC does not: a failing take's messages may need that answer (R401; log 53). -/
def State.mustWait (r : Rec) : Bool :=
  let earlier := fun (at_ : Nat) (unit : BitVec 16) =>
    decide (at_ < r.time) || (at_ == r.time && decide (unit.toNat < r.unit))
  r.detail.isSome && r.job != 0 && r.code != 0x1601 && s.takes.any fun e =>
    let t := e.2
    let c := s.ctx t.ctx
    t.job == r.job && !t.shadow && !(s.die (t.region / 256 % 8)).fenced
      && ((t.failing && earlier t.failAt t.failUnit)
        || (c.state == .mismatch && c.tid == t.tid && earlier c.missedAt (unitOfCore (t.ctx / 16) 8)))

/-- The first of the held records that may be written, and the others. -/
def State.dueRec : List Rec → Option (Rec × List Rec)
  | [] => none
  | r :: l => if s.mustWait r then (State.dueRec l).map fun x => (x.1, r :: x.2) else some (r, l)

/-- CQ_ENTRY_WRITE (R368): the oldest held record that may be written goes into the queue, whole, before TAIL counts it; a
CQSETUP that waited replaces the queue after the last. -/
def execCqEntryWrite (link : Nat) (s : State) : Out :=
  let s := s.mapDone link
  let k := s.link link
  .next <|
    match k.cq, s.dueRec k.held with
    | some q, some (r, rest) =>
      if !k.room q r.size then s
      else
        let at_ (i : Nat) : Nat := q.base + 32 * ((k.tail.toNat + i) % 2 ^ q.log2n)
        let s := s.fold (r.entries.zip (List.range 2)) fun s e => State.hostWrite 2 s (at_ e.2) (leBytes 32 e.1.toNat)
        let s := s.modLink link fun k => { k with held := rest, tail := k.tail + BitVec.ofNat 32 r.size }
        match rest, k.nextCq with
        | [], some (q, r) => s.installCq { link, record := r } q
        | _, _ => s
    | _, _ => s

/-- CQHEAD_WRITE (R363, R368). -/
def execCqheadWrite (link : Nat) (v : BitVec 32) (s : State) : Out := .next (s.modLink link fun k => { k with head := v })

/-- MSIX_SEND (R368): vector 0, at most once in 2 µs and only when TAIL has moved. -/
def execMsixSend (link : Nat) (s : State) : Out :=
  let k := s.link link
  let ok := match k.cq with
    | some q => q.msi && k.tail != k.msixTail && (k.msixSent == 0 || decide (k.msixAt + 3600 ≤ s.clk))
    | none => false
  .next (if ok then s.modLink link fun k => { k with msixSent := k.msixSent + 1, msixAt := s.clk, msixTail := k.tail } else s)

/-! ## The control window (R363) -/

/-- STATUS, RSTCAUSE and the queue pointers at their offsets; any other offset past the slots is zero. -/
def State.controlWord (link off : Nat) : Word :=
  let k := s.link link
  match off with
  | 0x10000 =>
    w64 (k.dropcmd.toNat * 2 ^ 32 + s.pkg.fwver.toNat * 2 ^ 16 + (if k.cqlost then 16 else 0)
      + (if s.pkg.patchrej then 8 else 0) + (if k.cq.isSome then 4 else 0) + (if s.pkg.ready then 1 else 0))
  | 0x10008 => w64 (s.pkg.resets.toNat * 2 ^ 32 + s.pkg.detail.toNat * 2 ^ 16 + s.pkg.cause.toNat)
  | 0x10010 => w64 k.tail.toNat
  | 0x10018 => w64 k.head.toNat
  | 0x10020 => w64 k.cmdhead.toNat
  | _ => if off < 65536 then w64 (fld (look 0 k.slots (off / 128)) (off % 128 * 8) 64) else 0

/-- The bytes that a read of the control window gives (R363). -/
def State.controlRead (link off n : Nat) : List Byte :=
  (List.range n).map fun i =>
    BitVec.ofNat 8 ((s.controlWord link ((off + i) / 8 * 8)).toNat / 2 ^ (8 * ((off + i) % 8)))

/-- One byte of a command slot. -/
def Link.setSlotByte (k : Link) (off : Nat) (b : Byte) : Link :=
  let at_ := off % 128 * 8
  let old := look 0 k.slots (off / 128)
  let mask : BitVec 1024 := BitVec.ofNat 1024 (255 * 2 ^ at_)
  { k with slots := put 0 k.slots (off / 128) ((old &&& ~~~mask) ||| BitVec.ofNat 1024 (b.toNat * 2 ^ at_)) }

/-- The die that holds a link's command slots (R366). -/
def slotDie (link : Nat) : Nat := if link == 0 then 0 else 3

/-- Bytes written to command slots; the window counts them and triggers on each 128, adding 1 to timeline counter 255
(R366). -/
def State.slotWrite (link off : Nat) (bs : List Byte) : State :=
  let k := s.link link
  let k := (bs.zip (List.range bs.length)).foldl (fun k e => k.setSlotByte (off + e.2) e.1) k
  let n := k.counted + bs.length
  let s := s.modLink link fun _ => { k with counted := n % 128, triggers := k.triggers + n / 128 }
  let s := { s with pkg := { s.pkg with trigOrder := s.pkg.trigOrder ++ List.replicate (n / 128) link } }
  s.addTimeline (slotDie link) 255 (n / 128)

/-- One byte written to a register of the control window: CQLOST is cleared by writing one, CQHEAD takes its bytes, and
every other byte is ignored (R363). -/
def Link.setRegByte (k : Link) (off : Nat) (b : Byte) : Link :=
  if off == 0x10000 then { k with cqlost := k.cqlost && !b.getLsbD 4 }
  else if 0x10018 ≤ off && off < 0x1001C then
    let sh := 8 * (off - 0x10018)
    { k with head := (k.head &&& ~~~(0xFF#32 <<< sh)) ||| (b.setWidth 32 <<< sh) }
  else k

/-- A link's writes through the aperture that are still to perform (R365). -/
def State.writesUnderWay (link : Nat) : Bool := s.msgs.any fun m => m.kind == 6 && m.access == link && !m.performed && !m.lostM

/-- REGISTER_WRITE (R7, R363): a write of up to 4 KiB to the control window: command slots and registers. Bytes reach the slots only
after the link's earlier writes have performed (R365). -/
def execRegisterWrite (link off : Nat) (bytes : List (BitVec 8)) (s : State) : Out :=
  .next <|
    let slots := bytes.take (65536 - off)
    if 4096 < bytes.length || (!slots.isEmpty && s.writesUnderWay link) then s
    else
      let s := if slots.isEmpty then s else s.slotWrite link off slots
      s.modLink link fun k => ((bytes.zip (List.range bytes.length)).drop slots.length).foldl (fun k e => k.setRegByte (off + e.2) e.1) k

/-- The command of a link has not finished: the next one waits (R367). -/
def State.linkBusy (link : Nat) : Bool :=
  let k := s.link link
  k.loading.isSome || k.nextCq.isSome || k.mapping.isSome || (s.pkg.pendPower.any fun e => e.1 == link)
    || s.jobs.any fun e => e.2.link == link && e.2.admitting.isSome

/-- COMMAND_TRIGGER (R366, R367): the firmware takes the next command of the link, once the one before has finished. Commands are
taken in the order in which their triggers arrived, whichever link they came on; so one that waits for a busy link holds back those
behind it (log 47). -/
def execCommandTrigger (link : Nat) (s : State) : Out :=
  let s := s.mapDone link
  let k := s.link link
  let first := s.pkg.trigOrder.head? == some link
  .next <|
    if !s.pkg.ready || k.triggers == 0 || s.linkBusy link || !first then s
    else
      let c : Cmd := { link, record := look 0 k.slots (k.cmdhead.toNat % 512) }
      let s := s.modLink link fun k => { k with cmdhead := k.cmdhead + 1, triggers := k.triggers - 1 }
      let s := { s with pkg := { s.pkg with trigOrder := s.pkg.trigOrder.erase link } }
      match decodeCommand c with
      | .ok i => { s with agenda := .event i :: s.agenda }
      | .error _ => if k.cq.isNone && c.num 0 1 != 1 then s.discard link else s.complete c 0x1E01 0

/-! ## The aperture (R364) -/

/-- The job and address that an aperture offset reaches, and whether its segment allows writes. -/
def State.segment (link off : Nat) : Option (Nat × Nat × Bool) :=
  (find (s.link link).segs (off / 2 ^ 34)).map fun g => (g.1, g.2.1 + off % 2 ^ 34, g.2.2)

/-- An access of at most 4 KiB within 4 KiB of the aperture (R363). -/
def apertureAccess (off n : Nat) : Bool := 1 ≤ n && n ≤ 4096 && off % 4096 + n ≤ 4096 && off + n ≤ 2 ^ 40

/-- An access through the aperture: an unbound segment, a write without write enable, or an address that reaches no home die is
refused with APERFAULT, and the link reads all ones; any other enters the package as a message of class 7 from the link's I/O die to
the home die, where its address is translated (R364; log 37). -/
def State.hostAccess (link off kind : Nat) (data : List Byte) : State :=
  let refuse := fun (job : Nat) =>
    let s := s.apertureFault link job off
    if kind == 7 then s.modLink link fun k => { k with lastRead := List.replicate data.length 0xFF } else s
  match s.segment link off with
  | none => refuse 0
  | some (job, va, writes) =>
    match (if kind == 6 && !writes then none else s.placeOf job va false) with
    | none => refuse job
    | some p =>
      let m : Msg :=
        { mid := 0, die := 8 + link, dstEp := homeEp s.pkg.endpoint p.die, dstDie := p.die % 8, job, tid := 0, pid := 0, cls := 7, kind,
          ord := false, data, len := data.length, raddr := va, laddr := p.key, lv := false, lctr := 0, ract := 0, rctr := 0, msgid := 0,
          mcode := 0, access := link }
      if s.mayIssue m.die m.dstEp m.dstDie data.length then s.launch m else s

/-- APERTURE_READ (R364, R389): a read of the host begins. -/
def execApertureRead (link off n : Nat) (s : State) : Out :=
  .next (if apertureAccess off n then s.hostAccess link off 7 (List.replicate n 0) else s)

/-- APERTURE_WRITE (R364): a write of the host begins. -/
def execApertureWrite (link off : Nat) (bytes : List (BitVec 8)) (s : State) : Out :=
  .next (if apertureAccess off bytes.length then s.hostAccess link off 6 bytes else s)

/-- APMAP (R364, R367). -/
def execApmap (c : Cmd) (s : State) : Out :=
  command c 0x0E s fun s =>
    let g := c.num 16 1
    let base := c.num 24 8
    if 64 ≤ g || base % 2 ^ 34 != 0 || 2 ^ 52 ≤ base then s.complete c 0x1E01 0
    else if c.job == 0 then (s.modLink c.link fun k => { k with segs := del k.segs g }).complete c 0 0
    else if (s.job c.job).isNone then s.complete c 0x1E02 0
    else (s.modLink c.link fun k => { k with segs := ins k.segs g (c.job, base, fld c.record 136 1 == 1) }).complete c 0 0

/-! ## MAP and FAULTSVC (R339, R402) -/

/-- The table of a level on the walk of an address: every entry above must be VALID without LEAF (R402). -/
def State.tableOf (va : Nat) : Nat → Nat → Nat → Option Nat
  | 0, _, table => some table
  | n + 1, level, table =>
    let pte : Word := BitVec.ofNat 64 (s.num (table + 8 * vaIndex va level) 8)
    if fld pte 0 1 == 1 && fld pte 1 1 == 0 then State.tableOf va n (level + 1) (fld pte 16 36 * 65536) else none

/-- Translation caches drop every entry of an address space that meets a range (R402). -/
def State.tlbDrop (asid lo n : Nat) : State :=
  let meets := fun (e : Tlb) => e.job == asid && overlap (e.vpage * 2 ^ pageBits e.level) (2 ^ pageBits e.level) lo n
  { s with slices := mapTab (fun _ (x : Slice) => { x with tlb := x.tlb.filter fun e => !meets e }) s.slices }

/-- MAP (R402): stash lines of the old page are written back and dropped, the entry is written whole, no cache holds a stale
copy, and the command completes once every access under the old mapping has performed (R205, R335). -/
def execMap (c : Cmd) (s : State) : Out :=
  jobCommand c 0x04 s fun s j =>
    let va := c.num 16 8
    let level := c.num 24 1
    match (if level < 1 || 3 < level || 2 ^ 52 ≤ va then none else s.tableOf va (level - 1) 1 j.root) with
    | none => s.complete c 0x1E01 0
    | some table =>
      let key := table + 8 * vaIndex va level
      let n := 2 ^ pageBits level
      let lo := va / n * n
      let pte : Word := BitVec.ofNat 64 (s.num key 8)
      let old := if fld pte 0 2 == 3 then some ((physOf pte level lo).key, n) else none
      let s := (s.dropPage c.job lo n old).performWrite
        { key, home := homeSlice key, data := leBytes 8 (c.num 32 8), job := 0, va := 0, tid := 0, writer := 0 }
      ((s.tlbDrop j.asid lo n).modLink c.link fun k =>
        { k with mapping := some (c.job, lo, n, c.record), mapOld := old }).mapDone c.link

/-- Requesters that wait for the service of a page's fault, and the state without the fault (R339). -/
def State.faultOf (job page : Nat) : List Waiter :=
  s.dies.flatMap fun e => (e.2.misses.filter fun m => m.faulted && m.job == job && m.page == page).flatMap Miss.who
def State.clearFault (job page : Nat) : State :=
  let mine := fun (m : Miss) => m.faulted && m.job == job && m.page == page
  let s := s.fold (s.dies.filter fun e => e.2.misses.any mine) fun s e => s.note job e.1
  { s with dies := mapTab (fun _ (d : Die) => { d with misses := d.misses.filter fun m => !mine m }) s.dies }

/-- The take that is parked by a requester's fault, and the trap (R204, R161). -/
def State.faultTake (w : Waiter) : Option (Take × (TrapRec → Bool)) :=
  match w.who with
  | .firing pid fid =>
    let sel := fun (k : TrapRec) => k.cause == 2 && k.pid == pid && !k.info.getLsbD 63
    ((s.takes.map (·.2)).find? fun t => (t.parked.any fun k => k.pid == pid && k.firing.fid == fid) && t.traps.any sel).map
      fun t => (t, sel)
  | .matrix pid op =>
    let sel := fun (k : TrapRec) => k.cause == 2 && k.pid == pid && k.info.getLsbD 63
    ((s.matOpOf op).bind fun o => s.take o.tid).bind fun t => if t.traps.any sel then some (t, sel) else none
  | .stream _ | .message _ => none

/-- A serviced fault releases a requester (R339); a stream goes on by itself (R254). -/
def State.releaseWaiter (w : Waiter) : State :=
  match w.who with
  | .message mid => s.modMsg mid fun m => { m with stalled := false }
  | .stream _ => s
  | .firing _ _ | .matrix _ _ =>
    match s.faultTake w with
    | some (t, sel) => s.resolveTrap t.tid sel
    | none => s

/-- A refused fault (R339): the take of a requester fails, a stream's too and the stream stops, and a message's job
fails. -/
def State.refuseWaiter (w : Waiter) : State :=
  match w.who with
  | .firing _ _ | .matrix _ _ =>
    match s.faultTake w with
    | some (t, _) => s.failTake t.tid 0x1602 w.unit w.va 0
    | none => s
  | .stream sc =>
    let tid := (s.stream sc).tid
    (s.streamHalt sc true fun x => x.kind != 3).failTake tid 0x1602 w.unit w.va w.context
  | .message mid =>
    match s.msgOf mid with
    | none => s
    | some m => s.failJob { cls := 4, act := actOf 0x1602 4, code := 0x1602, unit := w.unit, job := m.job, addr := w.va }

/-- FAULTSVC (R339, R367). -/
def execFaultsvc (c : Cmd) (s : State) : Out :=
  jobCommand c 0x05 s fun s _ =>
    let va := c.num 16 8
    let ws := s.faultOf c.job (va / 65536)
    let out := c.num 24 1
    if ws.isEmpty || 2 ≤ out then s.complete c 0x1E01 0
    else
      let s := s.clearFault c.job (va / 65536)
      let s := if out == 0 then s.fold ws State.releaseWaiter else s.fold ws State.refuseWaiter
      s.complete c 0 0

/-! ## PLOAD, QREG, RESUME (R27, R259, R342) -/

/-- The planes of a job's contract on a die. -/
def Job.planesOn (j : Job) (die : Nat) : Nat := ((j.contract[die]?).map Contract.planes).getD 0

/-- PLOAD (R27, R367): the image's region is requested, and the command completes when it is eligible. -/
def execPload (c : Cmd) (s : State) : Out :=
  jobCommand c 0x06 s fun s j =>
    let die := c.num 24 1
    match find s.planeImages (c.num 16 8) with
    | none => s.complete c 0x1E04 0
    | some m =>
      let key := regionKey j.id die m.rid
      if m.scriptSize % 256 != 0 || !m.cells.all CellImage.formed then s.complete c 0x1E04 0
      else
      let free := match s.region key with | none => true | some r => r.place == .torn
      if 8 ≤ die || j.diemask / 2 ^ die % 2 == 0 || j.planesOn die / 2 ^ m.plane % 2 == 0 || !free || j.stopped then
        s.complete c 0x1E01 0
      else
        let m := { m with die }
        let s := s.modJob j.id fun j =>
          { j with decl := { j.decl with regions := (j.decl.regions.filter fun x => !(x.die == die && x.rid == m.rid)) ++ [m] } }
        let r : Region := { key, job := j.id, die, rid := m.rid, image := m, age := s.clk, shadow := if j.paired then key + 2 ^ 32 else 0 }
        let s := { s with regions := ins s.regions key r }
        let s := if j.paired then { s with regions := ins s.regions (key + 2 ^ 32) { r with key := key + 2 ^ 32, shadow := 0 } } else s
        s.modLink c.link fun k => { k with loading := some (key, c.record) }

/-- The registration of a queue by its header's address: none where the header is malformed, HEAD differs from TAIL, or
the queue is registered already (R259). -/
def State.registerQueue (job va : Nat) : Option State :=
  if va % 64 != 0 || (s.queueOf job va).isSome then none
  else (s.placeOf job va true).bind fun p =>
    let h : BitVec 512 := BitVec.ofNat 512 (s.num p.key 64)
    let serve := recNum h 17 1
    let named := ((s.job job).map fun j => j.diemask / 2 ^ serve % 2 == 1).getD false
    if recNum h 0 8 != recNum h 8 8 || 20 < recNum h 16 1 || 8 ≤ serve || !named || recNum h 18 46 != 0 then none
    else
      let q : QueueReg := { job, va, key := p.key, home := p.die * 64 + p.slice }
      some (s.modDie serve fun d => { d with queues := d.queues ++ [q] })

/-- QREG (R259, R367). -/
def execQreg (c : Cmd) (s : State) : Out :=
  jobCommand c 0x07 s fun s _ =>
    match s.registerQueue c.job (c.num 16 8) with
    | none => s.complete c 0x1E01 0
    | some s => s.complete c 0 0

/-- RESUME (R342, R367): the take that BRK parked under DEBUG is unparked. -/
def execResume (c : Cmd) (s : State) : Out :=
  jobCommand c 0x0D s fun s j =>
    let brk := fun (k : TrapRec) => k.cause == 12
    match s.takeOf (regionKey j.id (c.num 16 1) (c.num 17 1)) (c.num 18 1) with
    | none => s.complete c 0x1E01 0
    | some t =>
      if c.num 16 1 < 8 && j.debug && t.colour != 15 && t.traps.any brk && !t.failing then (s.resolveTrap t.tid brk).complete c 0 0
      else s.complete c 0x1E01 0

/-! ## QUERY, ATTEST, PATCH, RAS, POWER (R367, R371, R372, R376, R377) -/

/-- The 64 entries of a die's frame table and its DROVERCFG, by the layouts of R271 (log 26). -/
def State.tableBytes (die : Nat) : List Byte :=
  (List.range 64).flatMap (fun k => leBytes 4 (s.frameEntry die k).toNat) ++ leBytes 4 ((s.die die).bypass % 256)

/-- How many windows, stream contexts, dependence counters, timeline counters and message classes of a die no job holds
(R366, R367, R370). -/
def State.freeCounts (die : Nat) : List Nat :=
  let held (f : Declared → List Nat) (per : Nat) (firm : List Nat) : Nat :=
    ((s.jobs.flatMap fun e => f e.2.decl) ++ firm).countP fun n => n / per == die
  [4096 - held Declared.windows 4096 [48 * 64 + 63, (3 * 64 + 16) * 64 + 63], 1024 - held Declared.streams 2048 [],
   4096 - held Declared.dctrs 4096 [], 256 - held Declared.tctrs 256 [255, 3 * 256 + 255],
   7 - (s.die die).classes.countP fun e => e.2.job != 0]

/-- QUERY (R367): the identity key and certificate are bytes of the part. Selector 2 answers with the frame tables and
DROVERCFG words of R271, die after die, selector 3 with the free counts of each die as 32-bit words, and selector 0 with the
mode; the order of the words is the model's, and temperatures and draw are free (log 5, log 26). -/
def execQuery (c : Cmd) (s : State) : Out :=
  command c 0x08 s fun s =>
    let a := c.num 24 8
    let put := fun (s : State) (bs : List Byte) => (State.hostWrite (bs.length / 64 + 2) s a bs).complete c 0 0
    match c.num 16 1 with
    | 0 => let (s, v) := s.freeNum 63; put s (leBytes 1 s.pkg.mode ++ leBytes 63 v)
    | 1 =>
      let key := (List.range 1793).map fun i => Config.identityKey.getD i 0
      put s (key ++ Config.certificate)
    | 2 =>
      if (s.job c.job).isNone then s.complete c 0x1E02 0
      else put s ((List.range 8).flatMap s.tableBytes)
    | 3 => put s ((List.range 8).flatMap fun d => (s.freeCounts d).flatMap (leBytes 4))
    | _ => s.complete c 0x1E01 0

/-- The first 256 bytes of an attestation report, which its signature covers (R372). -/
def State.reportBody (c : Cmd) : List Byte :=
  let digest := ((s.job c.job).map fun j => j.decl.digest).getD 0
  let key := (List.range 1793).map fun i => Config.identityKey.getD i 0
  let head := leBytes 32 (c.num 16 32) ++ leBytes 64 (Config.shake256 key).toNat ++ leBytes 4 s.pkg.fwver.toNat
    ++ leBytes 4 s.pkg.patchver ++ leBytes 64 s.pkg.patchDigest.toNat ++ leBytes 64 digest.toNat
  head ++ leBytes 2 (min 1280 (Config.falconLen head)) ++ leBytes 22 0

/-- ATTEST (R372): a report of 1,536 bytes; JOB is 0 or an admitted job. -/
def execAttest (c : Cmd) (s : State) : Out :=
  command c 0x09 s fun s =>
    if c.job != 0 && (s.job c.job).isNone then s.complete c 0x1E02 0
    else
      let body := s.reportBody c
      let n := leNat ((body.drop 232).take 2)
      let sig := (List.range 1280).map fun i => if i < n then (Config.falconSign body).getD i 0 else 0
      (State.hostWrite 32 s (c.num 48 8) (body ++ sig)).complete c 0 0

/-- PATCH (R371): the checks, then flash; the image takes effect at the next reset. -/
def execPatch (c : Cmd) (s : State) : Out :=
  command c 0x0F s fun s =>
    match find s.patches (c.num 16 8) with
    | none => s.complete c 0x1E05 0
    | some p =>
      if !p.good || p.length != c.num 24 4 then s.complete c 0x1E05 0
      else if p.version < s.pkg.rollback then s.complete c 0x1E06 0
      else ({ s with pkg := { s.pkg with flash := some p } } : State).complete c 0 0

/-- RAS (R367). -/
def execRas (c : Cmd) (s : State) : Out :=
  command c 0x0C s fun s =>
    let m := c.num 16 1
    if 2 ≤ m then s.complete c 0x1E01 0 else ({ s with pkg := { s.pkg with rasPaired := m == 1 } } : State).complete c 0 0

/-- MMAs per cell per frame of a mode (R376). -/
def modeMmas (mode : Nat) : Nat := if mode == 0 then 256 else if mode == 1 then 192 else 128
/-- A cap byte of POWER: 0 means the mode's figure (R367). -/
def capOf (mode b : Nat) : Nat := if b == 0 then modeMmas mode else b

/-- POWER (R367, R376, R377): it takes effect, and completes, at the next frame start. -/
def execPower (c : Cmd) (s : State) : Out :=
  command c 0x0B s fun s =>
    let mode := c.num 16 1
    let bad := (List.range 8).any fun d => let b := c.num (24 + d) 1; b != 0 && (b < 16 || modeMmas mode < b)
    if 3 ≤ mode || bad then s.complete c 0x1E01 0
    else if s.jobs.any fun e => e.2.minmode < mode then s.complete c 0x1E07 0
    else { s with pkg := { s.pkg with pendPower := s.pkg.pendPower ++ [(c.link, c.record, s.clk / 16384)] } }

end Sys2Proof.Machine
end

