-- ==== Sys2Proof/Machine/Admit.lean ====
section
/-!
DEFINITION. Admission, cancellation and the end of a job (R25, R272, R273, R308, R317, R367, R369, R370, R393).
-/
namespace Sys2Proof.Machine

variable (s : State)

/-! ## The job descriptor (R369) -/

/-- A job descriptor of 128 bytes, and its numbers. -/
abbrev JobDesc := BitVec 1024
def jdNum (d : JobDesc) (byte n : Nat) : Nat := fld d (8 * byte) (8 * n)

/-- The 128 bytes at a host address. -/
def State.hostRecord (a : Nat) : BitVec 1024 := BitVec.ofNat 1024 (s.num (hostKey a) 128)

/-- Dies of a mask. -/
def diesOf (mask : Nat) : List Nat := (List.range 8).filter fun d => mask / 2 ^ d % 2 == 1

/-- A contract entry of 128 bytes (R369). -/
def contractOf (w : BitVec 1024) : Contract :=
  { planes := fld w 0 4, slots := fld w 8 8, resident := fld w 16 1 == 1, memb := fld w 64 64
    linkb := (List.range 4).map fun p => fld w (128 + 32 * p) 32
    bound := (List.range 8).map fun c => (fld w (256 + 96 * c) 32, fld w (288 + 96 * c) 32, fld w (320 + 96 * c) 32) }
/-- Reserved bits of a contract entry are zero. -/
def contractClear (w : BitVec 1024) : Bool := fld w 4 4 == 0 && fld w 17 7 == 0 && fld w 24 40 == 0

/-- The contract entries that a descriptor names, one for each die. -/
def State.contractAt (d : JobDesc) (die : Nat) : BitVec 1024 := s.hostRecord (jdNum d 24 8 + 128 * die)

/-- The descriptor is well formed, with the contract entries of its dies (R369, R370). -/
def State.descWellFormed (d : JobDesc) : Bool :=
  jdNum d 0 2 != 0 && jdNum d 4 1 != 0 && fld d 42 2 != 3 && fld d 45 3 == 0 && jdNum d 6 2 == 0
    && jdNum d 8 8 % 65536 == 0 && jdNum d 8 8 < 2 ^ 52 && jdNum d 72 56 == 0
    && (diesOf (jdNum d 4 1)).all fun x => contractClear (s.contractAt d x)

/-- Addresses, and records of a size, in a list in host memory. -/
def State.hostList (a n size : Nat) : List Nat := (List.range n).map fun i => s.num (hostKey (a + size * i)) size

/-- The job of a descriptor and its image list of NIMG entries (R369); FLAGS[4] takes the default of RAS (R367). R369 gives bits
[22:0] of an EPTAB word and says nothing of bits [63:23]: they are ignored (DESIGN CHOICE, log 58). -/
def State.jobOf (d : JobDesc) (decl : Declared) (link : Nat) : Job :=
  { id := jdNum d 0 2, asid := jdNum d 2 2, link, diemask := jdNum d 4 1, debug := fld d 41 1 == 1, minmode := fld d 42 2
    paired := if fld d 44 1 == 1 then s.pkg.rasPaired else fld d 40 1 == 1
    root := jdNum d 8 8, spill := jdNum d 16 4, quota := jdNum d 20 4
    contract := (List.range 8).map fun x => if jdNum d 4 1 / 2 ^ x % 2 == 1 then contractOf (s.contractAt d x) else {}
    decl
    endpoints := (s.hostList (jdNum d 64 8) (jdNum d 62 2) 8).map fun w => (w % 2 ^ 22, w / 2 ^ 22 % 2 == 1) }

/-! ## What the images name (R370) -/

/-- The die timeline counters that the TWAIT and TREAD words of an image name (R263). -/
def PlaneImage.timelines (m : PlaneImage) : List Nat :=
  m.cells.flatMap fun k => k.prog.filterMap fun w =>
    match decodeStage w with
    | .ok (.twait o) | .ok (.tread o) => if fld o.kreg 10 2 == 0 then some (fld o.imm 0 3 * 256 + fld o.kreg 0 8) else none
    | _ => none

/-- The numbers of a list, each once. -/
def once (l : List Nat) : List Nat := l.foldl (fun acc n => if acc.contains n then acc else acc ++ [n]) []

/-- The image list with the resources that its plane images and window records name: windows with a record, stream contexts with a
program that runs, counters of TWAIT and TREAD words and of window actions (R370). What other records and sections name is listed
by the image list itself (log 28). -/
def Declared.named (x : Declared) : Declared :=
  let acts := fun (kind : Nat) => x.armed.filterMap fun a =>
    let r := (List.range 64).map fun i => (x.memory.findSome? fun m =>
      if m.1 ≤ a.2 + i && a.2 + i < m.1 + m.2.length then m.2[a.2 + i - m.1]? else none).getD 0
    if (r.getD 21 0).toNat % 4 == kind then some (leNat ((r.drop 24).take 8)) else none
  { x with
    windows := once (x.windows ++ x.armed.map (·.1))
    streams := once (x.streams ++ x.regions.flatMap fun m => m.runs.map fun e => (m.die * 64 + e.1) * 32 + e.2.1)
    dctrs := once (x.dctrs ++ acts 2)
    tctrs := once (x.tctrs ++ acts 3 ++ x.regions.flatMap PlaneImage.timelines) }

/-! ## The images' own checks (R370: BADIMAGE) -/

/-- The bytes of a memory image at an address. -/
def Declared.byteAt (x : Declared) (a : Nat) : Byte :=
  (x.memory.findSome? fun m => if m.1 ≤ a && a < m.1 + m.2.length then m.2[a - m.1]? else none).getD 0
def Declared.bytesAt (x : Declared) (a n : Nat) : List Byte := (List.range n).map fun i => x.byteAt (a + i)

/-- A binding word without reserved bits, of a size that a ring can have (R107). -/
def wordOk (w : Nat) : Bool :=
  w / 2 ^ 39 == 0 && w / 2 ^ 35 % 2 == 0 && w / 2 ^ 8 % 2 ^ 10 == 0 && 2 ≤ w / 2 ^ 28 % 16 && w / 2 ^ 28 % 16 ≤ 10

/-- A bridge record in itself (R107, R308). -/
def bridgeOk (w : BitVec 512) : Bool :=
  wordOk (recNum w 0 8) && wordOk (recNum w 8 8) && fld w 131 5 == 0 && fld w 136 3 != 7 && 1 ≤ fld w 144 3
    && fld w 144 3 ≤ 4 && fld w 147 5 == 0 && recNum w 19 1 == 0
    && 4 ≤ recNum w 20 2 && recNum w 24 40 == 0

/-- An image of a region holds the ring of a binding word, of its size, with GWIN no more than that (R308). -/
def PlaneImage.hasRing (m : PlaneImage) (w gwin : Nat) : Bool :=
  m.cells.any fun k => k.dx == w % 16 && k.dy == w / 16 % 16 && k.rings.any fun r =>
    r.base == w / 2 ^ 18 % 1024 && r.lg == w / 2 ^ 28 % 16 && decide (gwin ≤ 2 ^ r.lg)

/-- The die of a bridge record: the lowest named die, not the far one, whose region SREGION holds the source ring (the
record does not name it; log 28). -/
def bridgeDie (x : Declared) (dies : List Nat) (w : BitVec 512) : Option Nat :=
  dies.find? fun d => d != fld w 128 3 && x.regions.any fun m =>
    m.die == d && m.rid == recNum w 22 1 && m.hasRing (recNum w 0 8) 0

/-- The images are well formed: every object lies on a named die, windows and bridges have good records (R370). -/
def imagesOk (x : Declared) (dies : List Nat) (bridges : List (BitVec 512)) : Bool :=
  x.wellFormed && x.regions.all (fun m =>
      dies.contains m.die && m.plane < 4 && m.rid < 256 && m.scriptSize % 256 == 0 && m.cells.all CellImage.formed)
    && x.windows.all (fun w => dies.contains (w / 4096)) && x.streams.all (fun c => dies.contains (c / 2048) && c % 32 < 16)
    && x.dctrs.all (fun n => dies.contains (n / 4096)) && x.tctrs.all (fun n => dies.contains (n / 256))
    && x.classes.all (fun c => dies.contains c.1 && c.2 < 7) && x.start.all (fun e => x.regions.any fun m => m.die == e.1 && m.rid == e.2.1)
    && x.armed.all (fun a => x.windows.contains a.1 && recordOk (x.bytesAt a.2 64))
    && bridges.all fun w => bridgeOk w && (bridgeDie x dies w).isSome && dies.contains (fld w 128 3)
        && x.regions.any fun m => m.die == fld w 128 3 && m.rid == recNum w 23 1 && m.hasRing (recNum w 8 8) (recNum w 20 2)

/-! ## The checks of a die (R273, R370) -/

/-- The entries of the admitted jobs for a die that they name, with one more. -/
def State.contractsOn (die : Nat) (c : Contract) : List Contract :=
  (s.jobs.filterMap fun e => if e.2.diemask / 2 ^ die % 2 == 1 then e.2.contract[die]? else none) ++ [c]
def sumOf (l : List Contract) (f : Contract → Nat) : Nat := l.foldl (fun n c => n + f c) 0

/-- Two contracts of a die may not share planes where one is RESIDENT (R273). -/
def planesClash : List Contract → Bool
  | [] => false
  | c :: r => r.any (fun d => (c.resident || d.resident) && c.planes &&& d.planes != 0) || planesClash r

/-- The bound of a class holds: B_c ≥ F_c × 16,384 (R273). -/
def boundOk (c : Contract) (b : Nat × Nat × Nat) : Bool :=
  let f := b.2.2 * ((b.2.1 + 256 * c.slots - 1) / (256 * c.slots)) + 2 + (if c.resident then 0 else 3)
  f * 16384 ≤ b.1

/-- What the firmware keeps for itself: window 63 of slice 48 of die 0 and of slice 16 of die 3, and timeline counter 255
of those dies (R366). -/
def firmWindows : List Nat := [48 * 64 + 63, (3 * 64 + 16) * 64 + 63]
def firmTimelines : List Nat := [255, 3 * 256 + 255]

/-- The resources on a die that the images declare are free (R370), and the die is not fenced (R392). -/
def State.resourcesFree (die : Nat) (x : Declared) (nbr : Nat) : Bool :=
  let held := s.jobs.map fun e => e.2.decl
  let free (f : Declared → List Nat) (per : Nat) (firm : List Nat) : Bool :=
    (f x).all fun n => n / per != die || (!firm.contains n && held.all fun y => !(f y).contains n)
  !(s.die die).fenced && free Declared.windows 4096 firmWindows && free Declared.streams 2048 []
    && free Declared.dctrs 4096 [] && free Declared.tctrs 256 firmTimelines
    && x.classes.all (fun c => c.1 != die || (s.cls die c.2).job == 0)
    && x.areas.all (fun a => a.1 != die || held.all fun y => y.areas.all fun b => !(b.1 == die && overlap a.2.1 a.2.2 b.2.1 b.2.2))
    && (s.die die).bridges.length + nbr ≤ 64

/-- The lowest reason 1 to 7 that refuses a job on a die (R370); `t` is the state with the job in place, in which its
addresses translate. -/
def State.dieReason (t : State) (j : Job) (die nbr : Nat) : Nat :=
  let c := (j.contract[die]?).getD {}
  let all := s.contractsOn die c
  let x := j.decl
  if c.slots == 0 || 60 < sumOf all Contract.slots then 1
  else if 125829120 < sumOf all Contract.memb then 2
  else if (List.range 4).any fun p => 15170370 < sumOf all fun c => c.linkb.getD p 0 then 3
  else if planesClash all || x.regions.any fun m => m.die == die && c.planes / 2 ^ m.plane % 2 == 0 then 4
  else if c.bound.any fun b => !boundOk c b then 5
  else if !s.resourcesFree die x nbr then 6
  else if x.armed.any (fun a =>
      let r := x.bytesAt a.2 64
      a.1 / 4096 == die && !t.homedOn j.id (leNat (r.take 8)) (64 * leNat ((r.drop 8).take 4)) die) then 7
  else if die == j.dies.headD 0 && x.memory.any (fun m =>
      (List.range (pagesOf m.1 m.2.length)).any fun i => (t.placeOf j.id (m.1 + 65536 * i) false).isNone) then 7
  else 0

/-! ## The steps of an admission (R370) -/

/-- The memory images are written at the job's addresses, before any step reads them (log 28). -/
def State.writeImages (job : Nat) (x : Declared) : State :=
  s.fold x.memory fun s m => s.fold (m.2.zip (List.range m.2.length)) fun s b =>
    match s.placeOf job (m.1 + b.2) false with
    | some p => s.performWrite { key := p.key, home := p.die * 64 + p.slice, data := [b.1], job := 0, va := 0, tid := 0, writer := 0 }
    | none => s

/-- Counters, stream contexts and message classes become the job's, at their reset values (R230, R261, R291). -/
def State.assign (j : Job) : State :=
  let x := j.decl
  let s := s.fold x.dctrs fun s n => s.modDie (n / 4096) fun d => { d with deps := put 0 d.deps (n % 4096) 0 }
  let s := s.fold x.tctrs fun s n => s.modDie (n / 256) fun d => { d with timelines := put 0 d.timelines (n % 256) 0 }
  let s := s.fold x.streams fun s c =>
    let s := s.modStream c fun _ => { job := j.id }
    if j.paired then s.modStream (c + 16) fun _ => { job := j.id } else s
  s.fold x.classes fun s c => s.modClass c.1 c.2 fun _ => { job := j.id }

/-- Bridges are installed in the lowest free contexts (R308). -/
def State.installBridges (j : Job) (l : List (BitVec 512)) : State :=
  s.fold l fun s w =>
    match bridgeDie j.decl j.dies w with
    | none => s
    | some d =>
      match (List.range 64).find? fun b => (s.bridge d b).isNone with
      | none => s
      | some b => s.modDie d fun x => { x with bridges := ins x.bridges b { job := j.id, record := w } }

/-- Windows are armed from their records (R216). -/
def State.armWindows (j : Job) : State := s.fold j.decl.armed fun s a => s.arm j.id a.1 (j.decl.bytesAt a.2 64) a.2

/-- The shadow copy of a die's frame table that the next write changes. -/
def Die.nextFrame (d : Die) : Tab (BitVec 32) := d.shadow.getD d.frame

/-- SLOTS entries of each named die are the job's: the lowest free ones, naming the lowest plane of its set (R272; the
choice is the firmware's, log 9). -/
def State.frameTables (j : Job) : State :=
  s.fold j.dies fun s die =>
    let c := (j.contract[die]?).getD {}
    let plane := ((List.range 4).find? fun p => c.planes / 2 ^ p % 2 == 1).getD 0
    s.modDie die fun d =>
      let t := d.nextFrame
      let free := ((List.range 60).filter fun k => look 0 t k == 0).take c.slots
      let e : BitVec 32 := BitVec.ofNat 32 (j.id * 65536 + 0x4000 + plane * 4096)
      { d with shadow := some (free.foldl (fun t k => put 0 t k e) t) }

/-- The regions that a job's ADMIT places and loads, each with its shadow copy in paired mode (R329, R370 step 6). -/
def Job.regionKeys (j : Job) : List Nat :=
  j.decl.regions.flatMap fun m =>
    let key := regionKey j.id m.die m.rid
    if j.paired then [key, key + 2 ^ 32] else [key]

/-- Regions are requested, each with its shadow copy in paired mode (R27, R329). -/
def State.askRegions (j : Job) : State :=
  s.fold j.decl.regions fun s m =>
    let key := regionKey j.id m.die m.rid
    let r : Region :=
      { key, job := j.id, die := m.die, rid := m.rid, image := m, age := s.clk, shadow := if j.paired then key + 2 ^ 32 else 0 }
    let s := { s with regions := ins s.regions key r }
    if j.paired then { s with regions := ins s.regions (key + 2 ^ 32) { r with key := key + 2 ^ 32, shadow := 0 } } else s

/-- The queues of a list are registered, all or none (R259). -/
def State.registerAll (job : Nat) : State → List Nat → Option State
  | s, [] => some s
  | s, va :: r => (s.registerQueue job va).bind fun s => State.registerAll job s r

/-- ADMIT (R369, R370): the checks in their order, then the steps. Placing and loading take their own time (R27); the start slates
and OK follow them. -/
def execAdmitJob (c : Cmd) (s : State) : Out :=
  command c 0x02 s fun s =>
    let d := s.hostRecord (c.num 16 8)
    let refuse := fun (die reason : Nat) => s.complete c 0x1E03 (die * 256 + reason)
    if !s.descWellFormed d then refuse 0 9
    else if (s.job (jdNum d 0 2)).isSome then refuse 0 8
    else
      match find s.images (jdNum d 32 8) with
      | none => s.complete c 0x1E04 0
      | some list =>
        let x := list.named
        let j := s.jobOf d x c.link
        let bridges := (s.hostList (jdNum d 54 8) (jdNum d 52 2) 64).map fun n => BitVec.ofNat 512 n
        if x.entries != jdNum d 40 2 || !imagesOk x j.dies bridges then s.complete c 0x1E04 0
        else
          let t := { s with jobs := ins s.jobs j.id j }
          let nbr := fun (die : Nat) => (bridges.filter fun w => bridgeDie x j.dies w == some die).length
          match j.dies.findSome? fun die =>
              let r := s.dieReason t j die (nbr die)
              if r == 0 then none else some (die, r) with
          | some (die, r) => refuse die r
          | none =>
            match ((t.writeImages j.id x).assign j).registerAll j.id (s.hostList (jdNum d 44 8) (jdNum d 42 2) 8) with
            | none => s.complete c 0x1E04 0
            | some t =>
              let t := ((t.installBridges j bridges).armWindows j).frameTables j
              let t := (t.askRegions j).modJob j.id fun j => { j with admitting := some (j.regionKeys, c.record) }
              t.regionLoaded j.id 0

/-! ## Dropping a job (R255, R317, R393) -/

/-- A decoded message of a job that is dropped still performs its writes, without completions (R317): each part in its page's own
place, where that page is mapped for writing. An access of class 7 performs as its plane's operation does. -/
def State.lastWrites (m : Msg) : State :=
  if m.performed || m.carried || !(m.decoded || m.kind == 5) then s
  else
    match m.kind with
    | 0 | 3 | 6 => s.fold m.pieces fun s e =>
        match s.placeOf m.job (m.raddr + e.1) true with
        | none => s
        | some p => let x := s.pieceAt m p e; State.msgWrites x 66 s x.raddr x.data
    | 4 =>
      match (s.plane m.pid).memq.find? fun o => o.isMsg m.pid m && o.got.isNone with
      | none => s
      | some o => (s.homeAct m.pid o).1
    | 5 => State.msgWrites m 66 s m.raddr m.data
    | _ => s

/-- The frontier unit of a job is cleared; its ticket count stays (R283). -/
def Core.dropJob (c : Core) (job : Nat) (tids : List Nat) : Core :=
  { c with
    park := c.park.filter fun k => !tids.contains k.2.tid
    trapQ := c.trapQ.filter fun t => !tids.contains t
    tokQ := c.tokQ.filter fun k => !tids.contains k.2.tid
    killQ := c.killQ.filter fun k => !tids.contains k.2.1
    store := c.store.filter fun m => !(m.job == job)
    spill := c.spill.filter fun m => !(m.job == job)
    fr := if c.fr.job == job then { ticket := c.fr.ticket } else c.fr }

/-- A die forgets a job: slates, queues, barriers, faults, classes, bridges, counts under way and frame entries. -/
def Die.dropJob (d : Die) (job : Nat) (keys mids wins : List Nat) : Die :=
  { d with
    held := d.held.filter fun h => !(h.job == job)
    queues := d.queues.filter fun q => !(q.job == job)
    barriers := d.barriers.filter fun b => !keys.contains b.region
    misses := d.misses.filter fun m => !(m.job == job)
    classes := d.classes.filter fun e => !(e.2.job == job)
    bridges := d.bridges.filter fun e => !(e.2.job == job)
    slots := d.slots.filter fun x => !mids.contains x.mid
    counts := d.counts.filter fun c => !wins.contains c.1
    actions := d.actions.filter fun a => !(a.job == job)
    linkb := d.linkb.filter fun e => !(e.1 / 4 == job)
    shadow := some (d.nextFrame.filter fun e => !(fld e.2 16 16 == job)) }

/-- A slice forgets a job: windows, stream contexts, pins, translations and budget. -/
def Slice.dropJob (x : Slice) (job asid : Nat) : Slice :=
  { x with
    wins := x.wins.filter fun w => !(w.2.job == job)
    streams := x.streams.filter fun e => !(e.2.job == job)
    pins := x.pins.filter fun p => !(p.2 == job)
    tlb := x.tlb.filter fun e => !(e.job == asid)
    memb := del x.memb job }

/-- Every engine drops a job (R367, R393): its planes are freed, its stashes written back, its takes and messages are
gone, and what it held is free. Memory operations still outstanding are dropped with it, but for those whose message is decoded
(R317; log 28). -/
def State.dropJob (j : Job) : State :=
  let job := j.id
  let s := s.admitEnds job 0x1E02 (actOf 0x1E02 0)
  let s := s.fold (s.msgs.filter fun m => m.job == job) State.lastWrites
  let keys := (s.regions.filter fun e => e.2.job == job).map (·.1)
  let tids := (s.takes.filter fun e => e.2.job == job).map (·.1)
  let mids := (s.msgs.filter fun m => m.job == job).map Msg.mid
  let ops := fun (p : Plane) => { p with memq := p.memq.filter fun o => !(o.job == job) }
  let s := s.fold (s.planes.filter fun e => keys.contains e.2.owner) fun s e => s.freePlane e.1
  let s := { s with
    planes := mapTab (fun _ p => ops p) s.planes
    ctxs := s.ctxs.filter fun e => !tids.contains e.2.tid
    takes := s.takes.filter fun e => !(e.2.job == job)
    regions := s.regions.filter fun e => !(e.2.job == job)
    exits := s.exits.filter fun e => !keys.contains e.region
    msgs := s.msgs.filter fun m => !(m.job == job)
    wire := s.wire.filter fun f => !(f.job == job)
    cores := mapTab (fun _ c => c.dropJob job tids) s.cores
    dies := mapTab (fun _ d => d.dropJob job keys mids j.decl.windows) s.dies
    slices := mapTab (fun _ x => x.dropJob job j.asid) s.slices }
  let s := s.fold keys fun s k => s.loadEnds k 0x1E02
  let s := s.fold [0, 1] fun s l => s.modLink l fun k => { k with segs := k.segs.filter fun g => !(g.2.1 == job) }
  { s with jobs := del s.jobs job }

/-- CANCEL (R367, R393): its completion follows every record of the job. -/
def execCancel (c : Cmd) (s : State) : Out := jobCommand c 0x03 s fun s j => (s.dropJob j).complete c 0 0

/-- The conditions under which a job ends by itself (R25). Its last takes have ended: their records come before the job's
(R393), and their completion actions run (R25). R25 asks that the job's last region is torn down: a job that owns no region has
none, and ends only by CANCEL (DESIGN CHOICE, log 60). -/
def State.jobOver (j : Job) : Bool :=
  let rs := (s.regions.map (·.2)).filter fun r => r.job == j.id && r.key < 2 ^ 32
  !j.stopped && !rs.isEmpty && s.takes.all (fun e => e.2.job != j.id) && rs.all (fun r => r.place == .torn)
    && s.dies.all (fun e => e.2.queues.all fun q => q.job != j.id || s.qHead q == s.qTail q)
    && s.slices.all (fun e => e.2.wins.all fun w => !(w.2.job == j.id && w.2.state == .armed))
    && s.cores.all fun e => !(e.2.fr.job == j.id && (e.2.fr.state == .run || e.2.fr.state == .saving))

/-- JOBEND (R25, R393): the last entry of the job, and what it held is free. -/
def execJobend (job : Nat) (s : State) : Out :=
  .next <|
    match s.job job with
    | none => s
    | some j =>
      if !s.jobOver j then s
      else
        let s := s.post { cls := 0, act := actOf 0x1E32 0, code := 0x1E32, unit := unitOfNum 0 0 0x1E, job }
        s.dropJob j

end Sys2Proof.Machine
end

