-- ==== Sys2Proof/Machine/Package.lean ====
section
/-!
DEFINITION. The package as a whole: resets and bring-up, frames, power, undervolting, errors of memory and fencing
(R17, R271, R306, R371, R373 to R379, R388 to R392).
-/
namespace Sys2Proof.Machine

variable (s : State)

/-- One second in clk (R32). -/
def secClk : Nat := 1800000000

/-! ## Resets and bring-up (R371, R373 to R375, R379) -/

/-- A package reset (R373, R374): every job, command and queue is gone and bonded DRAM, caches and SRAM are cleared;
flash, the rollback counter, host, CXL and pod memory stay. CLKCOUNT counts from the reset. -/
def State.packageReset (cause detail : Nat) : State :=
  { State.reset with
    agenda := s.agenda
    free := s.free
    serial := s.serial
    mem := s.mem.filter fun e => 2 ^ 64 ≤ e.1
    images := s.images
    planeImages := s.planeImages
    patches := s.patches
    pkg := { resets := s.pkg.resets + 1, cause := BitVec.ofNat 8 cause, detail := BitVec.ofNat 16 detail,
             rollback := s.pkg.rollback, flash := s.pkg.flash, endpoint := s.pkg.endpoint } }

/-- POWERON (R374, R379): the count of resets starts at 1. -/
def execPoweron (s : State) : Out :=
  let s := s.packageReset 1 0
  .next { s with pkg := { s.pkg with resets := 1 } }

/-- RESET (R367, R373): the package resets; a wrong key is refused with BUSY. -/
def execReset (c : Cmd) (s : State) : Out :=
  command c 0x0A s fun s =>
    if c.num 16 8 == 0x52455345545A5858 then s.packageReset 2 c.link else s.complete c 0x1E07 0

def execLinkreset (link : Nat) (s : State) : Out := .next (s.packageReset 3 link)
def execLockstep (s : State) : Out := .next (s.packageReset 4 0)
def execThermal (die : Nat) (s : State) : Out := .next (s.packageReset 5 die)
def execWatchdog (s : State) : Out := .next (s.packageReset 6 0)
def execSupply (rail : Nat) (s : State) : Out := .next (s.packageReset 7 rail)

/-- HOT_RESET (R373, R381): the link's slots, CMDHEAD and queue are reset; untaken commands are dropped, a taken CQSETUP
completes, and entries are held until the next one. -/
def execHotReset (link : Nat) (s : State) : Out :=
  let s := { s with pkg := { s.pkg with trigOrder := s.pkg.trigOrder.filter fun l => l != link } }
  .next (s.modLink link fun k =>
    let own := match k.nextCq with
      | none => []
      | some (_, r) => if ({ link, record := r } : Cmd).quiet then [] else [entryOf { link, record := r } 0 0 s.clk]
    { k with
      slots := [], counted := 0, triggers := 0, cmdhead := 0, cq := none, tail := 0, head := 0, msixTail := 0,
      nextCq := none, held := k.held ++ own ++ k.heldBehind, heldBehind := [] })

/-- The firmware that runs after a reset (R371): the patch image in flash where it verifies and is not below the rollback
counter, which it then sets; else the base firmware, with PATCHREJ. -/
def Pkg.boot (p : Pkg) : Pkg :=
  match p.flash with
  | none => p
  | some x =>
    if x.good && p.rollback ≤ x.version then
      { p with fwver := BitVec.ofNat 16 x.version, patchver := x.version, patchDigest := x.digest, rollback := x.version }
    else { p with patchrej := true }

/-- BRING_UP (R375): self-test, patch verification, training and clearing; then READY. -/
def execBringUp (ok : Bool) (s : State) : Out :=
  .next (if ok && !s.pkg.ready then { s with pkg := { s.pkg.boot with ready := true } } else s)

/-! ## Frames (R271, R272, R306, R376, R377) -/

/-- A change of a die's SRAM voltage, or of whether it is undervolted: every counter of its arrays restarts (R378). -/
def Die.setUv (d : Die) (step hold clk : Nat) : Die :=
  { d with
    uvStep := step, uvAt := clk, uvHold := hold, uvWin := clk, arrays := []
    arraysLast := if d.uvStep == 0 then d.arraysLast else [] }

/-- The counters of a die's arrays at a clk: each window of 600 s starts from zero. Of a full window the firmware keeps what it has
still to act on: at nominal voltage the arrays that reached 64, below it those that exceeded 32 (R378). -/
def Die.rollUv (d : Die) (clk : Nat) : Die :=
  let n := (clk - d.uvWin) / (600 * secClk)
  let due := d.arrays.filter fun e => if d.uvStep == 0 then 64 ≤ e.2 else 32 < e.2
  if n == 0 then d
  else { d with uvWin := d.uvWin + n * (600 * secClk), arrays := [], arraysLast := due.foldl (fun t e => ins t e.1 e.2) d.arraysLast }

/-- The POWER commands taken in an earlier frame take effect on every die together, and complete (R377, R381). -/
def State.applyPower : State :=
  let due := fun (e : Nat × BitVec 1024 × Nat) => decide (e.2.2 < s.clk / 16384)
  let l := s.pkg.pendPower.filter due
  let s := { s with pkg := { s.pkg with pendPower := s.pkg.pendPower.filter fun e => !due e } }
  s.fold l fun s e =>
    let c : Cmd := { link := e.1, record := e.2.1 }
    let mode := c.num 16 1
    let uv := fld c.record 136 1 == 1
    let same := uv == s.pkg.uv
    let s := { s with pkg := { s.pkg with mode, uv } }
    let s := s.fold (List.range 8) fun s d => s.modDie d fun x =>
      let x := { x with mmaCap := capOf mode (c.num (24 + d) 1) }
      if same then x else (x.rollUv s.clk).setUv 0 0 s.clk
    s.complete c 0 0

/-- The adaptive code rate of a class at the end of a frame: the class, and whether M has risen (R306). -/
def MsgClass.frame (c : MsgClass) : MsgClass × Bool :=
  let up := c.adapt && decide (c.thresh * c.frameSent < c.frameLost * 65536)
  let quiet := if c.frameLost == 0 then c.quietFrames + 1 else 0
  let rise := up && c.m < c.mmax
  let down := c.adapt && !up && c.quiet ≤ quiet
  ({ c with
      m := if rise then c.m + 1 else if down && c.mmin < c.m then c.m - 1 else c.m
      frameSent := 0, frameLost := 0, quietFrames := if down then 0 else quiet }, rise)

/-- The classes of a die at a frame start; each rise writes a RATEUP record (R306). A code rate is a class's and a die's, while
R316 asks for a port in UNIT: the record names port 0 (DESIGN CHOICE, log 48). -/
def State.frameClasses (die : Nat) : State :=
  s.fold (s.die die).classes fun s e =>
    let (c, rise) := e.2.frame
    let s := s.modClass die e.1 fun _ => c
    if rise then
      s.corrected { cls := 1, act := actOf 0x1705 1, code := 0x1705, unit := unitOfNum die 0 0x17, job := e.2.job }
    else s

/-- FRAME_START (R271): the shadow table takes effect, budgets and MMA counts restart, code rates adapt, and POWER takes
effect. -/
def execFrameStart (die : Nat) (s : State) : Out :=
  let frame := s.clk / 16384
  .next <|
    if (s.die die).lastFrame == frame then s
    else
      let s := s.applyPower
      let s := s.modDie die fun d => { d with lastFrame := frame, frame := d.nextFrame, shadow := none, linkb := [] }
      let s := { s with
        cells := mapTab (fun c (x : CellState) => if c / 256 == die then { x with mmas := 0 } else x) s.cells
        slices := mapTab (fun k (x : Slice) => if k / 64 == die then { x with memb := [] } else x) s.slices }
      s.frameClasses die

/-! ## Power and temperature (R376, R378) -/

/-- POWEROVER (R376): once per second. -/
def execPowerover (_die : Nat) (s : State) : Out :=
  let due := match s.pkg.overAt with | none => true | some t => decide (t + secClk ≤ s.clk)
  .next (if due then
      let s := { s with pkg := { s.pkg with overAt := some s.clk } }
      s.corrected { cls := 1, act := actOf 0x1E0A 1, code := 0x1E0A, unit := unitOfNum 0 0 0x1E }
    else s)

/-- THERMWARN (R376): once per second for a die. -/
def execThermwarn (die : Nat) (s : State) : Out :=
  let due := match (s.die die).warnAt with | none => true | some t => decide (t + secClk ≤ s.clk)
  .next (if due then
      let s := s.modDie die fun d => { d with warnAt := some s.clk }
      s.corrected { cls := 1, act := actOf 0x1E09 1, code := 0x1E09, unit := unitOfNum 0 0 0x1E }
    else s)

/-- UNDERVOLT_STEP (R378): back up one step, kept for 600 s, when an array exceeds 32 in its window; else down one step of
5 mV every 60 s, to 50 mV below nominal. A die that is due for PREDFAIL does not leave nominal voltage. -/
def execUndervoltStep (die : Nat) (s : State) : Out :=
  let s := s.modDie die fun d => d.rollUv s.clk
  let d := s.die die
  let above := !d.arraysLast.isEmpty || d.arrays.any fun e => 32 < e.2
  .next <|
    if !s.pkg.uv || d.noUv then s
    else if above && 0 < d.uvStep then s.modDie die fun d => d.setUv (d.uvStep - 1) (s.clk + 600 * secClk) s.clk
    else if !above && d.uvStep < 10 && d.uvAt + 60 * secClk ≤ s.clk && d.uvHold ≤ s.clk then
      s.modDie die fun d => d.setUv (d.uvStep + 1) 0 s.clk
    else s

/-- PREDFAIL (R378): an array that reached 64 in a full window of 600 s at nominal voltage declares a predictive failure, and
the die stays at nominal until reset. -/
def execPredfail (die array : Nat) (s : State) : Out :=
  let s := s.modDie die fun d => d.rollUv s.clk
  let d := s.die die
  .next <|
    if d.uvStep != 0 || look 0 d.arraysLast array < 64 then s
    else
      let s := s.modDie die fun d => { d with noUv := true, arraysLast := del d.arraysLast array }
      s.corrected { cls := 1, act := actOf 0x1E0B 1, code := 0x1E0B, unit := unitOfNum 0 0 0x1E, addr := array }

/-! ## Errors (R388 to R392) -/

/-- A die is fenced (R392): its record, then DIELOST for each job that names it. -/
def State.fenceDie (die : Nat) : State :=
  if (s.die die).fenced then s
  else
    let unit := unitOfNum die 0 0x14
    let s := s.modDie die fun d => { d with fenced := true }
    let s := s.post { cls := 6, act := actOf 0x1E30 6, code := 0x1E30, unit }
    s.fold (s.jobs.filter fun e => e.2.diemask / 2 ^ die % 2 == 1) fun s e =>
      s.failJob { cls := 4, act := actOf 0x1E31 4, code := 0x1E31, unit, job := e.1 }

/-- DIEFENCE (R392): an uncorrectable error strikes the state of a die's drover, page walker or quiescence detector. -/
def execDiefence (die : Nat) (s : State) : Out := .next (s.fenceDie die)

/-- Events of the last 600 s, with one now. -/
def recent (clk : Nat) (l : List Nat) : List Nat := (l.filter fun t => clk < t + 600 * secClk) ++ [clk]

/-- A way of a set is taken out of use (R390): its pins are dropped. -/
def State.fenceWay (home set way : Nat) : State :=
  let s := s.modSlice home fun x =>
    { x with
      fencedWays := x.fencedWays ++ [set * 16 + way]
      pins := x.pins.filter fun p => !(Config.cacheSet home p.1 == set && Config.cacheWay home p.1 == way) }
  s.post { cls := 5, act := actOf 0x1203 5, code := 0x1203, unit := unitOfNum (home / 64) (home % 64) 0x12 }

/-- An uncorrectable error in a way: the fourth in 600 s fences it (R390). -/
def State.countWay (home set way : Nat) : State :=
  let k := set * 16 + way % 16
  if (s.slice home).fencedWays.contains k then s
  else
    let l := recent s.clk (look [] (s.slice home).ways k)
    let s := s.modSlice home fun x => { x with ways := ins x.ways k l }
    if 4 ≤ l.length then s.fenceWay home set (way % 16) else s

/-- LINE_UE (R389, R390, R392): `kind` 0 CACHEUE, 1 DRAMUE, 2 SRAMUE. The line is poisoned at its home slice; errors of
one way fence it, and 16 DRAMUE in 600 s fence the die. -/
def execLineUe (home key kind way : Nat) (s : State) : Out :=
  let code := if kind == 0 then 0x0C02 else if kind == 1 then 0x1102 else 0x1202
  let engine := if kind == 0 then 0x0C else if kind == 1 then 0x11 else 0x12
  let line := lineOf key
  .next <|
    if 512 ≤ home || 3 ≤ kind then s
    else
      let s := if s.poison.contains line then s else { s with poison := s.poison ++ [line] }
      let s := s.post { cls := 2, act := actOf code 2, code, unit := unitOfNum (home / 64) (home % 64) engine,
                        addr := line * 64 % 2 ^ 64 }
      if kind == 2 then s.countWay home (Config.cacheSet home line) way
      else if kind == 1 then
        let l := recent s.clk (s.die (home / 64)).dramUe
        let s := s.modDie (home / 64) fun d => { d with dramUe := l }
        if 16 ≤ l.length then s.fenceDie (home / 64) else s
      else s

/-- The plane whose accumulator fails, by the unit's cell and the plane. -/
def pidOfUnit (unit : BitVec 16) (plane : Nat) : Nat :=
  pidOf (fld unit 13 3) (cellAt (fld unit 9 4) (fld unit 5 4)) plane

/-- The take whose matrix work meets an error of a context: where the drain in progress meets it, that drain's; else the one that
opened its sums, else the one whose drain or release it holds, else the one whose operation is first in its queue (R155, R157). -/
def Plane.matConsumer (p : Plane) (hand drains : Bool) : Option Nat :=
  let m := p.mat hand
  if drains then m.drain.map Drain.tid
  else if m.open_ then some m.openTid
  else
    match m.drain, m.release with
    | some d, _ => some d.tid
    | none, some r => some r.tid
    | none, none => (p.mq.find? fun o => o.hand == hand).map MatOp.tid

/-- ACCUE (R157, R388): an uncorrectable error of an accumulator is consumed by an MMA, a release, a drain or an MRD, and the
colour that owns the work is purged. -/
def State.accUe (unit : BitVec 16) (plane ctx row : Nat) (drains : Bool) : State :=
  let p := s.plane (pidOfUnit unit plane)
  let i : RecInfo := { cls := 2, act := actOf 0x0202 2, code := 0x0202, unit, detail := ctx + row * 256 }
  match p.matConsumer (ctx != 0) drains with
  | none => s
  | some tid =>
    match s.take tid with
    | none => s.post i
    | some t => (s.postTake t i).purgeTake t.tid false

/-- A UNIT that an engine of a code's family has: its kind is the code's, and a slice's number lies in [12:5] (R18, R387). -/
def unitFits (code : Nat) (unit : BitVec 16) : Bool :=
  let kind := fld unit 0 5
  kind == code / 256 && (kind ≤ 5 || fld unit 5 8 < 64)

/-- CORRECTED_ERROR (R18, R378, R388, R391): a correctable error of an accumulator, a mesh link, a cache, a DRAM channel or a
cache-die array; the last counts for its array. Code 0x0202 is the uncorrectable error of an accumulator, with the
plane in bits [1:0] of `addr` and, in bit 2, whether the drain in progress consumes it. A UNIT that R18 does not allow for the code
names no engine, and nothing happens. -/
def execCorrectedError (code : Nat) (unit : BitVec 16) (addr : BitVec 64) (det : BitVec 256) (s : State) : Out :=
  let i : RecInfo := { cls := 1, act := actOf code 1, code, unit }
  .next <|
    if !unitFits code unit then s
    else if code == 0x0202 then s.accUe unit (fld addr 0 2) (fld det 0 1) (fld det 8 8) (addr.getLsbD 2)
    else if code == 0x0201 then s.corrected { i with detail := fld det 0 16 }
    else if code == 0x0501 then s.corrected { i with detail := fld det 0 2 }
    else if code == 0x0C01 || code == 0x1101 then s.corrected { i with addr := addr.toNat }
    else if code == 0x1201 then
      let s := s.modDie (fld unit 13 3) fun d =>
        let d := d.rollUv s.clk
        { d with arrays := ins d.arrays unit.toNat (look 0 d.arrays unit.toNat + 1) }
      s.corrected { i with addr := addr.toNat }
    else s

/-- CORRECTED_MERGE (R391): the record of merged occurrences, 1 ms after the last of its code and unit. -/
def execCorrectedMerge (code : Nat) (unit : BitVec 16) (s : State) : Out :=
  .next <|
    match s.pkg.merging.find? fun m => m.1.code == code && m.1.unit == unit with
    | none => s
    | some (i, n, at_) =>
      if n == 0 || s.clk < at_ + mergeClk then s
      else
        let s := s.post (i.times n)
        let upd := fun (m : RecInfo × Nat × Nat) => if m.1.code == code && m.1.unit == unit then (i, 0, s.clk) else m
        { s with pkg := { s.pkg with merging := s.pkg.merging.map upd } }

end Sys2Proof.Machine
end

