-- ==== Sys2Proof/Machine/Dispatch.lean ====
section
/-!
DEFINITION. The meaning of every instruction, command and event: one arm for each constructor of Instr.
-/
namespace Sys2Proof.Machine

def exec (i : Instr) (s : State) : Host.Outcome State Fault Refusal :=
  match i with
  | .nop o => Sys2Proof.Machine.execNop o s
  | .endFiring o => Sys2Proof.Machine.execEndFiring o s
  | .add o => Sys2Proof.Machine.execAdd o s
  | .sub o => Sys2Proof.Machine.execSub o s
  | .mul o => Sys2Proof.Machine.execMul o s
  | .mulh o => Sys2Proof.Machine.execMulh o s
  | .mulhu o => Sys2Proof.Machine.execMulhu o s
  | .div o => Sys2Proof.Machine.execDiv o s
  | .divu o => Sys2Proof.Machine.execDivu o s
  | .rem o => Sys2Proof.Machine.execRem o s
  | .remu o => Sys2Proof.Machine.execRemu o s
  | .andS o => Sys2Proof.Machine.execAndS o s
  | .andn o => Sys2Proof.Machine.execAndn o s
  | .orS o => Sys2Proof.Machine.execOrS o s
  | .xorS o => Sys2Proof.Machine.execXorS o s
  | .shl o => Sys2Proof.Machine.execShl o s
  | .shr o => Sys2Proof.Machine.execShr o s
  | .sar o => Sys2Proof.Machine.execSar o s
  | .rotl o => Sys2Proof.Machine.execRotl o s
  | .clz o => Sys2Proof.Machine.execClz o s
  | .ctz o => Sys2Proof.Machine.execCtz o s
  | .popc o => Sys2Proof.Machine.execPopc o s
  | .min o => Sys2Proof.Machine.execMin o s
  | .max o => Sys2Proof.Machine.execMax o s
  | .minu o => Sys2Proof.Machine.execMinu o s
  | .maxu o => Sys2Proof.Machine.execMaxu o s
  | .mov o => Sys2Proof.Machine.execMov o s
  | .sel o => Sys2Proof.Machine.execSel o s
  | .addsh sh o => Sys2Proof.Machine.execAddsh sh o s
  | .addi o => Sys2Proof.Machine.execAddi o s
  | .andi o => Sys2Proof.Machine.execAndi o s
  | .ori o => Sys2Proof.Machine.execOri o s
  | .xori o => Sys2Proof.Machine.execXori o s
  | .shli o => Sys2Proof.Machine.execShli o s
  | .shri o => Sys2Proof.Machine.execShri o s
  | .sari o => Sys2Proof.Machine.execSari o s
  | .rotli o => Sys2Proof.Machine.execRotli o s
  | .lui o => Sys2Proof.Machine.execLui o s
  | .bfx o => Sys2Proof.Machine.execBfx o s
  | .bfxu o => Sys2Proof.Machine.execBfxu o s
  | .bfi o => Sys2Proof.Machine.execBfi o s
  | .cmp cc o => Sys2Proof.Machine.execCmp cc o s
  | .cmpi cc o => Sys2Proof.Machine.execCmpi cc o s
  | .pand o => Sys2Proof.Machine.execPand o s
  | .por o => Sys2Proof.Machine.execPor o s
  | .pxor o => Sys2Proof.Machine.execPxor o s
  | .pnot o => Sys2Proof.Machine.execPnot o s
  | .br o => Sys2Proof.Machine.execBr o s
  | .bl o => Sys2Proof.Machine.execBl o s
  | .ret o => Sys2Proof.Machine.execRet o s
  | .jmpr o => Sys2Proof.Machine.execJmpr o s
  | .rld o => Sys2Proof.Machine.execRld o s
  | .rst o => Sys2Proof.Machine.execRst o s
  | .rpeek o => Sys2Proof.Machine.execRpeek o s
  | .rmark o => Sys2Proof.Machine.execRmark o s
  | .rfmt o => Sys2Proof.Machine.execRfmt o s
  | .claim o => Sys2Proof.Machine.execClaim o s
  | .commit o => Sys2Proof.Machine.execCommit o s
  | .await o => Sys2Proof.Machine.execAwait o s
  | .retire o => Sys2Proof.Machine.execRetire o s
  | .radv o => Sys2Proof.Machine.execRadv o s
  | .rbind o => Sys2Proof.Machine.execRbind o s
  | .runbind o => Sys2Proof.Machine.execRunbind o s
  | .rcast o => Sys2Proof.Machine.execRcast o s
  | .rdet o => Sys2Proof.Machine.execRdet o s
  | .rstat o => Sys2Proof.Machine.execRstat o s
  | .vadd o => Sys2Proof.Machine.execVadd o s
  | .vadds o => Sys2Proof.Machine.execVadds o s
  | .vsub o => Sys2Proof.Machine.execVsub o s
  | .vmul o => Sys2Proof.Machine.execVmul o s
  | .vfma o => Sys2Proof.Machine.execVfma o s
  | .vfms o => Sys2Proof.Machine.execVfms o s
  | .vmin o => Sys2Proof.Machine.execVmin o s
  | .vmax o => Sys2Proof.Machine.execVmax o s
  | .vabs o => Sys2Proof.Machine.execVabs o s
  | .vneg o => Sys2Proof.Machine.execVneg o s
  | .vand o => Sys2Proof.Machine.execVand o s
  | .vor o => Sys2Proof.Machine.execVor o s
  | .vxor o => Sys2Proof.Machine.execVxor o s
  | .vshl o => Sys2Proof.Machine.execVshl o s
  | .vshr o => Sys2Proof.Machine.execVshr o s
  | .vsar o => Sys2Proof.Machine.execVsar o s
  | .vsel o => Sys2Proof.Machine.execVsel o s
  | .vcmp cc o => Sys2Proof.Machine.execVcmp cc o s
  | .vcvt o => Sys2Proof.Machine.execVcvt o s
  | .vrcp o => Sys2Proof.Machine.execVrcp o s
  | .vrsq o => Sys2Proof.Machine.execVrsq o s
  | .vexp2 o => Sys2Proof.Machine.execVexp2 o s
  | .vlog2 o => Sys2Proof.Machine.execVlog2 o s
  | .vscale o => Sys2Proof.Machine.execVscale o s
  | .vredadd o => Sys2Proof.Machine.execVredadd o s
  | .vredmax o => Sys2Proof.Machine.execVredmax o s
  | .vredmin o => Sys2Proof.Machine.execVredmin o s
  | .vscan o => Sys2Proof.Machine.execVscan o s
  | .vcnt o => Sys2Proof.Machine.execVcnt o s
  | .vperm o => Sys2Proof.Machine.execVperm o s
  | .vsplat o => Sys2Proof.Machine.execVsplat o s
  | .vext o => Sys2Proof.Machine.execVext o s
  | .vins o => Sys2Proof.Machine.execVins o s
  | .vpack o => Sys2Proof.Machine.execVpack o s
  | .vunpk o => Sys2Proof.Machine.execVunpk o s
  | .vcomp o => Sys2Proof.Machine.execVcomp o s
  | .vmrg o => Sys2Proof.Machine.execVmrg o s
  | .mma o => Sys2Proof.Machine.execMma o s
  | .mmaAdv o => Sys2Proof.Machine.execMmaAdv o s
  | .mldbHandle o => Sys2Proof.Machine.execMldbHandle o s
  | .mldbBank o => Sys2Proof.Machine.execMldbBank o s
  | .mldbtHandle o => Sys2Proof.Machine.execMldbtHandle o s
  | .mldbtBank o => Sys2Proof.Machine.execMldbtBank o s
  | .mscaHandle o => Sys2Proof.Machine.execMscaHandle o s
  | .mscaBank o => Sys2Proof.Machine.execMscaBank o s
  | .mscbHandle o => Sys2Proof.Machine.execMscbHandle o s
  | .mscbRegister o => Sys2Proof.Machine.execMscbRegister o s
  | .mkb o => Sys2Proof.Machine.execMkb o s
  | .mzero o => Sys2Proof.Machine.execMzero o s
  | .mrel o => Sys2Proof.Machine.execMrel o s
  | .mwait o => Sys2Proof.Machine.execMwait o s
  | .mrd o => Sys2Proof.Machine.execMrd o s
  | .mwr o => Sys2Proof.Machine.execMwr o s
  | .msave o => Sys2Proof.Machine.execMsave o s
  | .mload o => Sys2Proof.Machine.execMload o s
  | .ld o => Sys2Proof.Machine.execLd o s
  | .st o => Sys2Proof.Machine.execSt o s
  | .vld o => Sys2Proof.Machine.execVld o s
  | .vst o => Sys2Proof.Machine.execVst o s
  | .ldBk o => Sys2Proof.Machine.execLdBk o s
  | .stBk o => Sys2Proof.Machine.execStBk o s
  | .vldBk o => Sys2Proof.Machine.execVldBk o s
  | .vstBk o => Sys2Proof.Machine.execVstBk o s
  | .swbLine o => Sys2Proof.Machine.execSwbLine o s
  | .swbAll o => Sys2Proof.Machine.execSwbAll o s
  | .sinvLine o => Sys2Proof.Machine.execSinvLine o s
  | .sinvAll o => Sys2Proof.Machine.execSinvAll o s
  | .spin o => Sys2Proof.Machine.execSpin o s
  | .sunpin o => Sys2Proof.Machine.execSunpin o s
  | .fence o => Sys2Proof.Machine.execFence o s
  | .aadd o => Sys2Proof.Machine.execAadd o s
  | .aadds o => Sys2Proof.Machine.execAadds o s
  | .amin o => Sys2Proof.Machine.execAmin o s
  | .amax o => Sys2Proof.Machine.execAmax o s
  | .aminu o => Sys2Proof.Machine.execAminu o s
  | .amaxu o => Sys2Proof.Machine.execAmaxu o s
  | .aand o => Sys2Proof.Machine.execAand o s
  | .aor o => Sys2Proof.Machine.execAor o s
  | .axor o => Sys2Proof.Machine.execAxor o s
  | .aswp o => Sys2Proof.Machine.execAswp o s
  | .acas o => Sys2Proof.Machine.execAcas o s
  | .atopk o => Sys2Proof.Machine.execAtopk o s
  | .awarm o => Sys2Proof.Machine.execAwarm o s
  | .awdis o => Sys2Proof.Machine.execAwdis o s
  | .awrd o => Sys2Proof.Machine.execAwrd o s
  | .qpush o => Sys2Proof.Machine.execQpush o s
  | .ddec o => Sys2Proof.Machine.execDdec o s
  | .dset o => Sys2Proof.Machine.execDset o s
  | .twait o => Sys2Proof.Machine.execTwait o s
  | .tread o => Sys2Proof.Machine.execTread o s
  | .bar o => Sys2Proof.Machine.execBar o s
  | .yield o => Sys2Proof.Machine.execYield o s
  | .front o => Sys2Proof.Machine.execFront o s
  | .fdone o => Sys2Proof.Machine.execFdone o s
  | .fsave o => Sys2Proof.Machine.execFsave o s
  | .frest o => Sys2Proof.Machine.execFrest o s
  | .sreq o => Sys2Proof.Machine.execSreq o s
  | .sprog o => Sys2Proof.Machine.execSprog o s
  | .slayout o => Sys2Proof.Machine.execSlayout o s
  | .scfg o => Sys2Proof.Machine.execScfg o s
  | .sstop o => Sys2Proof.Machine.execSstop o s
  | .xput o => Sys2Proof.Machine.execXput o s
  | .xget o => Sys2Proof.Machine.execXget o s
  | .xrateRead o => Sys2Proof.Machine.execXrateRead o s
  | .xrateWrite o => Sys2Proof.Machine.execXrateWrite o s
  | .xpath o => Sys2Proof.Machine.execXpath o s
  | .xflush o => Sys2Proof.Machine.execXflush o s
  | .xstat o => Sys2Proof.Machine.execXstat o s
  | .krd o => Sys2Proof.Machine.execKrd o s
  | .kwr o => Sys2Proof.Machine.execKwr o s
  | .trap o => Sys2Proof.Machine.execTrap o s
  | .eret o => Sys2Proof.Machine.execEret o s
  | .brk o => Sys2Proof.Machine.execBrk o s
  | .purge o => Sys2Proof.Machine.execPurge o s
  | .idle o => Sys2Proof.Machine.execIdle o s
  | .haltp o => Sys2Proof.Machine.execHaltp o s
  | .errpop o => Sys2Proof.Machine.execErrpop o s
  | .stageIllegal pc info => Sys2Proof.Machine.execStageIllegal pc info s
  | .expect t ge => Sys2Proof.Machine.execExpect t ge s
  | .look t ge => Sys2Proof.Machine.execLook t ge s
  | .choose t tgt => Sys2Proof.Machine.execChoose t tgt s
  | .pushn n => Sys2Proof.Machine.execPushn n s
  | .retn => Sys2Proof.Machine.execRetn s
  | .fire stage entry asel lit => Sys2Proof.Machine.execFire stage entry asel lit s
  | .emit h m => Sys2Proof.Machine.execEmit h m s
  | .sync l => Sys2Proof.Machine.execSync l s
  | .onerr r l f h => Sys2Proof.Machine.execOnerr r l f h s
  | .accept => Sys2Proof.Machine.execAccept s
  | .scall n lit => Sys2Proof.Machine.execScall n lit s
  | .sret => Sys2Proof.Machine.execSret s
  | .spawn n lit => Sys2Proof.Machine.execSpawn n lit s
  | .trig p c => Sys2Proof.Machine.execTrig p c s
  | .plsw p => Sys2Proof.Machine.execPlsw p s
  | .waitw d sl w => Sys2Proof.Machine.execWaitw d sl w s
  | .kill src => Sys2Proof.Machine.execKill src s
  | .ntdef n => Sys2Proof.Machine.execNtdef n s
  | .scriptIllegal pc info => Sys2Proof.Machine.execScriptIllegal pc info s
  | .cqsetup c => Sys2Proof.Machine.execCqsetup c s
  | .admitJob c => Sys2Proof.Machine.execAdmitJob c s
  | .cancel c => Sys2Proof.Machine.execCancel c s
  | .map c => Sys2Proof.Machine.execMap c s
  | .faultsvc c => Sys2Proof.Machine.execFaultsvc c s
  | .pload c => Sys2Proof.Machine.execPload c s
  | .qreg c => Sys2Proof.Machine.execQreg c s
  | .query c => Sys2Proof.Machine.execQuery c s
  | .attest c => Sys2Proof.Machine.execAttest c s
  | .reset c => Sys2Proof.Machine.execReset c s
  | .power c => Sys2Proof.Machine.execPower c s
  | .ras c => Sys2Proof.Machine.execRas c s
  | .resume c => Sys2Proof.Machine.execResume c s
  | .apmap c => Sys2Proof.Machine.execApmap c s
  | .patch c => Sys2Proof.Machine.execPatch c s
  | .commandTrigger link => Sys2Proof.Machine.execCommandTrigger link s
  | .cqheadWrite link v => Sys2Proof.Machine.execCqheadWrite link v s
  | .registerWrite link off bytes => Sys2Proof.Machine.execRegisterWrite link off bytes s
  | .apertureRead link off n => Sys2Proof.Machine.execApertureRead link off n s
  | .apertureWrite link off bytes => Sys2Proof.Machine.execApertureWrite link off bytes s
  | .cqEntryWrite link => Sys2Proof.Machine.execCqEntryWrite link s
  | .msixSend link => Sys2Proof.Machine.execMsixSend link s
  | .poweron => Sys2Proof.Machine.execPoweron s
  | .bringUp ok => Sys2Proof.Machine.execBringUp ok s
  | .linkreset link => Sys2Proof.Machine.execLinkreset link s
  | .hotReset link => Sys2Proof.Machine.execHotReset link s
  | .lockstep => Sys2Proof.Machine.execLockstep s
  | .thermal die => Sys2Proof.Machine.execThermal die s
  | .watchdog => Sys2Proof.Machine.execWatchdog s
  | .supply rail => Sys2Proof.Machine.execSupply rail s
  | .powerover die => Sys2Proof.Machine.execPowerover die s
  | .thermwarn die => Sys2Proof.Machine.execThermwarn die s
  | .undervoltStep die => Sys2Proof.Machine.execUndervoltStep die s
  | .predfail die array => Sys2Proof.Machine.execPredfail die array s
  | .frameStart die => Sys2Proof.Machine.execFrameStart die s
  | .portIssue die cell bad logBad => Sys2Proof.Machine.execPortIssue die cell bad logBad s
  | .tokenDelivery idx => Sys2Proof.Machine.execTokenDelivery idx s
  | .firingStart pid => Sys2Proof.Machine.execFiringStart pid s
  | .killDelivery idx => Sys2Proof.Machine.execKillDelivery idx s
  | .claimGrant ring => Sys2Proof.Machine.execClaimGrant ring s
  | .commitFilled pid idx => Sys2Proof.Machine.execCommitFilled pid idx s
  | .windowPresent pid => Sys2Proof.Machine.execWindowPresent pid s
  | .retireArrival ring => Sys2Proof.Machine.execRetireArrival ring s
  | .branchDetachTimeout ring branch => Sys2Proof.Machine.execBranchDetachTimeout ring branch s
  | .matrixOpStart pid idx => Sys2Proof.Machine.execMatrixOpStart pid idx s
  | .accRelease pid hand => Sys2Proof.Machine.execAccRelease pid hand s
  | .accDrain pid hand => Sys2Proof.Machine.execAccDrain pid hand s
  | .ownershipResume pid => Sys2Proof.Machine.execOwnershipResume pid s
  | .mwaitComplete pid => Sys2Proof.Machine.execMwaitComplete pid s
  | .loadResponse pid op => Sys2Proof.Machine.execLoadResponse pid op s
  | .storePerform pid op => Sys2Proof.Machine.execStorePerform pid op s
  | .atomicPerform pid op => Sys2Proof.Machine.execAtomicPerform pid op s
  | .windowCount die idx => Sys2Proof.Machine.execWindowCount die idx s
  | .windowAction die idx => Sys2Proof.Machine.execWindowAction die idx s
  | .pageWalk die => Sys2Proof.Machine.execPageWalk die s
  | .pageWalkDone die idx => Sys2Proof.Machine.execPageWalkDone die idx s
  | .streamLoad slice ctx => Sys2Proof.Machine.execStreamLoad slice ctx s
  | .streamWalkStart slice ctx => Sys2Proof.Machine.execStreamWalkStart slice ctx s
  | .streamPointPush slice ctx => Sys2Proof.Machine.execStreamPointPush slice ctx s
  | .streamPointWrite slice ctx => Sys2Proof.Machine.execStreamPointWrite slice ctx s
  | .streamWalkEnd slice ctx => Sys2Proof.Machine.execStreamWalkEnd slice ctx s
  | .streamServiceResume slice ctx => Sys2Proof.Machine.execStreamServiceResume slice ctx s
  | .slateDequeue die => Sys2Proof.Machine.execSlateDequeue die s
  | .takeCreate die => Sys2Proof.Machine.execTakeCreate die s
  | .regionPlace die => Sys2Proof.Machine.execRegionPlace die s
  | .planeLoadDone region => Sys2Proof.Machine.execPlaneLoadDone region s
  | .planeSave region => Sys2Proof.Machine.execPlaneSave region s
  | .saveAbandon region => Sys2Proof.Machine.execSaveAbandon region s
  | .planeRestore region => Sys2Proof.Machine.execPlaneRestore region s
  | .barrierOpen die idx => Sys2Proof.Machine.execBarrierOpen die idx s
  | .timelineWake pid => Sys2Proof.Machine.execTimelineWake pid s
  | .yieldExpiry pid => Sys2Proof.Machine.execYieldExpiry pid s
  | .idleExpiry pid => Sys2Proof.Machine.execIdleExpiry pid s
  | .matchTokenArrive core => Sys2Proof.Machine.execMatchTokenArrive core s
  | .spillReturn core => Sys2Proof.Machine.execSpillReturn core s
  | .frontierIssue core => Sys2Proof.Machine.execFrontierIssue core s
  | .boundaryTake core => Sys2Proof.Machine.execBoundaryTake core s
  | .frontierStreamSlot core => Sys2Proof.Machine.execFrontierStreamSlot core s
  | .frontierComplete core => Sys2Proof.Machine.execFrontierComplete core s
  | .frontierSaveDone core => Sys2Proof.Machine.execFrontierSaveDone core s
  | .headSlotVisible core ctx => Sys2Proof.Machine.execHeadSlotVisible core ctx s
  | .lookstarve core ctx => Sys2Proof.Machine.execLookstarve core ctx s
  | .scriptRecovery core ctx => Sys2Proof.Machine.execScriptRecovery core ctx s
  | .callReturn core ctx => Sys2Proof.Machine.execCallReturn core ctx s
  | .waitwWake core ctx => Sys2Proof.Machine.execWaitwWake core ctx s
  | .takeEnd tid => Sys2Proof.Machine.execTakeEnd tid s
  | .takeFail tid => Sys2Proof.Machine.execTakeFail tid s
  | .jobend job => Sys2Proof.Machine.execJobend job s
  | .deadlock job => Sys2Proof.Machine.execDeadlock job s
  | .latency tid => Sys2Proof.Machine.execLatency tid s
  | .handlerTakeCreate core => Sys2Proof.Machine.execHandlerTakeCreate core s
  | .parkedFiringResume pid => Sys2Proof.Machine.execParkedFiringResume pid s
  | .lineUe home key kind way => Sys2Proof.Machine.execLineUe home key kind way s
  | .correctedError code unit addr det => Sys2Proof.Machine.execCorrectedError code unit addr det s
  | .correctedMerge code unit => Sys2Proof.Machine.execCorrectedMerge code unit s
  | .diefence die => Sys2Proof.Machine.execDiefence die s
  | .comparatorPair region exit => Sys2Proof.Machine.execComparatorPair region exit s
  | .bankDrain cell => Sys2Proof.Machine.execBankDrain cell s
  | .fragmentSend msg => Sys2Proof.Machine.execFragmentSend msg s
  | .fragmentArrive frag => Sys2Proof.Machine.execFragmentArrive frag s
  | .fragmentDiscard idx => Sys2Proof.Machine.execFragmentDiscard idx s
  | .messagePerform msg => Sys2Proof.Machine.execMessagePerform msg s
  | .nackTimeout die slot => Sys2Proof.Machine.execNackTimeout die slot s
  | .sourceResendTimeout msg => Sys2Proof.Machine.execSourceResendTimeout msg s
  | .slotAbortTimeout die slot => Sys2Proof.Machine.execSlotAbortTimeout die slot s
  | .sourceAbortTimeout msg => Sys2Proof.Machine.execSourceAbortTimeout msg s
  | .abortUnanswered msg => Sys2Proof.Machine.execAbortUnanswered msg s
  | .dack frag => Sys2Proof.Machine.execDack frag s
  | .pack frag => Sys2Proof.Machine.execPack frag s
  | .nack frag => Sys2Proof.Machine.execNack frag s
  | .loss frag => Sys2Proof.Machine.execLoss frag s
  | .abort frag => Sys2Proof.Machine.execAbort frag s
  | .getReplyPerform msg => Sys2Proof.Machine.execGetReplyPerform msg s
  | .entryExpire die idx => Sys2Proof.Machine.execEntryExpire die idx s
  | .linkdown die port => Sys2Proof.Machine.execLinkdown die port s
  | .bridgeSend die bridge => Sys2Proof.Machine.execBridgeSend die bridge s
  | .grant die bridge => Sys2Proof.Machine.execGrant die bridge s
  | .bridgeArrival die bridge => Sys2Proof.Machine.execBridgeArrival die bridge s
  | .bridgebreak die bridge => Sys2Proof.Machine.execBridgebreak die bridge s
  | .localDeadlockReport job pkg => Sys2Proof.Machine.execLocalDeadlockReport job pkg s

end Sys2Proof.Machine
end

