-- ==== Sys2Proof/Machine/Step.lean ====
section
/-!
DEFINITION. One step of the machine: what the scheduling data of State says happens next (log 1).
-/
namespace Sys2Proof.Machine

/-- One step. A plane whose turn it is executes the stage instruction it fetches, a parse context the script
instruction it fetches; otherwise the head of the agenda happens, and with an empty agenda one clk passes. -/
def step (s : State) : Host.Outcome State Fault Refusal :=
  match s.turn with
  | .plane => s.issue exec
  | .context => exec s.fetchScript { s with turn := .agenda }
  | .agenda =>
    match s.agenda with
    | [] => .next (s.tick 1)
    | .event i :: rest => if isEvent i then exec i { s with agenda := rest } else .next { s with agenda := rest }
    | .sequencer core :: rest => .next (State.serve { s with agenda := rest } core)
    | .tick n :: rest => .next (State.tick { s with agenda := rest } n)

/-- The machine with one instruction of the opcode table stored where the next step fetches: a script word for the
current context, a stage word for the current plane (log 10). -/
def State.withFetchWord (s : State) (nbits w : Nat) : State :=
  if nbits ≤ 32 then s.placeScript (BitVec.ofNat 32 (w % 2 ^ nbits)) else s.placeStage (w64 (w % 2 ^ nbits))

end Sys2Proof.Machine
end

