-- ==== Sys2Proof/Safety.lean ====
section
/-!
DEFINITION. The terms that claims are stated in: the canonical form of memory, that an instruction completes, and what
a stage instruction leaves alone (R42, R52, R54, R55).
-/
namespace Sys2Proof.Machine

/-- Memory is in its canonical form. -/
abbrev State.memWf (s : State) : Prop := Memory.wf s.mem

/-- An instruction answers a next state, of which `P` holds. -/
def completes (i : Instr) (s : State) (P : State → Prop) : Prop := ∃ t, exec i s = .next t ∧ P t

/-- What a stage instruction of the current plane that ends at word index `pc` leaves alone: every byte of memory, every
field of State but planes and cells; every other plane; all of the current plane but its S, P, V and M registers named,
its LFSR where `lfsr` is true, and the place its firing has reached; all of the cells but their operand logs. -/
def ranOn (s t : State) (pc : Nat) (rs ps vs ms : List Nat) (lfsr : Bool) : Prop :=
  t = { s with planes := t.planes, cells := t.cells }
  ∧ (∀ a, t.byte a = s.byte a)
  ∧ (∀ q, q ≠ s.cur → t.plane q = s.plane q)
  ∧ t.pl = { s.pl with
      regs := t.pl.regs
      lfsr := t.pl.lfsr
      firing := { s.pl.firing with pc := pc, lastPc := s.pc, wait := .none } }
  ∧ (lfsr = false → t.pl.lfsr = s.pl.lfsr)
  ∧ (∀ c, t.cell c = { s.cell c with log := (t.cell c).log })
  ∧ (∀ n, n ∉ rs → t.rS n = s.rS n)
  ∧ (∀ n, n ∉ ps → t.rP n = s.rP n)
  ∧ (∀ n, n ∉ vs → t.rV n = s.rV n)
  ∧ (∀ n, n ∉ ms → t.rM n = s.rM n)

/-- A step of the current plane is the execution of an instruction, whose firing has then started, with what the port engine
notes of it (R79, R81). -/
def issues (i : Instr) (s : State) : Prop :=
  match exec i ({ s with turn := .agenda }.modFiring s.cur fun f => { f with started := true }) with
  | .next t => step s = .next (State.issued s t)
  | o => step s = o

/-- With a false guard an instruction changes nothing but its place (R42); with a true one it completes and `P` holds. -/
def guarded (i : Instr) (s : State) (g : BitVec 3) (gn : BitVec 1) (P : State → Prop) : Prop :=
  (s.rP g.toNat ^^^ gn = 0 → completes i s fun t => ranOn s t (s.pc + 1) [] [] [] [] false)
  ∧ (s.rP g.toNat ^^^ gn = 1 → completes i s P)

/-- A guarded instruction whose one effect is to write S[d]; S0 ignores the write and reads zero (R52). -/
def writesS (i : Instr) (s : State) (g : BitVec 3) (gn : BitVec 1) (d : BitVec 5) (v : Word) : Prop :=
  guarded i s g gn fun t => t.rS d.toNat = (if d = 0 then 0 else v) ∧ ranOn s t (s.pc + 1) [d.toNat] [] [] [] false

/-- A guarded instruction whose one effect is to write P[d]; P0 ignores the write and reads one (R52). -/
def writesP (i : Instr) (s : State) (g : BitVec 3) (gn : BitVec 1) (d : Nat) (v : Bool) : Prop :=
  guarded i s g gn fun t =>
    t.rP d = (if d = 0 then 1 else if v then 1 else 0) ∧ ranOn s t (s.pc + 1) [] [d] [] [] false

/-- SignExtend(ReadS, N) and ZeroExtend(ReadS, N) of a register value, N by W (R58, R84). -/
def readI (w : BitVec 2) (x : Word) : Int := if w = 0 then x.toInt else (x.setWidth 32).toInt
def readU (w : BitVec 2) (x : Word) : Nat := if w = 0 then x.toNat else x.toNat % 2 ^ 32
/-- N (R84). -/
def widthN (w : BitVec 2) : Nat := if w = 0 then 64 else 32
/-- The register value that holds the low N bits of an exact integer, extended by W (R58, R85). -/
def written (w : BitVec 2) (v : Int) : Word :=
  if w = 0 then BitVec.ofInt 64 v
  else if w = 1 then (BitVec.ofInt 32 v).signExtend 64
  else (BitVec.ofInt 32 v).setWidth 64

/-! ## Elements of vector registers (R52, R58) -/

/-- Element k of width w. -/
def lane (v : Vec) (w k : Nat) : Nat := v.toNat / 2 ^ (k * w) % 2 ^ w
/-- Element k as a signed number. -/
def laneI (v : Vec) (w k : Nat) : Int := (BitVec.ofNat w (lane v w k)).toInt
/-- MaskBit: one bit for an element of 32 or 16 bits, for two of 8 bits or for four of 4 bits. -/
def active (m : Word) (w k : Nat) : Bool := m.getLsbD (if 16 ≤ w then k else k * w / 16)

/-- A vector instruction that writes VD alone: an active element k takes `f k`, an inactive one keeps its value (R126). -/
def writesLanes (i : Instr) (s : State) (o : OpV) (f : Nat → Nat) : Prop :=
  let w := elemWidth o.t
  guarded i s o.g o.gn fun t =>
    (∀ k, k < 1024 / w → lane (t.rV o.vd.toNat) w k =
      (if active (s.rM o.m.toNat) w k then f k else lane (s.rV o.vd.toNat) w k))
    ∧ ranOn s t (s.pc + 1) [] [] [o.vd.toNat] [] false

/-- A vector instruction whose active elements are RoundTo of exact values, in ascending order, each taking its LFSR
steps after the one before (R65, R126, R130). -/
def roundsLanes (i : Instr) (s : State) (o : OpV) (x : Nat → Num) : Prop :=
  let w := elemWidth o.t
  guarded i s o.g o.gn fun t =>
    (∃ l : Nat → BitVec 32, l 0 = s.pl.lfsr ∧ t.pl.lfsr = l (1024 / w)
      ∧ ∀ k, k < 1024 / w →
        if active (s.rM o.m.toNat) w k then
          (lane (t.rV o.vd.toNat) w k, l (k + 1)) =
            roundTo (x k) o.t.toNat o.rm.toNat (o.sat == 1) s.pl.ftz (l k)
        else lane (t.rV o.vd.toNat) w k = lane (s.rV o.vd.toNat) w k ∧ l (k + 1) = l k)
    ∧ ranOn s t (s.pc + 1) [] [] [o.vd.toNat] [] true

/-- What each condition of a scalar compare asks of two registers (R92). -/
def condAsks (cc : Cond) (a b : Word) : Prop :=
  match cc with
  | .eq => a = b
  | .ne => a ≠ b
  | .lt => a.toInt < b.toInt
  | .ge => a.toInt ≥ b.toInt
  | .ltu => a.toNat < b.toNat
  | .geu => a.toNat ≥ b.toNat
  | .gt => a.toInt > b.toInt
  | .le => a.toInt ≤ b.toInt
  | .gtu => a.toNat > b.toNat
  | .leu => a.toNat ≤ b.toNat

/-- What each condition of VCMP asks of two elements of an integer tag of width w (R134). -/
def laneAsks (cc : Cond) (w a b : Nat) : Prop :=
  let x := (BitVec.ofNat w a).toInt
  let y := (BitVec.ofNat w b).toInt
  match cc with
  | .eq => x = y
  | .ne => x ≠ y
  | .lt => x < y
  | .ge => x ≥ y
  | .ltu => a < b
  | .geu => a ≥ b
  | .gt => x > y
  | .le => x ≤ y
  | .gtu => a > b
  | .leu => a ≤ b

/-! ## Rings (R97 to R123) -/

/-- A MAJ 0x0C or 0x0D instruction of the current plane finds its handle `h` bound to the ring `r` through the binding
`b`, may issue (R154, R223), and its branch is live (R110). -/
def onRing (s : State) (h : Nat) (b : Handle) (r : Ring) : Prop :=
  s.ringBusy h = false ∧ s.handle h = some (b, r) ∧ r.isLive b.branch = true

/-- What a ring instruction of the current plane leaves alone: every byte of memory; every field of State but planes,
cells' operand logs, rings, the bank, the sidebands, the serial number and the clk at which jobs were last active; every
other plane; every other ring; every granule but those listed; every register but those listed. -/
def ringRan (s t : State) (key : Nat) (grans rs vs : List Nat) : Prop :=
  t = { s with planes := t.planes, cells := t.cells, rings := t.rings, bank := t.bank, sideband := t.sideband,
               serial := t.serial, jobs := t.jobs }
  ∧ (∀ a, t.byte a = s.byte a)
  ∧ (∀ q, q ≠ s.cur → t.plane q = s.plane q)
  ∧ t.pl = { s.pl with
      regs := t.pl.regs, h := t.pl.h, resid := t.pl.resid, commits := t.pl.commits, firing := t.pl.firing }
  ∧ t.pc = s.pc + 1
  ∧ (∀ c, t.cell c = { s.cell c with log := (t.cell c).log })
  ∧ (∀ k, k ≠ key → t.ring k = s.ring k)
  ∧ (∀ g, g ∉ grans → look 0 t.bank g = look 0 s.bank g ∧ look 0 t.sideband g = look 0 s.sideband g)
  ∧ (∀ j, t.job j = (s.job j).map fun x => { x with active := ((t.job j).map Job.active).getD [] })
  ∧ (∀ n, n ∉ rs → t.rS n = s.rS n)
  ∧ (∀ n, t.rP n = s.rP n)
  ∧ (∀ n, n ∉ vs → t.rV n = s.rV n)
  ∧ (∀ n, t.rM n = s.rM n)

/-- A ring after a branch has retired the slots `out`: nothing else of it changes but the clk of the branch (R101, R110). -/
def retiredBy (s t : State) (key branch : Nat) (out : List Nat) : Prop :=
  ∃ r r', s.ring key = some r ∧ t.ring key = some r' ∧ r' = { r with slots := r'.slots, since := r'.since }
    ∧ ∀ n, find r'.slots n = (find r.slots n).map fun x =>
        if n ∈ out then { x with retired := x.retired ||| (1#8 <<< branch) } else x

/-! ## Matrix engine queue (R147 to R170) -/

/-- A matrix instruction of the current plane may enter the queue: no other colour owns the context (R155), an entry is
left for it (R153), and no acquire of its firing is outstanding (R223). -/
def mayEnqueue (s : State) : Prop :=
  let c := s.pl.firing.colour
  (c = 15 ∨ (∀ o ∈ s.pl.mq, o.hand = false → o.colour = c) ∧ (s.pl.user.open_ = true → s.pl.user.openc = c))
  ∧ s.pl.mq.length < 8 ∧ (c = 15 ∨ (s.pl.mq.filter fun o => !o.hand).length < 6)
  ∧ s.pl.acquired s.pl.firing.fid = true

/-- An instruction adds one operation of its firing, of which `P` holds, to the end of its plane's queue and goes on;
nothing else changes but residencies, the serial number and which buffer was loaded last. -/
def enqueues (i : Instr) (s : State) (P : MatOp → Prop) : Prop :=
  completes i s fun t =>
    t = { s with planes := t.planes, serial := t.serial }
    ∧ (∀ a, t.byte a = s.byte a)
    ∧ (∀ q, q ≠ s.cur → t.plane q = s.plane q)
    ∧ t.pl = { s.pl with
        mq := t.pl.mq, h := t.pl.h, resid := t.pl.resid, firing := t.pl.firing,
        user := { s.pl.user with anyLoad := t.pl.user.anyLoad, lastBuf := t.pl.user.lastBuf },
        handler := { s.pl.handler with anyLoad := t.pl.handler.anyLoad, lastBuf := t.pl.handler.lastBuf } }
    ∧ t.pc = s.pc + 1
    ∧ ∃ m, t.pl.mq = s.pl.mq ++ [m] ∧ P m
      ∧ m.hand = (s.pl.firing.colour == 15) ∧ m.tid = s.pl.firing.tid ∧ m.fid = s.pl.firing.fid
      ∧ m.colour = s.pl.firing.colour ∧ m.pc = s.pc ∧ m.ftz = s.pl.ftz
      ∧ m.held = false ∧ m.started = false ∧ m.took = false

/-- The address of row g of the descriptor pair in S[n] and S[n + 1] (R152). -/
def pairRow (s : State) (n g : Nat) : Nat :=
  let d := (s.rS n).toNat
  d % 2 ^ 16 + (s.rS (n + 1)).toNat % 2 ^ 16 * (d / 2 ^ 32 % 2 ^ 16) + g * (d / 2 ^ 16 % 2 ^ 16)

/-- The pair's base and pitches are multiples of 64, and every row lies in the plane's bank share (R152). -/
def pairOk (s : State) (n : Nat) : Prop :=
  let d := (s.rS n).toNat
  d % 64 = 0 ∧ d / 2 ^ 16 % 64 = 0 ∧ d / 2 ^ 32 % 64 = 0
  ∧ ∀ g < 32, s.pl.bankBase ≤ pairRow s n g ∧ pairRow s n g + 64 ≤ s.pl.bankBase + s.pl.bankSize

/-- The operation at an index of a plane's queue may start, apart from the array (R153, R156). -/
def opMayStart (s : State) (pid idx : Nat) (o : MatOp) : Prop :=
  (s.plane pid).mq[idx]? = some o ∧ (s.plane pid).stopped = false ∧ o.started = false ∧ o.held = false
  ∧ (∀ e ∈ (s.plane pid).mq.take idx, e.hand ≠ o.hand)

/-- The operation `o` is complete: it has left its plane's queue, and nothing but the plane has changed (and the cell's
log and the count of its array, and the clk at which its job was last active). -/
def opRan (s t : State) (pid : Nat) (o : MatOp) : Prop :=
  t = { s with planes := t.planes, cells := t.cells, jobs := t.jobs }
  ∧ (∀ j, t.job j = (s.job j).map fun x => { x with active := ((t.job j).map Job.active).getD [] })
  ∧ (∀ a, t.byte a = s.byte a)
  ∧ (∀ q, q ≠ pid → t.plane q = s.plane q)
  ∧ t.plane pid = { s.plane pid with
      regs := (t.plane pid).regs
      mq := (s.plane pid).mq.filter fun x => !(x.id == o.id)
      user := (t.plane pid).user
      handler := (t.plane pid).handler }
  ∧ (t.plane pid).mat (!o.hand) = (s.plane pid).mat (!o.hand)

/-! ## Memory accesses (R198 to R227) -/

/-- The `n` bytes at bank address `a` lie in the data area of the current plane: inside its bank share and outside its
rings and its stash (R198). -/
def inDataArea (s : State) (a n : Nat) : Prop :=
  s.pl.bankBase ≤ a ∧ a + n ≤ s.pl.bankBase + s.pl.bankSize
  ∧ (∀ e ∈ s.rings, e.2.pid = s.cur → a + n ≤ e.2.base * 64 ∨ (e.2.base + 2 ^ e.2.lg) * 64 ≤ a)
  ∧ (s.pl.stashSize = 0 ∨ a + n ≤ s.pl.stashBase ∨ s.pl.stashBase + s.pl.stashSize ≤ a)

/-- No firing of the number `fid` is parked by its take or on ownership: late writes reach the plane itself. -/
def notParked (s : State) (pid tid fid : Nat) : Prop :=
  (∀ k ∈ (s.plane pid).ownParks, k.firing.fid ≠ fid)
  ∧ ∀ x, s.take tid = some x → ∀ k ∈ x.parked, k.firing.fid ≠ fid

/-- The message that takes a memory operation of the current plane to its home on another die (R291). -/
def carriesAccess (s : State) (o : MemOp) (m : Msg) : Prop :=
  m.cls = 7 ∧ m.kind = 4 ∧ m.srcEp = s.pkg.endpoint ∧ m.die = dieOf s.cur
  ∧ m.dstEp = (if o.home < 512 then s.pkg.endpoint else podEp (o.home / 512 - 1)) ∧ m.dstDie = o.home / 64 % 8 ∧ m.job = o.job
    ∧ m.tid = o.tid ∧ m.pid = s.cur ∧ m.access = o.id ∧ m.raddr = o.va
  ∧ m.len = o.size ∧ m.ord = false ∧ m.decoded = false ∧ m.performed = false ∧ m.todo = List.range m.total
  ∧ m.data = (if o.kind = .store then o.data else List.replicate o.size 0)

/-- A global access of the current plane adds operations on the lines it touches to the plane's outstanding ones, one for
each line, and goes on; the fields of the operations are given from the first line's key on. Those with a home on another
die are each carried by a message of class 7 (R291), but for the suppressed writes of a shadow (R329). -/
def accesses (i : Instr) (s : State) (ph : Phys) (ea n : Nat) (P : Nat → MemOp → Prop) (regs : State → Prop) : Prop :=
  completes i s fun t =>
    t = { s with planes := t.planes, cells := t.cells, slices := t.slices, serial := t.serial, dies := t.dies, msgs := t.msgs }
    ∧ (∀ d, t.die d = { s.die d with dsts := (t.die d).dsts })
    ∧ (∀ a, t.byte a = s.byte a)
    ∧ (∀ q, q ≠ s.cur → t.plane q = s.plane q)
    ∧ t.pl = { s.pl with regs := t.pl.regs, memq := t.pl.memq, firing := t.pl.firing }
    ∧ t.pc = s.pc + 1
    ∧ (∀ x, (t.slice x) = { s.slice x with tlb := (t.slice x).tlb })
    ∧ regs t
    ∧ ∃ ops, t.pl.memq = s.pl.memq ++ ops ∧ ops.length = (if n = 128 then 2 else 1)
      ∧ ∀ (j : Nat) (o : MemOp), ops[j]? = some o →
        o.key = ph.key + 64 * j ∧ o.va = ea + 64 * j ∧ o.size = min n 64 ∧ o.tid = s.pl.firing.tid
        ∧ o.fid = s.pl.firing.fid ∧ o.job = s.pl.job ∧ o.home = ph.die * 64 + homeSlice (o.key % 2 ^ 64) ∧ P j o
        ∧ (if ph.die = dieOf s.cur ∨ (s.shadowed = true ∧ o.isWrite = true) then t.msgs = s.msgs
           else ∃ ms, t.msgs = s.msgs ++ ms ∧ ms.length = ops.length ∧ ∃ m, ms[j]? = some m ∧ carriesAccess s o m)

/-- The outstanding operation at an index of a plane's list may perform: in the order of its firing's accesses (R213, R223,
R226), at its home, where the message that carries it has been decoded (R291), and its slice serves it (R272). -/
def opMayPerform (s : State) (pid idx : Nat) (o : MemOp) : Prop :=
  (s.plane pid).memq[idx]? = some o ∧ (s.plane pid).mayPerform o = true ∧ s.atHome pid o = true
  ∧ s.served o.home o.job = true

/-- No stash holds a copy of the line of a key. -/
def noCopies (s : State) (key : Nat) : Prop :=
  ∀ e ∈ s.planes, ∀ l ∈ e.2.stash, l.key ≠ key / 64 * 64

/-! ## Waiting firings and other small frames -/

/-- The waiting firing of a plane goes on with the next word, and nothing else changes. -/
def wentOn (s t : State) (pid : Nat) : Prop :=
  t = { s with planes := t.planes } ∧ (∀ q, q ≠ pid → t.plane q = s.plane q)
  ∧ t.plane pid = { s.plane pid with firing := { (s.plane pid).firing with
      lastPc := (s.plane pid).firing.pc, pc := (s.plane pid).firing.pc + 1, wait := .none } }

/-- The waiting firing of a plane may issue its instruction again, and nothing else changes. -/
def mayRetry (s t : State) (pid : Nat) : Prop :=
  t = { s with planes := t.planes } ∧ (∀ q, q ≠ pid → t.plane q = s.plane q)
  ∧ t.plane pid = { s.plane pid with firing := { (s.plane pid).firing with wait := .none } }

/-! ## Traps (R320) -/

/-- The running firing of the current plane, of the take `k`, has trapped: it has left the plane with its registers, its
take is parked, and the trap's record waits behind the earlier ones and, among those of this clk, in ascending die cell number,
the lower plane first (R349); no register and no byte of memory has changed. -/
def trapTaken (s t : State) (k : Take) (cause : Nat) (pc info : Word) : Prop :=
  t.pl.running = false ∧ t.pl.regs = s.pl.regs ∧ (∀ a, t.byte a = s.byte a)
  ∧ ∃ k', t.take k.tid = some k' ∧ k'.isParked = true
    ∧ (∃ p, k'.parked = k.parked ++ [p] ∧ p.pid = s.cur ∧ p.regs = s.pl.regs ∧ p.firing.pc = pc.toNat
      ∧ p.firing.fid = s.pl.firing.fid)
    ∧ ∃ x l r, k.traps = l ++ r ∧ k'.traps = l ++ x :: r
      ∧ (∀ y ∈ r.head?, y.time = s.clk ∧ s.cur % 1024 < y.pid % 1024)
      ∧ x.cause = cause ∧ x.pc = pc ∧ x.info = info ∧ x.colour = k.colour ∧ x.pid = s.cur ∧ x.time = s.clk
/-! ## Parse contexts (R172 to R197) -/

/-- A script word changed the current parse context alone: it is `x` now. -/
def ctxIs (s t : State) (x : Ctx) : Prop :=
  t = { s with ctxs := t.ctxs } ∧ (∀ c, c ≠ s.curCtx → t.ctx c = s.ctx c) ∧ t.ctx s.curCtx = x

/-- A context as it goes on with the word at an index of its share. -/
def goesTo (x : Ctx) (i : Nat) : Ctx := { x with lastPc := x.pc, pc := i, state := .run, head := .none, blind := false }

/-- A context as it waits in a state, for a slot to become visible where `blind` is true. -/
def waitsIn (x : Ctx) (k : CtxState) (blind : Bool) : Ctx := { x with state := k, blind }

/-- COORD after a terminal with a mark of a level (R37). -/
def coordAfter (c : Coord) (level : Nat) : Coord :=
  match level with
  | 0 => c
  | 1 => { c with row := c.row + 1 }
  | 2 => { c with grp := c.grp + 1, row := 0 }
  | _ => { seq := c.seq + 1, grp := 0, row := 0 }

/-- A context has raised a mismatch at a slot with a code: it stands where it stood (R181). -/
def mismatched (x y : Ctx) (code slot : Nat) : Prop :=
  y.state = .mismatch ∧ y.offend = slot ∧ y.code = code ∧ y.pc = x.pc ∧ y.coord = x.coord ∧ y.stack = x.stack

/-- The take of a parse context has begun to fail with a code (R182, R401). -/
def takeFails (s t : State) (tid code : Nat) : Prop :=
  ∀ k, s.take tid = some k → k.failing = false → k.twin = 0 →
    ∃ k', t.take tid = some k' ∧ k'.failing = true ∧ k'.failCode = code

/-- A script word has raised ILLEGAL: the context and its take park, and the trap's record waits (R51, R184). -/
def scriptTrapped (s t : State) (pc info : Word) : Prop :=
  ∀ k r entry, s.take (s.ctx s.curCtx).tid = some k → k.tid = (s.ctx s.curCtx).tid → k.ctx = s.curCtx → k.colour ≠ 15 →
    s.region k.region = some r → r.image.handler = some entry → (s.ctx s.curCtx).state ≠ .parked →
    (t.ctx s.curCtx).state = .parked ∧ (t.ctx s.curCtx).saved = (s.ctx s.curCtx).state ∧ (t.ctx s.curCtx).pc = (s.ctx s.curCtx).pc
    ∧ (∀ a, t.byte a = s.byte a)
    ∧ ∃ k', t.take k.tid = some k' ∧ k'.isParked = true
      ∧ ∃ x l r, k.traps = l ++ r ∧ k'.traps = l ++ x :: r ∧ x.cause = 1 ∧ x.pc = pc ∧ x.info = info ∧ x.colour = k.colour

/-! ## Records read at issue -/

/-- An instruction that writes S[d] and, of what a firing sees, nothing else but what `P` says (R52). -/
def answersS (i : Instr) (s : State) (d : BitVec 5) (v : Word) (P : State → Prop) : Prop :=
  completes i s fun t => t.pc = s.pc + 1 ∧ t.rS d.toNat = (if d = 0 then 0 else v)
    ∧ (∀ n, n ≠ d.toNat → t.rS n = s.rS n) ∧ (∀ a, t.byte a = s.byte a) ∧ P t

/-- The current firing finds the line at `va` through the one entry `e` of its slice's translation cache, with nothing
of its own outstanding there, and its home serves it the line, which reads (R198, R223, R272, R336, R389). -/
def readsLine (s : State) (e : Tlb) (va : Nat) : Prop :=
  let ph := physOf e.pte e.level va
  va % 64 = 0 ∧ va < 2 ^ 52 ∧ s.pl.memq = [] ∧ s.lineBusy va 64 = false ∧ s.released = true
  ∧ s.pl.acquired s.pl.firing.fid = true ∧ s.pl.stash = []
  ∧ (s.slice (translatingSlice s.cur)).tlb = [e]
  ∧ e.covers (s.asid s.pl.job) va = true ∧ ph.key / 64 ∉ s.poison ∧ (s.die ph.die).fenced = false ∧ ph.slice < 64
  ∧ s.served (ph.die * 64 + ph.slice) s.pl.job = true

/-- The 64 bytes at `va` through the entry `e`. -/
def lineAt (s : State) (e : Tlb) (va : Nat) : BitVec 512 := BitVec.ofNat 512 (s.num (physOf e.pte e.level va).key 64)

/-- No request in budget waits at any home: every slice serves every request (R272). -/
def nothingWaits (s : State) : Prop := ∀ home, s.waitsAt home = false

/-- A slice serves the context next among those that are ready to move a granule (R256). -/
def itsTurn (s : State) (slice ctx : Nat) : Prop :=
  (if (s.slice slice).servedAt = s.clk + 1 then (s.slice slice).turns else s.strTurns slice).head? = some ctx

/-- The ring `r` grants one slot at once, in this clk, to a claimant: space, no claim before it, a live branch, no comparator
(R104, R106, R114, R330). -/
def grantsOne (s : State) (r : Ring) (who : Claimant) : Prop :=
  r.granted = [] ∧ r.queue = [] ∧ 1 ≤ r.free ∧ r.live ≠ 0 ∧ r.passedPlace who s.clk = false ∧ s.exits = []

/-! ## The host (R363 to R373) -/

/-- A link whose queue is set up, with no entry held and no CQSETUP, PLOAD or MAP waiting. -/
def linkFree (s : State) (l : Nat) : Prop :=
  let k := s.link l
  k.cq.isSome = true ∧ k.held = [] ∧ k.heldBehind = [] ∧ k.nextCq = none ∧ k.loading = none ∧ k.mapping = none

/-- A command has ended with one entry on its link, and `P` holds. -/
def ends (i : Instr) (c : Cmd) (s : State) (code addr : Nat) (P : State → Prop) : Prop :=
  completes i s fun t => (t.link c.link).held = [entryOf c code addr s.clk] ∧ P t

/-- A command is refused: nothing but its entry changes. -/
def refused (i : Instr) (c : Cmd) (s : State) (code addr : Nat) : Prop :=
  ends i c s code addr fun t => t = { s with links := t.links } ∧ ∀ l, l ≠ c.link → t.link l = s.link l

/-- A package reset with a cause (R373, R374): jobs, takes, queues and planes are gone, device memory is clear, and
what lies outside it, the flash and the rollback counter stay. -/
def packageIsReset (s t : State) (cause detail : Nat) (resets : BitVec 16) : Prop :=
  t.pkg.cause = BitVec.ofNat 8 cause ∧ t.pkg.detail = BitVec.ofNat 16 detail ∧ t.pkg.resets = resets ∧ t.pkg.ready = false
  ∧ t.pkg.mode = 1 ∧ t.pkg.uv = false ∧ t.pkg.flash = s.pkg.flash ∧ t.pkg.rollback = s.pkg.rollback
  ∧ t.jobs = [] ∧ t.takes = [] ∧ t.regions = [] ∧ t.planes = [] ∧ t.links = [] ∧ t.dies = [] ∧ t.clk = 0
  ∧ ∀ b, t.byte b = if b < 2 ^ 64 then 0 else s.byte b

end Sys2Proof.Machine
end

