-- ==== Sys2Proof/Certificates/Slice0/Obligations.lean ====
section
/-!
DEFINITION. The statements about the ZX-128 model for the provers: each formalises rules of the spec or rests on them.
-/
open Sys2Proof Sys2Proof.Machine

/-! ## Encoding and stepping -/

/-- R43 to R49, R185, R233: decoding the encoding of a well-formed instruction gives it back, with every operand at every
value that the encoding admits; a two-word script instruction is decoded with its literal word (R48); the same holds of
descriptor words (R49) and of the records of the host's commands (R366, R367). -/
def Obligations.DecodeOfEncodeIsTheInstruction : Prop :=
  (∀ i : Instr, i.wf = true →
     match encode i with
     | .stage w => decodeStage w = .ok i
     | .script w => ∀ lit, decodeScript w lit = .ok i
     | .scriptLit w lit => decodeScript w lit = .ok i
     | .none => True)
  ∧ (∀ d : Desc, d.wf = true → decodeDesc (encodeDesc d) = .ok d)
  ∧ (∀ (i : Instr) (c : Cmd), i.wf = true → encodeCommand i = some c → decodeCommand c = .ok i)

/-- R50: a word that decodes is well formed and is the encoding of what it decodes to, so no reserved bit is dropped;
a word that does not decode is not the encoding of any well-formed instruction. The same holds of descriptor words (R49) and of
the command records of a link, whose OPC names the command (R366, R367). -/
def Obligations.OnlyEncodingsDecode : Prop :=
  (∀ w i, decodeStage w = .ok i → i.wf = true ∧ encode i = .stage w)
  ∧ (∀ w lit i, decodeScript w lit = .ok i →
      i.wf = true ∧ (encode i = .script w ∨ encode i = .scriptLit w lit))
  ∧ (∀ w r, decodeStage w = .error r → ∀ i : Instr, i.wf = true → encode i ≠ .stage w)
  ∧ (∀ w d, decodeDesc w = .ok d → d.wf = true ∧ encodeDesc d = w)
  ∧ (∀ w r, decodeDesc w = .error r → ∀ d : Desc, d.wf = true → encodeDesc d ≠ w)
  ∧ (∀ c i, decodeCommand c = .ok i → i.wf = true ∧ encodeCommand i = some c)
  ∧ (∀ c r, decodeCommand c = .error r → ∀ i : Instr, i.wf = true → encodeCommand i ≠ some c)
  ∧ (∀ c : Cmd, ∀ e ∈ [(1, Instr.cqsetup c), (2, .admitJob c), (3, .cancel c), (4, .map c), (5, .faultsvc c), (6, .pload c),
      (7, .qreg c), (8, .query c), (9, .attest c), (10, .reset c), (11, .power c), (12, .ras c), (13, .resume c),
      (14, .apmap c), (15, .patch c)], c.shaped e.1 = true → decodeCommand c = .ok e.2)

/-- Words written out from the spec's encodings decode to the instructions they stand for. -/
def Obligations.WorkedWordsDecode : Prop :=
  decodeStage 0x0808110100000064 = .ok (.cmpi .lt { g := 0, gn := 0, pd := 2, a := 4, b := 0, imm := 0x64 })
  ∧ decodeStage 0x1005400000000004 = .ok (.br { g := 2, gn := 1, off := 4 })
  ∧ decodeStage 0x012C0C4280000000 = .ok (.addsh 3 { g := 0, gn := 0, d := 6, a := 4, b := 5, w := 0 })
  ∧ decodeStage 0x0105085300000000 = .ok (.sel { g := 2, gn := 0, d := 4, a := 5, b := 6, w := 0 })
  ∧ decodeStage 0xB8040C4000000000 = .ok (.xput { g := 0, gn := 0, d := 6, a := 4, kreg := 0, imm := 0 })
  ∧ decodeStage 0xB814000000000000 = .ok (.xflush { g := 0, gn := 0, d := 0, a := 0, kreg := 0, imm := 0 })

/-- A step of a plane whose turn it is executes the instruction that the word at its firing's place decodes to; a word
that does not decode, or a place outside the plane's share, gives the ILLEGAL of R51. What the port engine notes of it then
(R79) is its issuer, the clk and the issue count, no register and no byte of memory; an instruction that has to wait has not
issued. A step of a parse context executes what its script word, with the word after it as its literal, decodes to; a word that
does not decode, an index outside the context's share and a two-word instruction whose literal lies outside it give the ILLEGAL of
R51 (R47, R48). That a step is one instruction, one event or one clk, and that a command or event at the head of the agenda
happens next, is the model's schedule (log 1). -/
def Obligations.StepRunsTheDecodedInstruction : Prop :=
  (∀ s i, s.turn = .plane → s.pc < s.pl.progSize → decodeStage (look 0 s.pl.prog s.pc) = .ok i →
      issues i s)
  ∧ (∀ s r, s.turn = .plane → s.pc < s.pl.progSize → decodeStage (look 0 s.pl.prog s.pc) = .error r →
      issues (.stageIllegal (w64 s.pc) (look 0 s.pl.prog s.pc)) s)
  ∧ (∀ s, s.turn = .plane → s.pl.progSize ≤ s.pc →
      issues (.stageIllegal (w64 s.pl.firing.lastPc) (w64 s.pc)) s)
  ∧ (∀ s t : State,
      let u := State.issued s t
      u = { t with planes := u.planes, cells := u.cells, takes := u.takes, jobs := u.jobs }
      ∧ (∀ q, u.plane q = { t.plane q with firing := { (t.plane q).firing with
          started := (u.plane q).firing.started, waitArg := (u.plane q).firing.waitArg } })
      ∧ (∀ q, q ≠ s.cur → u.plane q = t.plane q)
      ∧ (let f := (t.plane s.cur).firing
        (t.plane s.cur).running = true → f.fid = s.pl.firing.fid →
        (f.wait = .retry → (u.plane s.cur).firing.waitArg = s.clk ∧ u.cells = t.cells)
        ∧ (f.wait = .none → (t.plane s.cur).ownParks = s.pl.ownParks →
          u.planes = t.planes ∧ (u.cell (cellOf s.cur)).lastIssuer = planeNoOf s.cur
          ∧ (u.cell (cellOf s.cur)).issuedAt = t.clk)))
  ∧ (∀ s i, s.turn = .context →
      let c := s.ctx s.curCtx
      let size := (s.share s.curCtx).2
      let w := s.scriptWord s.curCtx c.pc
      let lit := s.scriptWord s.curCtx (c.pc + 1)
      let does := fun (i : Instr) => step s = exec i { s with turn := .agenda }
      (c.pc < size → (c.pc + 1 < size ∨ hasLiteral w = false) →
        (decodeScript w lit = .ok i → does i)
        ∧ (∀ r, decodeScript w lit = .error r → does (.scriptIllegal (w64 c.pc) (w.setWidth 64))))
      ∧ (c.pc + 1 = size → hasLiteral w = true → does (.scriptIllegal (w64 c.pc) (w64 size)))
      ∧ (size ≤ c.pc → does (.scriptIllegal (w64 c.lastPc) (w64 c.pc))))
  ∧ (∀ s i rest, s.turn = .agenda → s.agenda = .event i :: rest → isEvent i = true →
      step s = exec i { s with agenda := rest })

/-- No step breaks the canonical form of memory: addresses rise strictly and no listed byte reads as an unlisted one. -/
def Obligations.StepKeepsMemoryCanonical : Prop :=
  ∀ s t : State, s.memWf → step s = .next t → t.memWf

/-- After reset memory is in canonical form and every byte reads zero (R373 for bonded DRAM; log 4 for the other
spaces, a choice of the model). -/
def Obligations.ResetMemoryIsCanonicalAndClear : Prop :=
  State.reset.memWf ∧ ∀ a, State.reset.byte a = 0

/-- R42: a stage instruction other than SEL whose guard is 0 has no effect on any state but the firing's place. That this holds of
a KWR to a register that the colour may only read, too, is the model's choice (log 45). -/
def Obligations.FalseGuardChangesNothing : Prop :=
  ∀ (i : Instr) (w : BitVec 64) (s : State), encode i = .stage w → (∀ o, i ≠ .sel o) →
    s.rP (fld w 47 3) ^^^ BitVec.ofNat 1 (fld w 46 1) = 0 →
    completes i s fun t => ranOn s t (s.pc + 1) [] [] [] [] false

/-! ## Scalar instructions -/

/-- R85, R86: the register arithmetic family writes the low N bits of the exact result, extended by W, and nothing else;
division truncates toward zero; a zero divisor gives all ones and the dividend; the overflow case wraps. -/
def Obligations.RegisterArithmeticAndDivision : Prop :=
  (∀ (o : OpA) (s : State),
     let a := readI o.w (s.rS o.a.toNat)
     let b := readI o.w (s.rS o.b.toNat)
     let ua := readU o.w (s.rS o.a.toNat)
     let ub := readU o.w (s.rS o.b.toNat)
     writesS (.add o) s o.g o.gn o.d (written o.w (a + b))
     ∧ writesS (.sub o) s o.g o.gn o.d (written o.w (a - b))
     ∧ writesS (.mul o) s o.g o.gn o.d (written o.w (a * b))
     ∧ writesS (.mulh o) s o.g o.gn o.d (written o.w (Int.fdiv (a * b) (2 ^ widthN o.w)))
     ∧ writesS (.mulhu o) s o.g o.gn o.d (written o.w (ua * ub / 2 ^ widthN o.w : Nat))
     ∧ writesS (.min o) s o.g o.gn o.d (written o.w (min a b))
     ∧ writesS (.max o) s o.g o.gn o.d (written o.w (max a b))
     ∧ writesS (.minu o) s o.g o.gn o.d (written o.w (min ua ub : Nat))
     ∧ writesS (.maxu o) s o.g o.gn o.d (written o.w (max ua ub : Nat)))
  ∧ (∀ (o : OpA) (s : State),
       let n := widthN o.w
       let a := readI o.w (s.rS o.a.toNat)
       let b := readI o.w (s.rS o.b.toNat)
       let ua := readU o.w (s.rS o.a.toNat)
       let ub := readU o.w (s.rS o.b.toNat)
       let overflows := a = -(2 ^ (n - 1)) ∧ b = -1
       let q : Int := if b = 0 then 2 ^ n - 1 else if overflows then -(2 ^ (n - 1)) else Int.tdiv a b
       let r : Int := if b = 0 then a else if overflows then 0 else a - Int.tdiv a b * b
       writesS (.div o) s o.g o.gn o.d (written o.w q)
       ∧ writesS (.rem o) s o.g o.gn o.d (written o.w r)
       ∧ writesS (.divu o) s o.g o.gn o.d (written o.w (if ub = 0 then 2 ^ n - 1 else ua / ub : Nat))
       ∧ writesS (.remu o) s o.g o.gn o.d (written o.w (if ub = 0 then ua else ua - ua / ub * ub : Nat)))

/-- R87, R90: AND, ANDN, OR and XOR of two registers, and the immediate forms, whose immediate is sign-extended in ADDI and
zero-extended in ANDI, ORI and XORI; MOV, ADDSH and LUI under their guard; SEL always executes and its guard is the
selector. -/
def Obligations.LogicImmediatesAndMoves : Prop :=
  ((∀ (o : OpA) (s : State),
     let a := s.rS o.a.toNat
     let b := s.rS o.b.toNat
     writesS (.andS o) s o.g o.gn o.d (written o.w (a &&& b).toInt)
     ∧ writesS (.andn o) s o.g o.gn o.d (written o.w (a &&& ~~~b).toInt)
     ∧ writesS (.orS o) s o.g o.gn o.d (written o.w (a ||| b).toInt)
     ∧ writesS (.xorS o) s o.g o.gn o.d (written o.w (a ^^^ b).toInt))
   ∧ (∀ (o : OpI) (s : State),
     let a := s.rS o.a.toNat
     let z : Word := BitVec.ofNat 64 o.imm.toNat
     writesS (.addi o) s o.g o.gn o.d (written o.w (readI o.w a + o.imm.toInt))
     ∧ writesS (.andi o) s o.g o.gn o.d (written o.w (a &&& z).toInt)
     ∧ writesS (.ori o) s o.g o.gn o.d (written o.w (a ||| z).toInt)
     ∧ writesS (.xori o) s o.g o.gn o.d (written o.w (a ^^^ z).toInt)))
  ∧ ((∀ (o : OpA) (s : State),
       let a := readI o.w (s.rS o.a.toNat)
       let b := readI o.w (s.rS o.b.toNat)
       writesS (.mov o) s o.g o.gn o.d (written o.w a)
       ∧ (∀ sh, writesS (.addsh sh o) s o.g o.gn o.d (written o.w (a + b * 2 ^ sh.toNat)))
       ∧ completes (.sel o) s fun t =>
           t.rS o.d.toNat = (if o.d = 0 then 0 else written o.w (if s.rP o.g.toNat ^^^ o.gn = 1 then a else b))
           ∧ ranOn s t (s.pc + 1) [o.d.toNat] [] [] [] false)
     ∧ (∀ (o : OpI) (s : State),
       writesS (.lui o) s o.g o.gn o.d
         (BitVec.ofNat 64 (o.imm.toNat * 2 ^ 32 + (s.rS o.a.toNat).toNat % 2 ^ 32))))

/-- R88, R89, R91: shifts and rotates by S[B] reduced to the width, or by an immediate less than the width; CLZ, CTZ and POPC;
BFX and BFXU extract a field, sign- and zero-extended, and BFI replaces it in S[D]; no word decodes to a shift by its
width or more, or to a field that passes bit 63. -/
def Obligations.ShiftsCountsAndBitFields : Prop :=
  ((∀ (o : OpA) (s : State),
     let n := widthN o.w
     let k := (s.rS o.b.toNat).toNat % n
     let x := readU o.w (s.rS o.a.toNat)
     writesS (.shl o) s o.g o.gn o.d (written o.w (x * 2 ^ k : Nat))
     ∧ writesS (.shr o) s o.g o.gn o.d (written o.w (x / 2 ^ k : Nat))
     ∧ writesS (.sar o) s o.g o.gn o.d (written o.w (Int.fdiv (readI o.w (s.rS o.a.toNat)) (2 ^ k)))
     ∧ writesS (.rotl o) s o.g o.gn o.d (written o.w ((x <<< k ||| x >>> (n - k)) % 2 ^ n : Nat)))
   ∧ (∀ (o : OpI) (s : State), o.imm.toNat < widthN o.w →
     let n := widthN o.w
     let k := o.imm.toNat
     let x := readU o.w (s.rS o.a.toNat)
     writesS (.shli o) s o.g o.gn o.d (written o.w (x * 2 ^ k : Nat))
     ∧ writesS (.shri o) s o.g o.gn o.d (written o.w (x / 2 ^ k : Nat))
     ∧ writesS (.sari o) s o.g o.gn o.d (written o.w (Int.fdiv (readI o.w (s.rS o.a.toNat)) (2 ^ k)))
     ∧ writesS (.rotli o) s o.g o.gn o.d (written o.w ((x <<< k ||| x >>> (n - k)) % 2 ^ n : Nat))))
  ∧ (∀ (o : OpA) (s : State),
       let n := widthN o.w
       let x := readU o.w (s.rS o.a.toNat)
       (∃ k, writesS (.clz o) s o.g o.gn o.d (BitVec.ofNat 64 k) ∧ k ≤ n
           ∧ (if x = 0 then k = n else k < n ∧ x.testBit (n - 1 - k) = true ∧ ∀ j, n - 1 - k < j → x.testBit j = false))
       ∧ (∃ k, writesS (.ctz o) s o.g o.gn o.d (BitVec.ofNat 64 k) ∧ k ≤ n
           ∧ (if x = 0 then k = n else k < n ∧ x.testBit k = true ∧ ∀ j, j < k → x.testBit j = false))
       ∧ writesS (.popc o) s o.g o.gn o.d (BitVec.ofNat 64 ((List.range n).filter fun j => x.testBit j).length))
  ∧ (∀ (o : OpI) (s : State),
       let p := o.imm.toNat % 64
       let l := o.imm.toNat / 2 ^ 8 % 64 + 1
       let a := s.rS o.a.toNat
       let d := s.rS o.d.toNat
       p + l ≤ 64 →
       (∃ v : Word, writesS (.bfx o) s o.g o.gn o.d v
           ∧ ∀ j, j < 64 → v.getLsbD j = a.getLsbD (p + min j (l - 1)))
       ∧ (∃ v : Word, writesS (.bfxu o) s o.g o.gn o.d v
           ∧ ∀ j, v.getLsbD j = (decide (j < l) && a.getLsbD (p + j)))
       ∧ (∃ v : Word, writesS (.bfi o) s o.g o.gn o.d v
           ∧ ∀ j, v.getLsbD j = (if p ≤ j ∧ j < p + l then a.getLsbD (j - p) else d.getLsbD j)))
  ∧ ((∀ (o : OpI) (w : Word), widthN o.w ≤ o.imm.toNat →
       ∀ i ∈ [Instr.shli o, .shri o, .sari o, .rotli o], decodeStage w ≠ .ok i)
     ∧ (∀ (o : OpI) (w : Word), 64 < o.imm.toNat % 64 + o.imm.toNat / 2 ^ 8 % 64 + 1 →
       ∀ i ∈ [Instr.bfx o, .bfxu o, .bfi o], decodeStage w ≠ .ok i))

/-- R92, R93: CMP and CMPI write 1 to P[PD] where the condition holds and 0 where it does not, the immediate sign-extended;
PAND, POR, PXOR and PNOT work on the predicates that D, A and B name. -/
def Obligations.ComparesAndPredicateLogic : Prop :=
  (∀ (cc : Cond) (o : OpC) (s : State) (v : Bool),
     ((v = true ↔ condAsks cc (s.rS o.a.toNat) (s.rS o.b.toNat)) → writesP (.cmp cc o) s o.g o.gn o.pd.toNat v)
     ∧ ((v = true ↔ condAsks cc (s.rS o.a.toNat) (BitVec.ofInt 64 o.imm.toInt)) →
         writesP (.cmpi cc o) s o.g o.gn o.pd.toNat v))
  ∧ (∀ (o : OpA) (s : State), o.predOk = true →
       let a : Bool := s.rP o.a.toNat == 1
       let b : Bool := s.rP o.b.toNat == 1
       writesP (.pand o) s o.g o.gn o.d.toNat (a && b)
       ∧ writesP (.por o) s o.g o.gn o.d.toNat (a || b)
       ∧ writesP (.pxor o) s o.g o.gn o.d.toNat (a != b)
       ∧ writesP (.pnot o) s o.g o.gn o.d.toNat (!a))

/-- R94, R95, R51, R83: a branch whose target lies in the share goes there and changes nothing else, BL writing the return
index to S31; a taken branch whose target lies outside raises ILLEGAL at the branch: the step is the trap of cause 1 with
TRAPPC the branch's index and TRAPINFO the target, and no register is written. NOP only goes on; END ends a firing that
holds no claim; where the firing has brought a residency count to zero, END retires the resident window (R109), and where the
EOT granule of the plane has left and nothing else is on it, END frees it and its region (R28). -/
def Obligations.BranchesAndTheEndOfAFiring : Prop :=
  ((∀ (o : OpB) (s : State) (t : Nat), (t : Int) = s.pc + o.off.toInt → t < s.pl.progSize →
     guarded (.br o) s o.g o.gn (fun u => ranOn s u t [] [] [] [] false)
     ∧ guarded (.bl o) s o.g o.gn fun u => u.rS 31 = BitVec.ofNat 64 (s.pc + 1) ∧ ranOn s u t [31] [] [] [] false)
   ∧ (∀ (o : OpA) (s : State),
     ((s.rS 31).toNat < s.pl.progSize →
       guarded (.ret o) s o.g o.gn fun u => ranOn s u (s.rS 31).toNat [] [] [] [] false)
     ∧ ((s.rS o.a.toNat).toNat < s.pl.progSize →
       guarded (.jmpr o) s o.g o.gn fun u => ranOn s u (s.rS o.a.toNat).toNat [] [] [] [] false)))
  ∧ ((∀ (o : OpB) (s : State), s.rP o.g.toNat ^^^ o.gn = 1 →
       (s.pc + o.off.toInt < 0 ∨ (s.pl.progSize : Int) ≤ s.pc + o.off.toInt) →
       exec (.br o) s = .next (s.trapAt s.cur 1 (w64 s.pc) (BitVec.ofInt 64 (s.pc + o.off.toInt)) 0)
       ∧ exec (.bl o) s = .next (s.trapAt s.cur 1 (w64 s.pc) (BitVec.ofInt 64 (s.pc + o.off.toInt)) 0))
     ∧ (∀ (o : OpA) (s : State), s.rP o.g.toNat ^^^ o.gn = 1 →
       (s.pl.progSize ≤ (s.rS 31).toNat → exec (.ret o) s = .next (s.trapAt s.cur 1 (w64 s.pc) (s.rS 31) 0))
       ∧ (s.pl.progSize ≤ (s.rS o.a.toNat).toNat →
           exec (.jmpr o) s = .next (s.trapAt s.cur 1 (w64 s.pc) (s.rS o.a.toNat) 0))))
  ∧ ((∀ (o : OpA) (s : State),
       guarded (.nop o) s o.g o.gn (fun t => ranOn s t (s.pc + 1) [] [] [] [] false)
       ∧ (∀ k, (∀ e ∈ s.pl.firing.claims, e.2 = []) → s.pl.firing.retireAtEnd = [] → s.pl.eotLeft = false →
         s.take s.pl.firing.tid = some k → (s.ctx k.ctx).tid = k.tid →
         guarded (.endFiring o) s o.g o.gn fun t =>
           t = { s with planes := t.planes, ctxs := t.ctxs }
           ∧ (∀ q, q ≠ s.cur → t.plane q = s.plane q)
           ∧ t.pl = { s.pl with
               running := false, nextAt := s.clk + 1, firing := { s.pl.firing with claims := [], counted := [], retireAtEnd := [] } }
           ∧ (∀ c, c ≠ k.ctx → t.ctx c = s.ctx c)
           ∧ t.ctx k.ctx = { s.ctx k.ctx with sent := (s.ctx k.ctx).sent - 1 })))
   ∧ (∀ (o : OpA) (s : State) (id : Nat) (x : Resid), s.rP o.g.toNat ^^^ o.gn = 1 →
       (∀ e ∈ s.pl.firing.claims, e.2 = []) → s.pl.firing.retireAtEnd = [id] → id ≠ 0 → find s.pl.resid id = some x →
       x.bad = false → x.slots ≠ [] → s.pl.holdsBack id x = false → s.ring x.key ≠ none → s.pl.eotLeft = false →
       completes (.endFiring o) s fun t =>
         t.pl.running = false ∧ retiredBy s t x.key x.branch x.slots ∧ find t.pl.resid id = none
         ∧ (∀ e ∈ t.pl.h, e.2.resId ≠ id) ∧ (∀ k, k ≠ x.key → t.ring k = s.ring k) ∧ ∀ a, t.byte a = s.byte a)
   ∧ (∀ (o : OpA) (s : State) (r : Region), s.rP o.g.toNat ^^^ o.gn = 1 → s.pl.firing.claims = [] →
       s.pl.firing.retireAtEnd = [] → s.pl.eotLeft = true → s.region s.pl.owner = some r → r.key = s.pl.owner →
       r.place = .eligible → r.cellsLeft = [cellNoOf s.cur] → s.pl.tokens = [] → s.pl.mq = [] → s.pl.stash = [] →
       s.pl.ownParks = [] → s.pl.user.release = none → s.pl.user.drain = none → s.pl.handler.release = none →
       s.pl.handler.drain = none → s.rings = [] → s.takes = [] → s.cores = [] →
       completes (.endFiring o) s fun t =>
         t.pl.owner = 0 ∧ t.pl.running = false ∧ (t.region r.key).map Region.place = some .torn
         ∧ ∀ a, t.byte a = s.byte a)

/-! ## Vector instructions -/

/-- R130, R131, R132: integer tags. Each active element is the low w bits of the exact result (VADDS clamps it); logic
works on the bits of any tag; inactive elements and everything else keep their values. -/
def Obligations.VectorIntegerLanes : Prop :=
  ∀ (o : OpV) (s : State), o.rm = 0 →
    let w := elemWidth o.t
    let a := fun k => laneI (s.rV o.va.toNat) w k
    let b := fun k => laneI (s.rV o.vb.toNat) w k
    let c := fun k => laneI (s.rV o.vc.toNat) w k
    let ua := fun k => lane (s.rV o.va.toNat) w k
    let ub := fun k => lane (s.rV o.vb.toNat) w k
    let put := fun v : Int => (BitVec.ofInt w v).toNat
    (isFloatTag o.t = false →
      writesLanes (.vadd o) s o (fun k => put (a k + b k))
      ∧ writesLanes (.vsub o) s o (fun k => put (a k - b k))
      ∧ writesLanes (.vmul o) s o (fun k => put (a k * b k))
      ∧ writesLanes (.vfma o) s o (fun k => put (a k * b k + c k))
      ∧ writesLanes (.vfms o) s o (fun k => put (a k * b k - c k))
      ∧ writesLanes (.vadds o) s o (fun k => put (max (-(2 ^ (w - 1))) (min (2 ^ (w - 1) - 1) (a k + b k))))
      ∧ writesLanes (.vmin o) s o (fun k => put (min (a k) (b k)))
      ∧ writesLanes (.vmax o) s o (fun k => put (max (a k) (b k)))
      ∧ writesLanes (.vabs o) s o (fun k => put (a k).natAbs)
      ∧ writesLanes (.vneg o) s o (fun k => put (-(a k)))
      ∧ writesLanes (.vshl o) s o (fun k => ua k * 2 ^ (ub k % w) % 2 ^ w)
      ∧ writesLanes (.vshr o) s o (fun k => ua k / 2 ^ (ub k % w))
      ∧ writesLanes (.vsar o) s o (fun k => put (Int.fdiv (a k) (2 ^ (ub k % w)))))
    ∧ writesLanes (.vand o) s o (fun k => ua k &&& ub k)
    ∧ writesLanes (.vor o) s o (fun k => ua k ||| ub k)
    ∧ writesLanes (.vxor o) s o (fun k => ua k ^^^ ub k)

/-- R130, R131, R136, R137: floating tags. Each active element is RoundTo of the exact value, once, in ascending order; with
RM 5 the instruction runs when no queued matrix operation draws (R145). VABS and VNEG clear and invert the sign bit
alone; VMIN and VMAX choose an operand as it was read, the other one where one is NaN, and the canonical NaN where both
are. That VLOG2 of 1.0 is +0 under every rounding mode is the model's choice (log 51). -/
def Obligations.VectorFloatingLanes : Prop :=
  (∀ (o : OpV) (s : State), isFloatTag o.t = true → (o.rm = 5 → s.pl.drawsQueued = false) →
     let w := elemWidth o.t
     let v := fun (r : BitVec 4) k => value o.t.toNat s.pl.ftz (lane (s.rV r.toNat) w k)
     let rm := o.rm.toNat
     roundsLanes (.vadd o) s o (fun k => (v o.va k).add rm (v o.vb k))
     ∧ roundsLanes (.vsub o) s o (fun k => (v o.va k).add rm (v o.vb k).neg)
     ∧ roundsLanes (.vmul o) s o (fun k => (v o.va k).mul (v o.vb k))
     ∧ roundsLanes (.vfma o) s o (fun k => ((v o.va k).mul (v o.vb k)).add rm (v o.vc k))
     ∧ roundsLanes (.vfms o) s o (fun k => ((v o.va k).mul (v o.vb k)).add rm (v o.vc k).neg)
     ∧ roundsLanes (.vscale o) s o (fun k => (v o.va k).scale (BitVec.ofNat 9 o.imm.toNat).toInt)
     ∧ (o.t.toNat ≤ 2 →
       roundsLanes (.vrcp o) s o (fun k => recipOf (v o.va k))
       ∧ roundsLanes (.vrsq o) s o (fun k => rsqrtOf (v o.va k))
       ∧ roundsLanes (.vexp2 o) s o (fun k => exp2Of (v o.va k))
       ∧ roundsLanes (.vlog2 o) s o (fun k => log2Of (v o.va k))))
  ∧ (∀ (o : OpV) (s : State), isFloatTag o.t = true → o.rm = 0 →
       let w := elemWidth o.t
       let t := o.t.toNat
       let a := fun k => lane (s.rV o.va.toNat) w k
       let b := fun k => lane (s.rV o.vb.toNat) w k
       let less := fun x y => Num.lt true (value t s.pl.ftz x) (value t s.pl.ftz y)
       let pick := fun (first : Nat → Nat → Bool) x y =>
         if isNanEnc t x = true ∧ isNanEnc t y = true then canonNan t
         else if isNanEnc t x = true then asRead t s.pl.ftz y
         else if isNanEnc t y = true then asRead t s.pl.ftz x
         else if first y x = true then asRead t s.pl.ftz y else asRead t s.pl.ftz x
       writesLanes (.vabs o) s o (fun k => a k % 2 ^ (w - 1))
       ∧ writesLanes (.vneg o) s o (fun k => (a k + 2 ^ (w - 1)) % 2 ^ w)
       ∧ writesLanes (.vmin o) s o (fun k => pick less (a k) (b k))
       ∧ writesLanes (.vmax o) s o (fun k => pick (fun x y => less y x) (a k) (b k)))

/-- R60, R61, R63, R64: RoundTo of the exact value of a finite encoding is that encoding, in every mode, with no LFSR step. For a
magnitude within the range of the tag the result is a finite encoding of the same sign: with RM 0 and 4 no finite encoding of that
sign is closer, and of two that are equally close it is the one whose lowest fraction bit is 0 (RM 0) or the larger (RM 4); RM 1
takes the largest that is not above the magnitude, RM 2 and 3 round the value up and down. With RM 5 a value between two adjacent
encodings becomes the one farther from zero where the draw of one LFSR step is below its share. -/
def Obligations.RoundingIsExactOrNearest : Prop :=
  (∀ (t rm x : Nat) (sat neg more : Bool) (m : Nat) (l : BitVec 32),
     t < 8 → isFlt t = true → x < 2 ^ widthOf t → value t false x = .fin neg m more →
     roundTo (value t false x) t rm sat false l = (x, l))
  ∧ (∀ (t m top : Nat) (neg sat : Bool) (l : BitVec 32),
       t < 8 → isFlt t = true → value t false (fmtOf t).maxEnc = .fin false top false → m ≤ top →
       ∃ r, value t false (roundTo (.fin neg m false) t 0 sat false l).1 = .fin neg r false
         ∧ ∀ y z, value t false y = .fin neg z false →
             ((r : Int) - m).natAbs ≤ ((z : Int) - m).natAbs
             ∧ (((r : Int) - m).natAbs = ((z : Int) - m).natAbs → r ≠ z →
               (roundTo (.fin neg m false) t 0 sat false l).1 % 2 = 0))
  ∧ (∀ (t m top rm : Nat) (neg sat : Bool) (l : BitVec 32),
       t < 8 → isFlt t = true → value t false (fmtOf t).maxEnc = .fin false top false → m ≤ top → 1 ≤ rm → rm ≤ 4 →
       ∃ r x, roundTo (.fin neg m false) t rm sat false l = (x, l) ∧ value t false x = .fin neg r false
         ∧ ∀ y z, value t false y = .fin neg z false →
             if rm = 4 then
               ((r : Int) - m).natAbs ≤ ((z : Int) - m).natAbs ∧ (((r : Int) - m).natAbs = ((z : Int) - m).natAbs → z ≤ r)
             else if rm = 1 ∨ rm = (if neg then 2 else 3) then r ≤ m ∧ (z ≤ m → z ≤ r)
             else m ≤ r ∧ (m ≤ z → r ≤ z))
  ∧ (∀ (t m lo hi x y : Nat) (neg sat : Bool) (l : BitVec 32),
       t < 8 → isFlt t = true → x < 2 ^ widthOf t → y < 2 ^ widthOf t → value t false x = .fin neg lo false →
       value t false y = .fin neg hi false → lo < m → m < hi →
       (∀ w z, value t false w = .fin neg z false → z ≤ lo ∨ hi ≤ z) →
       let next := (l >>> 1) ^^^ (if l.getLsbD 0 = true then 0x80200003#32 else 0)
       roundTo (.fin neg m false) t 5 sat false l =
         (if next.toNat % 2 ^ 24 < (m - lo) * 2 ^ 24 / (hi - lo) then y else x, next))

/-- R138, R139, R74, R75: reductions write the root to lane 0 and zero to lanes 1 to 31; for integer tags the root is the sum,
the largest or the smallest of the active elements; VSCAN writes the running sums. Floating sums follow the tree and take their
LFSR steps along it. That VSCAN passes the first present element unchanged is the model's choice (log 50). R133, R134, R140: VSEL
writes every element by its selector; VCMP sets bit j of its mask register when every element that bit j
governs is active and meets the condition, and clears the bits that govern none; VCNT counts the active elements. -/
def Obligations.ReductionsSelectionsAndCompares : Prop :=
  (∀ (o : OpV) (s : State), (o.rm = 5 → s.pl.drawsQueued = false) →
     let w := elemWidth o.t
     let n := 1024 / w
     let on := (List.range n).filter fun k => active (s.rM o.m.toNat) w k
     let a := fun k => laneI (s.rV o.va.toNat) w k
     let root := fun (i : Instr) (r : Nat) (l : BitVec 32) => guarded i s o.g o.gn fun t =>
       lane (t.rV o.vd.toNat) 32 0 = r % 2 ^ 32 ∧ (∀ k, 0 < k → k < 32 → lane (t.rV o.vd.toNat) 32 k = 0) ∧ t.pl.lfsr = l
       ∧ ranOn s t (s.pc + 1) [] [] [o.vd.toNat] [] true
     let put := fun v : Int => (BitVec.ofInt 32 v).toNat
     (isFloatTag o.t = false →
       root (.vredadd o) (put ((on.map a).foldl (· + ·) 0)) s.pl.lfsr
       ∧ root (.vredmax o) (put ((on.map a).foldl max (-(2 ^ (w - 1))))) s.pl.lfsr
       ∧ root (.vredmin o) (put ((on.map a).foldl min (2 ^ (w - 1) - 1))) s.pl.lfsr)
     ∧ (isFloatTag o.t = true →
       (let sum := treeRoot (addF32 o.rm.toNat s.pl.ftz) n.log2 (s.leaves o) s.pl.lfsr
        root (.vredadd o) (sum.1.getD 0) sum.2)
       ∧ root (.vredmax o) ((treeRoot (fun x y l => (choose 0 s.pl.ftz true x y, l)) n.log2 (s.leaves o) s.pl.lfsr).1.getD
           (emptyRoot o.t.toNat true)) s.pl.lfsr
       ∧ root (.vredmin o) ((treeRoot (fun x y l => (choose 0 s.pl.ftz false x y, l)) n.log2 (s.leaves o) s.pl.lfsr).1.getD
           (emptyRoot o.t.toNat false)) s.pl.lfsr)
     ∧ (o.t = 7 → guarded (.vscan o) s o.g o.gn fun t =>
         (∀ k, k < 32 → lane (t.rV o.vd.toNat) 32 k =
           put (((List.range (k + 1)).filter fun j => active (s.rM o.m.toNat) w j).map a |>.foldl (· + ·) 0))
         ∧ ranOn s t (s.pc + 1) [] [] [o.vd.toNat] [] false)
     ∧ (o.t = 0 → guarded (.vscan o) s o.g o.gn fun t =>
         let sums := scanFrom (addF32 o.rm.toNat s.pl.ftz) none (s.leaves o) s.pl.lfsr
         (∀ k, k < 32 → lane (t.rV o.vd.toNat) 32 k = (sums.1)[k]?.getD 0 % 2 ^ 32) ∧ t.pl.lfsr = sums.2
         ∧ ranOn s t (s.pc + 1) [] [] [o.vd.toNat] [] true))
  ∧ (∀ (o : OpV) (s : State), o.rm = 0 →
       let w := elemWidth o.t
       let n := 1024 / w
       let a := s.rV o.va.toNat
       let b := s.rV o.vb.toNat
       let m := s.rM o.m.toNat
       guarded (.vsel o) s o.g o.gn (fun t =>
         (∀ k, k < n → lane (t.rV o.vd.toNat) w k = (if active m w k then lane a w k else lane b w k))
         ∧ ranOn s t (s.pc + 1) [] [] [o.vd.toNat] [] false)
       ∧ (∀ cc, o.vd.toNat < 8 → guarded (.vcmp cc o) s o.g o.gn fun t =>
         (∀ j, j < 64 → o.vd ≠ 0 →
           let governs := fun k => k < n ∧ (if 16 ≤ w then k else k * w / 16) = j
           ((t.rM o.vd.toNat).getLsbD j = true ↔
             (∃ k, governs k) ∧ ∀ k, governs k → active m w k = true
               ∧ (if isFloatTag o.t then elemHolds cc o.t.toNat s.pl.ftz (lane a w k) (lane b w k) = true
                  else laneAsks cc w (lane a w k) (lane b w k))))
         ∧ ranOn s t (s.pc + 1) [] [] [] [o.vd.toNat] false)
       ∧ writesS (.vcnt o) s o.g o.gn (BitVec.ofNat 5 o.imm.toNat)
           (BitVec.ofNat 64 ((List.range n).filter fun k => active m w k).length))

/-- R141, R142: element moves. VPERM picks by the low index bits, VSPLAT spreads one value, VEXT reads and VINS writes one
element, VPACK and VUNPK move granules. R135: VCVT converts the c elements of one part, RoundTo into the destination tag,
and leaves the rest of VD. -/
def Obligations.VectorMovesAndConversion : Prop :=
  (∀ (o : OpV) (s : State), o.rm = 0 →
     let w := elemWidth o.t
     let n := 1024 / w
     let a := s.rV o.va.toNat
     let b := s.rV o.vb.toNat
     let imm := o.imm.toNat
     let r := BitVec.ofNat 5 imm
     let idx := imm / 2 ^ 5 % 256
     let i16 := imm % 2 ^ 16
     writesLanes (.vperm o) s o (fun k => lane a w (lane b w k % n))
     ∧ (imm < 2 ^ 19 → writesLanes (.vsplat o) s o (fun _ => (s.rS r.toNat).toNat % 2 ^ w))
     ∧ (2 ^ 19 ≤ imm → writesLanes (.vsplat o) s o (fun _ =>
         if o.t = 0 then i16 * 2 ^ 16
         else if o.t = 7 then (BitVec.ofInt 32 (BitVec.ofNat 16 i16).toInt).toNat
         else i16 % 2 ^ w))
     ∧ (idx < n →
       writesS (.vext o) s o.g o.gn r
         (if isFloatTag o.t then BitVec.ofNat 64 (lane a w idx) else BitVec.ofInt 64 (laneI a w idx))
       ∧ guarded (.vins o) s o.g o.gn fun t =>
         (∀ k, k < n → lane (t.rV o.vd.toNat) w k =
           (if k = idx then (s.rS r.toNat).toNat % 2 ^ w else lane (s.rV o.vd.toNat) w k))
         ∧ ranOn s t (s.pc + 1) [] [] [o.vd.toNat] [] false)
     ∧ guarded (.vpack o) s o.g o.gn (fun t =>
       (t.rV o.vd.toNat).toNat = a.toNat % 2 ^ 512 + b.toNat % 2 ^ 512 * 2 ^ 512
       ∧ ranOn s t (s.pc + 1) [] [] [o.vd.toNat] [] false)
     ∧ guarded (.vunpk o) s o.g o.gn fun t =>
       (t.rV o.vd.toNat).toNat = a.toNat / 2 ^ (512 * (imm % 2)) % 2 ^ 512
       ∧ ranOn s t (s.pc + 1) [] [] [o.vd.toNat] [] false)
  ∧ (∀ (o : OpV) (s : State), (o.rm = 5 → s.pl.drawsQueued = false) →
       let td := BitVec.ofNat 3 o.imm.toNat
       let part := o.imm.toNat / 8 % 8
       let ws := elemWidth o.t
       let wd := elemWidth td
       let c := 1024 / max ws wd
       part < max (ws / wd) (wd / ws) →
       guarded (.vcvt o) s o.g o.gn fun t =>
         (∃ l : Nat → BitVec 32, l 0 = s.pl.lfsr ∧ t.pl.lfsr = l c
           ∧ ∀ j, j < c →
             let si := if wd ≤ ws then j else part * c + j
             let di := if wd ≤ ws then part * c + j else j
             if active (s.rM o.m.toNat) (max ws wd) j then
               (lane (t.rV o.vd.toNat) wd di, l (j + 1)) =
                 roundTo (value o.t.toNat s.pl.ftz (lane (s.rV o.va.toNat) ws si)) td.toNat o.rm.toNat (o.sat == 1) s.pl.ftz (l j)
             else lane (t.rV o.vd.toNat) wd di = lane (s.rV o.vd.toNat) wd di ∧ l (j + 1) = l j)
         ∧ (∀ d, d < 1024 / wd → (wd ≤ ws → d < part * c ∨ part * c + c ≤ d) → (ws < wd → c ≤ d) →
             lane (t.rV o.vd.toNat) wd d = lane (s.rV o.vd.toNat) wd d)
         ∧ ranOn s t (s.pc + 1) [] [] [o.vd.toNat] [] true)

/-- R143: VCOMP gathers the selected groups in order at the low end, zero beyond them, with their count in S[SD] and whether there
is one in P[PD]; no word decodes to a group larger than the register or a LEAD outside its group. R144: VMRG writes the first
16 pairs of the stable merge of two runs of pairs, equal keys from VA first, and the numbers of pairs taken from each. -/
def Obligations.VectorCompactionAndMerge : Prop :=
  (∀ (o : OpV) (s : State), o.rm = 0 →
     let w := elemWidth o.t
     let n := 1024 / w
     let g := 2 ^ (o.imm.toNat / 2 ^ 8 % 8)
     let lead := o.imm.toNat / 2 ^ 11 % 128
     let sd := o.imm.toNat % 32
     let pd := o.imm.toNat / 2 ^ 5 % 8
     let sel := (List.range (n / g)).filter fun j => active (s.rM o.m.toNat) w (j * g + lead)
     g ≤ n → lead < g →
     guarded (.vcomp o) s o.g o.gn fun t =>
       (∀ q, q < n → lane (t.rV o.vd.toNat) w q =
         (match sel[q / g]? with | some j => lane (s.rV o.va.toNat) w (j * g + q % g) | none => 0))
       ∧ t.rS sd = (if sd = 0 then 0 else BitVec.ofNat 64 sel.length)
       ∧ t.rP pd = (if pd = 0 then 1 else if sel = [] then 0 else 1)
       ∧ ranOn s t (s.pc + 1) [sd] [pd] [o.vd.toNat] [] false)
  ∧ (∀ (o : OpV) (w : Word),
       ¬(2 ^ (o.imm.toNat / 2 ^ 8 % 8) ≤ 1024 / elemWidth o.t ∧ o.imm.toNat / 2 ^ 11 % 128 < 2 ^ (o.imm.toNat / 2 ^ 8 % 8)) →
       decodeStage w ≠ .ok (.vcomp o))
  ∧ (∀ (o : OpV) (s : State), o.rm = 0 →
       let sn := s.rS (o.imm.toNat / 2 ^ 5 % 32)
       let sd := o.imm.toNat % 32
       let run := fun (v : Vec) (k : Nat) => (List.range (min (k % 32) 16)).map fun p => (lane v 32 (2 * p), lane v 32 (2 * p + 1))
       let pa := run (s.rV o.va.toNat) sn.toNat
       let pb := run (s.rV o.vb.toNat) (sn.toNat / 2 ^ 8)
       let le := fun (x y : Nat × Nat) =>
         if o.imm.toNat / 2 ^ 10 % 2 = 1 then decide (x.1 ≤ y.1)
         else decide ((BitVec.ofNat 32 x.1).toInt ≤ (BitVec.ofNat 32 y.1).toInt)
       guarded (.vmrg o) s o.g o.gn fun t =>
         ∃ i j, i ≤ pa.length ∧ j ≤ pb.length ∧ i + j = min 16 (pa.length + pb.length)
           ∧ (List.merge pa pb le).take 16 = List.merge (pa.take i) (pb.take j) le
           ∧ (∀ p, p < 16 → (lane (t.rV o.vd.toNat) 32 (2 * p), lane (t.rV o.vd.toNat) 32 (2 * p + 1)) =
               (List.merge pa pb le)[p]?.getD (0, 0))
           ∧ t.rS sd = (if sd = 0 then 0 else BitVec.ofNat 64 (j * 256 + i))
           ∧ ranOn s t (s.pc + 1) [sd] [] [o.vd.toNat] [] false)

/-! ## Ring instructions -/

/-- R103, R109, R116, R119: a consumer instruction whose window is present reads it, advances and goes on. RLD takes the data
of one or two slots, RPEEK the sideband of one, AWAIT nothing; the advance retires the slots that AM and ML name for the
handle's branch; a nonzero ST on a handle without a resident window makes the window resident; on a handle with one the first
consumer instruction of a firing takes one from the count, and the firing that brings it to zero is to retire the window at its
END (R109). R78: one whose window is
not present holds its place and waits; WINDOW_PRESENT lets it issue again once the window is present. -/
def Obligations.ConsumersReadOrWaitForTheirWindow : Prop :=
  (∀ (o : OpH) (s : State) (b : Handle) (r : Ring) (ns : List Nat),
     let h := o.h.toNat
     s.rP o.g.toNat ^^^ o.gn = 1 → onRing s h b r → o.nw.toNat ≤ r.size →
     (o.am ≠ 0 → s.commitPending h = false) →
     s.lookAt b r s.pl.firing.colour o.nw.toNat (o.am != 0) = .window ns →
     let out := s.advanceOf r o.am.toNat o.ml.toNat ns
     let goesOn := fun (t : State) (rs vs : List Nat) =>
       ringRan s t b.key [] rs vs ∧ retiredBy s t b.key b.branch out
       ∧ (b.resId = 0 → o.st ≠ 0 → s.serial ≠ 0 →
           (find t.pl.h h).map (fun x => (x.res, x.resColour, x.resTid)) =
             some (o.st.toNat, s.pl.firing.colour, s.pl.firing.tid)
           ∧ ∃ x, (find t.pl.h h).bind t.pl.residOf = some x ∧ x.slots = ns ∧ x.nw = o.nw.toNat)
       ∧ (b.resId = 0 → o.st = 0 → t.pl.h = s.pl.h)
       ∧ (b.resId ≠ 0 →
           let f := s.pl.firing
           t.pl.resid = s.pl.resid
           ∧ (f.counted.contains h = true → t.pl.h = s.pl.h ∧ t.pl.firing.retireAtEnd = f.retireAtEnd)
           ∧ (f.counted.contains h = false →
             find t.pl.h h = some { b with res := b.res - 1 } ∧ t.pl.firing.counted = f.counted ++ [h]
             ∧ t.pl.firing.retireAtEnd = (if b.res - 1 = 0 then f.retireAtEnd ++ [b.resId] else f.retireAtEnd)))
     completes (.await o) s (fun t => goesOn t [] [])
     ∧ completes (.rld o) s (fun t =>
         goesOn t [] [o.v.toNat]
         ∧ t.rV o.v.toNat = (if o.nw = 2 then ((ns[1]?).map (s.gran r)).getD 0 else 0) ++ ((ns[0]?).map (s.gran r)).getD 0)
     ∧ completes (.rpeek o) s (fun t =>
         goesOn t [o.v.toNat] []
         ∧ t.rS o.v.toNat = (if o.v = 0 then 0 else BitVec.ofNat 64 (((ns[o.go.toNat]?).map (s.side r)).getD 0).toNat)))
  ∧ ((∀ (o : OpH) (s : State) (b : Handle) (r : Ring),
       let h := o.h.toNat
       s.rP o.g.toNat ^^^ o.gn = 1 → onRing s h b r → o.nw.toNat ≤ r.size →
       (o.am ≠ 0 → s.commitPending h = false) →
       s.lookAt b r s.pl.firing.colour o.nw.toNat (o.am != 0) = .wait →
       ∀ i ∈ [Instr.await o, .rld o, .rpeek o], exec i s = .next (s.hold .window 0))
     ∧ (∀ (pid : Nat) (s : State), (s.plane pid).running = true → (s.plane pid).firing.wait = .window →
       s.windowReady pid = true → (s.die (pid / 1024)).fenced = false →
       completes (.windowPresent pid) s fun t =>
         t.plane pid = { s.plane pid with firing := { (s.plane pid).firing with wait := .none } }
         ∧ (∀ q, q ≠ pid → t.plane q = s.plane q) ∧ t = { s with planes := t.planes }))

/-- R117, R104, R114: CLAIM with FREE at least NW and no claim waiting is granted whole: TAIL moves by NW, each slot gets MARK 0,
the handle's DTAG, VALID 0 and the firing's colour, and the slots join the firing's claimed window. A claim that cannot be
granted waits in the ring's queue, and one behind whose place in the clk another was granted is tried again in the next clk;
slots granted to it before are taken; CLAIM_GRANT grants the oldest waiting claim once FREE allows it. -/
def Obligations.ClaimsGrantWholeWindowsInOrder : Prop :=
  (∀ (o : OpH) (s : State) (b : Handle) (r : Ring),
     let h := o.h.toNat
     let nw := o.nw.toNat
     let me := Claimant.firing s.cur s.pl.firing.fid h
     let ns := (List.range nw).map fun i => r.tail + i
     s.rP o.g.toNat ^^^ o.gn = 1 → onRing s h b r → nw ≤ r.size → b.key = r.key → (∀ g ∈ r.granted, g.1 ≠ me) →
     r.passedPlace me s.clk = false → r.queue = [] → nw ≤ r.free →
     completes (.claim o) s fun t =>
       ringRan s t b.key (ns.map r.gran) [] []
       ∧ (∃ r', t.ring b.key = some r' ∧ r'.tail = r.tail + nw
         ∧ r' = { r with tail := r'.tail, slots := r'.slots, lastGrant := (s.clk, s.cur % 1024 + 1) }
         ∧ (∀ n, n ∉ ns → find r'.slots n = find r.slots n)
         ∧ ∀ n ∈ ns, find r'.slots n = some { tid := s.pl.firing.tid, fid := s.pl.firing.fid })
       ∧ (∀ n ∈ ns, t.side r n = mkSide 0 b.dtag 0 s.pl.firing.colour ∧ t.gran r n = s.gran r n)
       ∧ t.claimed h = s.claimed h ++ ns)
  ∧ ((∀ (o : OpH) (s : State) (b : Handle) (r : Ring),
       let h := o.h.toNat
       let me := Claimant.firing s.cur s.pl.firing.fid h
       s.rP o.g.toNat ^^^ o.gn = 1 → onRing s h b r → o.nw.toNat ≤ r.size →
       (∀ ns rest, r.granted = (me, ns) :: rest → completes (.claim o) s fun t =>
         t.claimed h = s.claimed h ++ ns ∧ t.pc = s.pc + 1
         ∧ ∃ r', t.ring b.key = some r' ∧ r' = { r with granted := rest })
       ∧ ((∀ g ∈ r.granted, g.1 ≠ me) → r.passedPlace me s.clk = true → exec (.claim o) s = .next (s.hold .retry 0))
       ∧ ((∀ g ∈ r.granted, g.1 ≠ me) → r.passedPlace me s.clk = false → (r.queue ≠ [] ∨ r.free < o.nw.toNat) →
         completes (.claim o) s fun t =>
           t.pl.firing = { s.pl.firing with wait := .claim, waitArg := 0 }
           ∧ ∃ r', t.ring b.key = some r' ∧ r'.tail = r.tail ∧ r'.slots = r.slots
             ∧ ∃ q ∈ r'.queue, q.who = me ∧ q.nw = o.nw.toNat ∧ q.colour = s.pl.firing.colour
               ∧ q.tid = s.pl.firing.tid ∧ q.fid = s.pl.firing.fid ∧ q.dtag = b.dtag))
     ∧ (∀ (key pid fid h : Nat) (s : State) (r : Ring) (q : ClaimReq) (rest : List ClaimReq),
       s.ring key = some r → r.queue = q :: rest → q.nw ≤ r.free → q.who = .firing pid fid h →
       (s.plane pid).running = true → (s.plane pid).firing.fid = fid → (s.plane pid).firing.wait = .claim →
       (s.die (key / 2 ^ 18)).fenced = false →
       completes (.claimGrant key) s fun t =>
         (∃ r', t.ring key = some r' ∧ r'.tail = r.tail + q.nw ∧ r'.queue = rest)
         ∧ (t.plane pid).firing.pc = (s.plane pid).firing.pc + 1 ∧ (t.plane pid).firing.wait = .none
         ∧ look [] (t.plane pid).firing.claims h =
             look [] (s.plane pid).firing.claims h ++ (List.range q.nw).map fun i => r.tail + i))

/-- R118: RST writes data, RMARK the mark and RFMT format and VALID of slots of the claimed window, and nothing else. R104,
R117: COMMIT takes the oldest NW slots from the claimed window at once; COMMIT_FILLED makes them filled once every earlier
write of the firing has performed; it waits for those, for earlier commits to the ring, and while the ring's region is away. -/
def Obligations.ProducersWriteAndCommitSlots : Prop :=
  (∀ (o : OpH) (s : State) (b : Handle) (r : Ring) (c0 : Nat) (c : List Nat),
     let h := o.h.toNat
     let v := s.rV o.v.toNat
     let x := (s.rS o.v.toNat).toNat
     s.rP o.g.toNat ^^^ o.gn = 1 → onRing s h b r → o.nw.toNat ≤ r.size → b.key = r.key →
     (s.claimed h).take o.nw.toNat = c0 :: c → (c0 :: c).length = o.nw.toNat →
     ((c0 :: c).map r.gran).Nodup →
     (o.nw.toNat ≤ 2 → completes (.rst o) s fun t =>
       ringRan s t b.key ((c0 :: c).map r.gran) [] []
       ∧ t.gran r c0 = v.extractLsb' 0 512
       ∧ (∀ c1 ∈ c, t.gran r c1 = v.extractLsb' 512 512)
       ∧ ∀ n ∈ c0 :: c, t.side r n = s.side r n)
     ∧ (∀ n, (c0 :: c)[o.go.toNat]? = some n →
       let w := s.side r n
       completes (.rmark o) s (fun t =>
         ringRan s t b.key [r.gran n] [] [] ∧ t.gran r n = s.gran r n
         ∧ t.side r n = mkSide (x / 2 ^ 13) (sideFmt w) (sideValid w) (sideColour w))
       ∧ completes (.rfmt o) s (fun t =>
         ringRan s t b.key [r.gran n] [] [] ∧ t.gran r n = s.gran r n
         ∧ t.side r n = mkSide (sideMark w) (x / 2 ^ 10) (x / 2 ^ 4) (sideColour w))))
  ∧ ((∀ (o : OpH) (s : State) (b : Handle) (r : Ring),
       let h := o.h.toNat
       let nw := o.nw.toNat
       s.rP o.g.toNat ^^^ o.gn = 1 → onRing s h b r → nw ≤ r.size → nw ≤ (s.claimed h).length →
       completes (.commit o) s fun t =>
         ringRan s t b.key [] [] [] ∧ t.ring b.key = s.ring b.key
         ∧ t.claimed h = (s.claimed h).drop nw
         ∧ t.pl.commits = s.pl.commits ++ [
             { id := s.serial, bind := b, slots := (s.claimed h).take nw, fid := s.pl.firing.fid,
               tid := s.pl.firing.tid, h, upTo := s.serial, coord := s.pl.firing.coord }])
     ∧ (∀ (pid : Nat) (s : State) (c : PendCommit) (rest : List PendCommit) (r : Ring),
       (s.plane pid).commits = c :: rest → (s.plane pid).stash = [] →
       (∀ d ∈ rest, c.id ≤ d.id) → (∀ e ∈ (s.plane pid).resid, e.2.ended = false) → (s.plane pid).eotLeft = false →
       (s.plane pid).writesDone c.fid c.upTo = true → s.exitOf c.bind.key = none → s.ringOf c.bind = some r → r.live ≠ 0 →
       (s.plane pid).killsCoord c.tid c.coord = false → (s.die (pid / 1024)).fenced = false →
       completes (.commitFilled pid 0) s fun t =>
         (t.plane pid).commits = rest
         ∧ ∃ r', t.ring c.bind.key = some r' ∧ r'.tail = r.tail ∧ r'.reclaim = r.reclaim
           ∧ ∀ n, find r'.slots n = (find r.slots n).map fun x => if n ∈ c.slots then { x with filled := true, filledAt := s.clk } else x)
     ∧ (∀ (pid : Nat) (s : State) (c : PendCommit) (rest : List PendCommit),
       (s.plane pid).commits = c :: rest →
       ((s.plane pid).writesDone c.fid c.upTo = false ∨ s.farAway c.bind = true
         ∨ ∃ d ∈ rest, d.id < c.id ∧ d.bind.key = c.bind.key) →
       exec (.commitFilled pid 0) s = .next s))

/-- R120: RETIRE retires its window for the handle's branch. RADV retires the slots through the first whose mark has level
at least ML, or NW of them, and writes whether it found one and how many it took. -/
def Obligations.RetireAndAdvance : Prop :=
  ∀ (o : OpH) (s : State) (b : Handle) (r : Ring) (ns : List Nat),
    let h := o.h.toNat
    let nw := o.nw.toNat
    let ml := o.ml.toNat
    s.rP o.g.toNat ^^^ o.gn = 1 → onRing s h b r → nw ≤ r.size → s.commitPending h = false → b.resId = 0 →
    (s.windowPast (s.pl.taken b.key b.branch) r b.branch s.pl.firing.colour nw = some ns →
      completes (.retire o) s fun t => ringRan s t b.key [] [] [] ∧ retiredBy s t b.key b.branch ns)
    ∧ (∀ found : Bool,
      ns <+: ((s.visible r b.branch s.pl.firing.colour).filter fun n => !(s.pl.taken b.key b.branch).contains n) → ns ≠ [] →
      (∀ n ∈ ns, r.isFilled n = true) →
      (∀ n ∈ ns.dropLast, levelAtLeast (sideMark (s.side r n)) ml = false) →
      (∀ n ∈ ns.getLast?, levelAtLeast (sideMark (s.side r n)) ml = found) →
      (if found then ns.length ≤ nw else ns.length = nw) →
      completes (.radv o) s fun t =>
        ringRan s t b.key [] [o.v.toNat] [] ∧ retiredBy s t b.key b.branch ns
        ∧ t.rS o.v.toNat = (if o.v = 0 then 0 else BitVec.ofNat 64 ((if found then 128 else 0) + ns.length % 128)))

/-- R107, R121: RBIND binds the handle that its word describes when the ring exists with that size and a live branch, and the
handle is not in use; RUNBIND leaves it unbound. R112, R122: RCAST sets the live mask and the timeout, RDET clears the
branch's live bit, upon which the ring controller reclaims what the branches that are left have retired, and RSTAT reads the
counts of the handle's ring without changing it. R356: where the region of the handle's ring is away, every ring instruction on
it waits. -/
def Obligations.BindingMulticastAndStatus : Prop :=
  (∀ (o : OpK) (s : State),
     let h := o.kreg.toNat % 16
     s.rP o.g.toNat ^^^ o.gn = 1 → s.ringBusy h = false → s.away h = false → s.badGone h = false →
     s.handleInUse h = false →
     (∀ (cx cy base lg branch dtag : Nat) (r : Ring),
       cx < 16 → cy < 16 → base < 1024 → 2 ≤ lg → lg ≤ 10 → branch < 8 → dtag < 8 →
       let cid := s.cur / 1024 * 256 + cy * 16 + cx
       (s.rS o.a.toNat).toNat = dtag * 2 ^ 36 + branch * 2 ^ 32 + lg * 2 ^ 28 + base * 2 ^ 18 + cy * 16 + cx →
       s.ring (cid * 1024 + base) = some r → r.job = s.pl.job → r.lg = lg → r.live.getLsbD branch = true →
       completes (.rbind o) s fun t =>
         ringRan s t (cid * 1024 + base) [] [] [] ∧ t.rings = s.rings
         ∧ find t.pl.h h = some { cell := cid, base, lg, branch, dtag }
         ∧ ∀ k, k ≠ h → find t.pl.h k = find s.pl.h k)
     ∧ completes (.runbind o) s fun t =>
         ringRan s t 0 [] [] [] ∧ t.rings = s.rings
         ∧ find t.pl.h h = none ∧ ∀ k, k ≠ h → find t.pl.h k = find s.pl.h k)
  ∧ (∀ (o : OpK) (s : State) (b : Handle) (r : Ring),
       let h := o.kreg.toNat % 16
       let w := s.rS o.a.toNat
       s.rP o.g.toNat ^^^ o.gn = 1 → onRing s h b r →
       let held := fun (live : BitVec 8) => (∀ e ∈ r.slots, e.2.filled = true → live &&& ~~~e.2.retired ≠ 0)
         ∧ (s.plane r.pid).eotLeft = false
       (∀ live timeout : Nat, live < 2 ^ 8 → timeout < 2 ^ 24 → w.toNat = live + timeout * 2 ^ 16 →
         (r.slots = [] ∨ BitVec.ofNat 8 live &&& ~~~r.live = 0) → held (BitVec.ofNat 8 live) →
         completes (.rcast o) s fun t =>
           ringRan s t b.key [] [] []
           ∧ ∃ r', t.ring b.key = some r' ∧ r'.live = BitVec.ofNat 8 live ∧ r'.timeout = timeout ∧ r'.slots = r.slots
             ∧ r'.tail = r.tail ∧ r'.reclaim = r.reclaim)
       ∧ (held (r.live &&& ~~~(1#8 <<< b.branch)) → completes (.rdet o) s (fun t =>
           ringRan s t b.key [] [] []
           ∧ t.ring b.key = some { r with live := r.live &&& ~~~(1#8 <<< b.branch) }))
       ∧ (∀ u, (s.die (b.key / 2 ^ 18)).fenced = false →
         exec (.retireArrival b.key) (s.setRing b.key { r with live := r.live &&& ~~~(1#8 <<< b.branch) }) = .next u →
           exec (.rdet o) s = .next u.adv)
       ∧ completes (.rstat o) s (fun t =>
           ringRan s t b.key [] [o.d.toNat] [] ∧ t.rings = s.rings
           ∧ (o.d ≠ 0 → ∃ v : Nat, (t.rS o.d.toNat).toNat = v
             ∧ v % 2 ^ 11 = ((s.visible r b.branch s.pl.firing.colour).filter r.isFilled).length % 2 ^ 11
             ∧ v / 2 ^ 16 % 2 ^ 11 = r.free % 2 ^ 11
             ∧ v / 2 ^ 32 % 2 ^ 11 = (s.claimed h).length % 2 ^ 11
             ∧ v / 2 ^ 45 % 16 = b.res % 16
             ∧ v / 2 ^ 49 % 8 = b.branch % 8
             ∧ v / 2 ^ 52 % 2 ^ 8 = r.live.toNat
             ∧ v / 2 ^ 60 % 2 = 0
             ∧ v / 2 ^ 61 % 2 = (if r.shared then 1 else 0)
             ∧ v < 2 ^ 62)))
  ∧ (∀ (o : OpK) (s : State), s.rP o.g.toNat ^^^ o.gn = 1 → s.ringBusy (o.kreg.toNat % 16) = false →
       s.away (o.kreg.toNat % 16) = true →
       ∀ i ∈ [Instr.rbind o, .runbind o, .rcast o, .rdet o, .rstat o], exec i s = .next (s.hold .window 0))
  ∧ (∀ (o : OpH) (s : State), s.rP o.g.toNat ^^^ o.gn = 1 → s.ringBusy o.h.toNat = false → s.away o.h.toNat = true →
       ∀ i ∈ [Instr.rld o, .rst o, .rpeek o, .rmark o, .rfmt o, .claim o, .commit o, .await o, .retire o, .radv o],
         exec i s = .next (s.hold .window 0))

/-- R101: when retires have reached the ring controller, slots are reclaimed in order, each only when every live branch has
retired it and no parse position holds it, and none that may be reclaimed is left at RECLAIM. R111: a live branch that has
held a filled slot and retired nothing for T clk is detached: it leaves the live mask and its window becomes one BAD slot
with FMT and COLOUR of the oldest slot it held. -/
def Obligations.ReclamationAndDetachment : Prop :=
  (∀ (key : Nat) (s : State) (r : Ring),
     s.ring key = some r → (∀ n ∈ r.leaving, sideMark (s.side r n) ≠ 4) → (s.plane r.pid).eotLeft = false →
     (∀ n, find r.slots n ≠ none ↔ r.reclaim ≤ n ∧ n < r.tail) → r.slots.length = r.tail - r.reclaim →
     (s.die (key / 2 ^ 18)).fenced = false →
     completes (.retireArrival key) s fun t =>
       t = { s with rings := t.rings } ∧ (∀ k, k ≠ key → t.ring k = s.ring k)
       ∧ ∃ r', t.ring key = some r' ∧ r'.tail = r.tail ∧ r.reclaim ≤ r'.reclaim ∧ r'.reclaim ≤ max r.reclaim r.tail
         ∧ (∀ n, r.reclaim ≤ n → n < r'.reclaim → r.done n = true ∧ s.headHolds r n = false)
         ∧ (r.tail ≤ r'.reclaim ∨ r.done r'.reclaim = false ∨ s.headHolds r r'.reclaim = true))
  ∧ (∀ (key branch n : Nat) (s : State) (r : Ring),
       branch < 8 → s.ring key = some r → r.oldestHeld branch = some n → r.timeout ≠ 0 → r.isLive branch = true →
       look 0 r.since branch + r.timeout ≤ s.clk →
       let r1 : Ring := { r with live := r.live &&& ~~~(1#8 <<< branch) }
       (∀ n ∈ r1.leaving, sideMark (s.side r n) ≠ 4) → (s.plane r.pid).eotLeft = false →
       (s.die (key / 2 ^ 18)).fenced = false →
       completes (.branchDetachTimeout key branch) s fun t =>
         (∀ a, t.byte a = s.byte a) ∧ t.bank = s.bank ∧ t.sideband = s.sideband
         ∧ (∀ k, k ≠ key → t.ring k = s.ring k)
         ∧ ∃ r', t.ring key = some r' ∧ r'.live = r1.live ∧ r'.tail = r.tail ∧ r.reclaim ≤ r'.reclaim
           ∧ (∀ n, r.reclaim ≤ n → n < r'.reclaim → r1.done n = true)
           ∧ (∀ n x, r'.reclaim ≤ n → find r.slots n = some x →
               ∃ y, find r'.slots n = some y ∧ y = { x with left := y.left })
           ∧ find r'.bad branch =
               some { side := mkSide 7 (sideFmt (s.side r n)) 0 (sideColour (s.side r n)), retired := false })

/-- R116, R117, R121, R123: where the handle is unbound, the window larger than the ring, the claimed window too short,
the branch detached by RDET or RCAST, the resident window misused (R109), the word of RBIND or RCAST invalid, or the handle in
use, the instruction raises RINGFAULT with the subcode of R123 and has no other effect. R111: where the branch was detached by
timeout and its BAD slot is retired, the instruction raises DETACH. NWSIZE before DETACHED and STICKY (log 40), and REBIND before
BINDCHK (log 14), are the model's choices where both hold. -/
def Obligations.RingFaultsHaveTheirSubcodes : Prop :=
  (∀ (o : OpH) (s : State), s.rP o.g.toNat ^^^ o.gn = 1 → s.ringBusy o.h.toNat = false →
    (find s.pl.h o.h.toNat = none →
      ∀ i ∈ [Instr.rld o, .rst o, .rpeek o, .rmark o, .rfmt o, .claim o, .commit o, .await o, .retire o, .radv o],
        exec i s = .next (s.ringFault o.h.toNat 1))
    ∧ (∀ b r, onRing s o.h.toNat b r →
      (r.size < o.nw.toNat →
        ∀ i ∈ [Instr.rld o, .rst o, .rpeek o, .rmark o, .rfmt o, .claim o, .commit o, .await o, .retire o, .radv o],
          exec i s = .next (s.ringFault o.h.toNat 2))
      ∧ (o.nw.toNat ≤ r.size → (s.claimed o.h.toNat).length < o.nw.toNat →
        ∀ i ∈ [Instr.rst o, .rmark o, .rfmt o, .commit o], exec i s = .next (s.ringFault o.h.toNat 3))
      ∧ (∀ x, o.nw.toNat ≤ r.size → s.commitPending o.h.toNat = false → s.pl.residOf b = some x →
        (∀ i ∈ [Instr.retire o, .radv o], exec i s = .next (s.ringFault o.h.toNat 5))
        ∧ ((x.nw < o.nw.toNat ∨ o.am ≠ 0 ∨ (r.shared = false ∧ b.res ≠ 0 ∧ b.resColour ≠ s.pl.firing.colour)) →
          ∀ i ∈ [Instr.rld o, .rpeek o, .await o], exec i s = .next (s.ringFault o.h.toNat 5))))
    ∧ (∀ b r, s.handle o.h.toNat = some (b, r) → r.isLive b.branch = false → find r.bad b.branch = none →
      o.nw.toNat ≤ r.size → s.commitPending o.h.toNat = false →
      ∀ i ∈ [Instr.rld o, .rpeek o, .await o, .retire o, .radv o], exec i s = .next (s.ringFault o.h.toNat 6))
    ∧ (∀ b r, s.handle o.h.toNat = some (b, r) → o.nw.toNat ≤ r.size → s.badGone o.h.toNat = true →
      ∀ i ∈ [Instr.rld o, .rst o, .rpeek o, .rmark o, .rfmt o, .claim o, .commit o, .await o, .retire o, .radv o],
        exec i s = .next (s.detachTrap o.h.toNat)))
  ∧ (∀ (o : OpK) (s : State), s.rP o.g.toNat ^^^ o.gn = 1 → s.ringBusy (fld o.kreg 0 4) = false →
    s.away (fld o.kreg 0 4) = false →
    (s.badGone (fld o.kreg 0 4) = true →
      ∀ i ∈ [Instr.rbind o, .runbind o, .rcast o, .rdet o], exec i s = .next (s.detachTrap (fld o.kreg 0 4)))
    ∧ (s.badGone (fld o.kreg 0 4) = false →
    (s.handleInUse (fld o.kreg 0 4) = true →
      exec (.rbind o) s = .next (s.ringFault (fld o.kreg 0 4) 9)
      ∧ exec (.runbind o) s = .next (s.ringFault (fld o.kreg 0 4) 9))
    ∧ (s.handleInUse (fld o.kreg 0 4) = false → 2 ^ 39 ≤ (s.rS o.a.toNat).toNat →
      exec (.rbind o) s = .next (s.ringFault (fld o.kreg 0 4) 7))
    ∧ (find s.pl.h (fld o.kreg 0 4) = none →
      exec (.rcast o) s = .next (s.ringFault (fld o.kreg 0 4) 1)
      ∧ exec (.rdet o) s = .next (s.ringFault (fld o.kreg 0 4) 1))
    ∧ (∀ b r, onRing s (fld o.kreg 0 4) b r → 2 ^ 40 ≤ (s.rS o.a.toNat).toNat →
      exec (.rcast o) s = .next (s.ringFault (fld o.kreg 0 4) 8))))
  ∧ (∀ (o : OpA) (s : State) (h n : Nat) (ns : List Nat) (rest : Tab (List Nat)),
    s.rP o.g.toNat ^^^ o.gn = 1 → s.pl.firing.claims = (h, n :: ns) :: rest →
    exec (.endFiring o) s = .next (s.ringFault h 4))

/-! ## Matrix instructions -/

/-- R153, R154, R162 to R169: a matrix instruction that may enter the queue is enqueued with its operands read at issue. -/
def Obligations.MatrixInstructionsEnterTheQueue : Prop :=
  ∀ s : State, mayEnqueue s →
    let g := s.pl.governing (s.pl.firing.colour == 15)
    (∀ o : OpM, s.rP o.g.toNat ^^^ o.gn = 1 →
      enqueues (.mzero o) s (fun m => m.kind = .mzero)
      ∧ (g.set = true → enqueues (.mrel o) s fun m => m.kind = .mrel)
      ∧ enqueues (.mscbRegister o) s (fun m => m.kind = .mscb ∧ m.useH = false ∧ m.d0 = s.rS o.sb.toNat)
      ∧ (∀ a, a = (s.rS o.sa.toNat).toNat % 2 ^ 16 → a % 64 = 0 → s.pl.bankBase ≤ a →
          a + 128 ≤ s.pl.bankBase + s.pl.bankSize →
          enqueues (.mscaBank o) s fun m => m.kind = .msca ∧ m.useH = false ∧ m.d0.toNat = a)
      ∧ (pairOk s o.sb.toNat →
          let loaded := fun (k : MatKind) (m : MatOp) => m.kind = k ∧ m.useH = false ∧ m.tb = o.tb.toNat
            ∧ m.d0 = s.rS o.sb.toNat ∧ m.d1 = s.rS (o.sb.toNat + 1)
            ∧ m.buf = (let c := s.pl.mat (s.pl.firing.colour == 15); if c.anyLoad then 1 - c.lastBuf else 0)
          enqueues (.mldbBank o) s (loaded .mldb) ∧ enqueues (.mldbtBank o) s (loaded .mldbt))
      ∧ (g.set = true → o.ah = 0 → pairOk s o.sa.toNat →
          enqueues (.mma o) s fun m => m.kind = .mma ∧ m.useH = false ∧ m.ta = o.ta.toNat ∧ m.tb = o.tb.toNat
            ∧ m.d0 = s.rS o.sa.toNat ∧ m.d1 = s.rS (o.sa.toNat + 1))
      ∧ (∀ b r, g.set = true → o.ah = 1 → s.handle o.ha.toNat = some (b, r) → 32 ≤ r.size → b.resId = 0 →
          enqueues (.mma o) s (fun m => m.kind = .mma ∧ m.useH = true ∧ m.h = o.ha.toNat ∧ m.bind = b ∧ m.nw = 32
            ∧ m.adv = false ∧ m.resId = 0 ∧ m.ta = o.ta.toNat ∧ m.tb = o.tb.toNat)
          ∧ enqueues (.mmaAdv o) s (fun m => m.kind = .mma ∧ m.useH = true ∧ m.h = o.ha.toNat ∧ m.bind = b ∧ m.nw = 32
            ∧ m.adv = true ∧ m.ta = o.ta.toNat ∧ m.tb = o.tb.toNat))
      ∧ (∀ b r, s.handle o.ha.toNat = some (b, r) → 2 ≤ r.size → b.resId = 0 →
          enqueues (.mscaHandle o) s fun m => m.kind = .msca ∧ m.useH = true ∧ m.h = o.ha.toNat ∧ m.bind = b
            ∧ m.nw = 2 ∧ m.adv = true)
      ∧ (∀ b r, s.handle o.hb.toNat = some (b, r) →
          (1 ≤ r.size → b.resId = 0 →
            enqueues (.mscbHandle o) s fun m => m.kind = .mscb ∧ m.useH = true ∧ m.h = o.hb.toNat ∧ m.bind = b
              ∧ m.nw = 1 ∧ m.adv = true)
          ∧ (2 * widthOf o.tb.toNat ≤ r.size →
            enqueues (.mkb o) s fun m => m.kind = .mkb ∧ m.cfg.set = true ∧ m.cfg.kblock = 64 * 2 ^ o.kb.toNat
              ∧ m.cfg.count = o.sa.toNat + 1 ∧ m.cfg.rlev = o.ta.toNat ∧ m.cfg.out = b ∧ m.cfg.otag = o.tb.toNat
              ∧ m.cfg.oscl = (if o.sb = 0 then 0x3F800000 else (s.rS o.sb.toNat).extractLsb' 0 32)
              ∧ m.cfg.rm = o.ha.toNat % 8 ∧ m.cfg.sat = (o.ah == 1))))
    ∧ (∀ o : OpH, s.rP o.g.toNat ^^^ o.gn = 1 →
        ∀ b r, s.handle o.h.toNat = some (b, r) → 32 ≤ r.size → b.resId = 0 →
          let loaded := fun (k : MatKind) (m : MatOp) => m.kind = k ∧ m.useH = true ∧ m.h = o.h.toNat ∧ m.bind = b
            ∧ m.nw = 32 ∧ m.adv = (o.am != 0) ∧ (m.resId ≠ 0 ↔ o.st ≠ 0 ∧ s.serial ≠ 0)
          enqueues (.mldbHandle o) s (loaded .mldb) ∧ enqueues (.mldbtHandle o) s (loaded .mldbt))
    ∧ (∀ o : OpV, s.rP o.g.toNat ^^^ o.gn = 1 →
        enqueues (.mrd o) s (fun m => m.kind = .mrd ∧ m.vd = o.vd.toNat ∧ m.row = o.imm.toNat % 32)
        ∧ enqueues (.mwr o) s (fun m => m.kind = .mwr ∧ m.vec = s.rV o.va.toNat ∧ m.row = o.imm.toNat % 32))
    ∧ (∀ o : OpN, s.rP o.g.toNat ^^^ o.gn = 1 →
        let ea := s.rS o.a.toNat + o.off.signExtend 64
        ea.toNat % 64 = 0 → ea.toNat < 2 ^ 52 →
        enqueues (.msave o) s (fun m => m.kind = .msave ∧ m.d0 = ea ∧ m.ord = o.ord.toNat ∧ m.sc = o.sc.toNat)
        ∧ enqueues (.mload o) s (fun m => m.kind = .mload ∧ m.d0 = ea ∧ m.ord = o.ord.toNat ∧ m.sc = o.sc.toNat))

/-- R155: a matrix instruction of a colour that does not own the user context does not issue: its firing leaves the plane
with its registers, its take parks, and nothing is enqueued. The take parked first resumes at that instruction once the
context has no owner. -/
def Obligations.MatrixOwnershipParksTheOtherColour : Prop :=
  (∀ (o : OpM) (s : State) (c : Nat) (k : Take), s.rP o.g.toNat ^^^ o.gn = 1 →
    s.pl.firing.colour ≠ 15 → s.pl.mq = [] → s.pl.user.open_ = true → s.pl.user.openc = c → c ≠ s.pl.firing.colour →
    s.pc < 2 ^ 64 → s.take s.pl.firing.tid = some k → k.tid = s.pl.firing.tid →
    ∀ i ∈ [Instr.mma o, .mmaAdv o, .mldbBank o, .mldbtBank o, .mscaHandle o, .mscaBank o, .mscbHandle o, .mscbRegister o,
        .mkb o, .mzero o, .mrel o],
      completes i s fun t =>
        t.pl.running = false ∧ t.pl.mq = [] ∧ t.pl.user = s.pl.user
        ∧ (∃ p : Parked, t.pl.ownParks = s.pl.ownParks ++ [p] ∧ p.firing.pc = s.pc ∧ p.firing.fid = s.pl.firing.fid
          ∧ p.regs = s.pl.regs)
        ∧ ∃ k', t.take s.pl.firing.tid = some k' ∧ k'.isParked = true ∧ k'.traps = k.traps)
  ∧ (∀ (pid : Nat) (s : State) (k : Parked) (rest : List Parked),
    (s.plane pid).running = false → (s.plane pid).stopped = false → (s.plane pid).ownParks = k :: rest →
    (∀ o ∈ (s.plane pid).mq, o.hand = true) → (s.plane pid).user.open_ = false →
    (∀ x, s.take k.firing.tid = some x → x.traps = []) → (s.die (pid / 1024)).fenced = false →
    completes (.ownershipResume pid) s fun t =>
      (t.plane pid).running = true ∧ (t.plane pid).firing = k.firing ∧ (t.plane pid).regs = k.regs
      ∧ (t.plane pid).ownParks = rest)

/-- R72, R148, R150, R152, R153, R158, R159, R165 to R168: queued operations that read no ring and no memory, when their turn
comes: an MMA adds its products to the partial block, promotes the block that it completes, and asks for a release where the count
rule holds; one on a ring asks for it where a mark of its window has the configured level, and is complete once the release is
done. Which roundings of a promotion FTZ flushes is the model's reading (log 43). -/
def Obligations.MatrixOperationsRun : Prop :=
  (∀ (pid idx : Nat) (s : State) (o : MatOp),
    opMayStart s pid idx o → (s.die (pid / 1024)).fenced = false → (s.plane pid).eotLeft = false →
    let c := (s.plane pid).mat o.hand
    (o.useH = false → o.adv = false →
    let ran := fun (P : MatCtx → Prop) => completes (.matrixOpStart pid idx) s fun t =>
      opRan s t pid o ∧ P ((t.plane pid).mat o.hand)
    (o.kind = .mzero →
      ran fun d => d = { c with
        acc := [], partialBlk := [], kpos := 0, nblk := 0, open_ := false, openc := d.openc, openTid := d.openTid })
    ∧ (o.kind = .mscb → ran fun d => d = { c with scb := o.d0.extractLsb' 0 32 })
    ∧ (o.kind = .msca →
        ran fun d => d = { c with sca := d.sca }
          ∧ ∀ i < 32, look 0x3F800000 d.sca i =
              BitVec.ofNat 32 (leNat ((List.range 4).map fun j => s.bankByte pid (o.d0.toNat + 4 * i + j))))
    ∧ (o.kind = .mkb → c.open_ = false → ran fun d => d = { c with cfg := o.cfg })
    ∧ (o.kind = .mwr → (c.open_ = true → c.openc = o.colour ∧ c.openTid = o.tid) →
        ran fun d => d = { c with acc := d.acc, open_ := true, openc := o.colour, openTid := o.tid }
          ∧ ∀ i n, i < 32 → n < 32 → (look 0 d.acc (i * 32 + n)).toNat =
              (if i = o.row then lane o.vec 32 n else (look 0 c.acc (i * 32 + n)).toNat))
    ∧ (o.kind = .mrd → (∀ k ∈ (s.plane pid).ownParks, k.firing.fid ≠ o.fid) →
        (∀ x, s.take o.tid = some x → ∀ k ∈ x.parked, k.firing.fid ≠ o.fid) →
        completes (.matrixOpStart pid idx) s fun t =>
          opRan s t pid o ∧ (t.plane pid).mat o.hand = c
          ∧ (∀ n < 32, lane ((t.plane pid).regs.rV o.vd) 32 n = (look 0 c.acc (o.row * 32 + n)).toNat)
          ∧ ∀ v, v ≠ o.vd → (t.plane pid).regs.rV v = (s.plane pid).regs.rV v)
    ∧ (∀ tr, o.kind = (if tr then .mldbt else .mldb) → o.buf < 2 →
        ran fun d =>
          d = { c with b0 := d.b0, b1 := d.b1, tag0 := d.tag0, tag1 := d.tag1, tr0 := d.tr0, tr1 := d.tr1 }
          ∧ (if o.buf = 0 then d.tag0 = o.tb ∧ d.tr0 = tr ∧ d.b1 = c.b1 ∧ d.tag1 = c.tag1 ∧ d.tr1 = c.tr1
             else d.tag1 = o.tb ∧ d.tr1 = tr ∧ d.b0 = c.b0 ∧ d.tag0 = c.tag0 ∧ d.tr0 = c.tr0)
          ∧ ∀ g j, g < 32 → j < 64 →
            (if o.buf = 0 then d.b0 else d.b1).extractLsb' (8 * (64 * g + j)) 8 =
              s.bankByte pid (rowAddr o.d0 o.d1 g + (j + 4 * ((g * (o.d0.toNat / 2 ^ 48 % 16)) % 16)) % 64))
    ∧ (o.kind = .mma → s.arrayGrants pid = true → c.release = none → o.kdone = 0 →
        let tag := if o.tb = 7 then (if o.buf = 0 then c.tag0 else c.tag1) else o.tb
        let k := 512 / max (widthOf o.ta) (widthOf tag)
        1 ≤ o.ta → o.ta ≤ 6 → 1 ≤ tag → tag ≤ 6 → o.buf < 2 →
        let a := fun i j => operand o.ta o.ftz ((s.bankRow pid o.d0 o.d1 i).toNat / 2 ^ (j * widthOf o.ta) % 2 ^ widthOf o.ta)
        let buf := (if o.buf = 0 then c.b0 else c.b1).toNat
        let b := fun j n =>
          let w := widthOf tag
          let at_ := if (if o.buf = 0 then c.tr0 else c.tr1) then n * (512 / w) + j else j * 32 + n
          operand tag o.ftz (buf / 2 ^ (at_ * w) % 2 ^ w)
        let sum := fun i n => (look (.fin 0) c.partialBlk (i * 32 + n)).add
          (dot ((List.range k).map fun j => a i j) ((List.range k).map fun j => b j n))
        let f32 := fun (flush : Bool) (x : Machine.Num) => (roundTo x 0 0 false flush 0).1
        let opens := { c with
          open_ := true, openc := if c.open_ = true then c.openc else o.colour, openTid := if c.open_ = true then c.openTid else o.tid }
        let promoted := fun (d : MatCtx) =>
          d = { opens with acc := d.acc, partialBlk := [], kpos := 0, nblk := c.nblk + 1, release := d.release }
          ∧ ∀ i n, i < 32 → n < 32 →
            let scale := f32 false ((value 0 o.ftz (look 0x3F800000 c.sca i).toNat).mul (value 0 o.ftz c.scb.toNat))
            (look 0 d.acc (i * 32 + n)).toNat =
              f32 o.ftz (((value 0 false (f32 false (sum i n).num)).mul (value 0 false scale)).add 0
                (value 0 o.ftz (look 0 c.acc (i * 32 + n)).toNat)) % 2 ^ 32
        (c.kpos + k < c.cfg.kblock → ran fun d => d = { opens with partialBlk := d.partialBlk, kpos := c.kpos + k }
          ∧ ∀ i n, i < 32 → n < 32 → look (.fin 0) d.partialBlk (i * 32 + n) = sum i n)
        ∧ (c.kpos + k = c.cfg.kblock → (c.cfg.rlev ≠ 0 ∨ c.nblk + 1 ≠ c.cfg.count) →
          ran fun d => promoted d ∧ d.release = none)
        ∧ (c.kpos + k = c.cfg.kblock → c.cfg.rlev = 0 → c.nblk + 1 = c.cfg.count → completes (.matrixOpStart pid idx) s fun t =>
          let d := (t.plane pid).mat o.hand
          promoted d ∧ (∃ x ∈ (t.plane pid).mq, x.id = o.id)
          ∧ d.release = some { mark := 2, tid := o.tid, fid := o.fid, colour := o.colour, coord := o.coord, upTo := o.upTo,
                               ftz := o.ftz }))
    ∧ (o.kind = .mrel → c.release = none → completes (.matrixOpStart pid idx) s fun t =>
        (∃ x ∈ (t.plane pid).mq, x.id = o.id ∧ x.started = true) ∧ (t.plane pid).mat o.hand = { c with
          release := some { mark := 2, tid := o.tid, fid := o.fid, colour := o.colour, coord := o.coord, upTo := o.upTo,
                            ftz := o.ftz } }))
    ∧ (∀ ns rows, o.useH = true → o.kind = .mma → s.arrayGrants pid = true → (s.plane pid).opBehindCommit o = false →
        (∀ e ∈ (s.plane pid).mq.take idx, ¬(e.useH = true ∧ e.h = o.h)) → s.takeWindow pid o = .got ns rows → o.resId = 0 →
        c.release = none → o.kdone = 0 → c.cfg.rlev ≠ 0 →
        ((∃ e ∈ rows, c.cfg.rlev ≤ markLevel (sideMark e.1)) → completes (.matrixOpStart pid idx) s fun t =>
          (∃ x ∈ (t.plane pid).mq, x.id = o.id ∧ x.started = true ∧ x.slots = ns)
          ∧ ∃ r, ((t.plane pid).mat o.hand).release = some r ∧ r.tid = o.tid ∧ r.colour = o.colour
            ∧ (∃ e ∈ rows, r.mark = markLevel (sideMark e.1)) ∧ ∀ e ∈ rows, markLevel (sideMark e.1) ≤ r.mark)
        ∧ ((∀ e ∈ rows, markLevel (sideMark e.1) < c.cfg.rlev) → completes (.matrixOpStart pid idx) s fun t =>
          ((t.plane pid).mat o.hand).release = none ∧ ∀ x ∈ (t.plane pid).mq, x.id ≠ o.id)))
  ∧ (∀ (pid idx : Nat) (s : State) (o : MatOp),
    (s.plane pid).mq[idx]? = some o → o.started = true → (s.die (pid / 1024)).fenced = false → (s.plane pid).eotLeft = false →
    (o.kind = .mrel ∨ o.kind = .mma) →
    let c := (s.plane pid).mat o.hand
    (c.release ≠ none → exec (.matrixOpStart pid idx) s = .next s)
    ∧ (c.release = none → (o.kind = .mma → 128 < o.kdone) → completes (.matrixOpStart pid idx) s fun t =>
      (∀ x ∈ (t.plane pid).mq, x.id ≠ o.id) ∧ ∀ a, t.byte a = s.byte a))

/-- R159, R160, R170: with the release buffer free a release copies the accumulator and clears the context; the buffer
claims its granules on the output ring, and once the claim is granted and the colour's earlier writes have performed it
writes and commits them, element after element, row after row, with the LFSR steps that the release took in that order (R65);
MWAIT waits for its context's queued work, release and drain. That OSCL is read under the plane's FTZ is log 15's reading. -/
def Obligations.ReleasesAndDrains : Prop :=
  (∀ (pid hand : Nat) (s : State) (r : PendRelease),
    let h := hand == 1
    let c := (s.plane pid).mat h
    c.release = some r → c.drain = none → c.kpos = 0 → (s.die (pid / 1024)).fenced = false →
    completes (.accRelease pid hand) s fun t =>
      t = { s with planes := t.planes, jobs := t.jobs } ∧ (∀ q, q ≠ pid → t.plane q = s.plane q)
      ∧ t.plane pid = { s.plane pid with
          user := (t.plane pid).user, handler := (t.plane pid).handler, lfsr := (t.plane pid).lfsr }
      ∧ (t.plane pid).mat (!h) = (s.plane pid).mat (!h)
      ∧ (∃ l : Nat → BitVec 32, l 0 = (s.plane pid).lfsr ∧ (t.plane pid).lfsr = l 1024 ∧ ∀ e < 1024, l (e + 1) =
          (roundTo ((value 0 r.ftz (look 0 c.acc e).toNat).mul (value 0 r.ftz c.cfg.oscl.toNat)) c.cfg.otag c.cfg.rm c.cfg.sat
            r.ftz (l e)).2)
      ∧ (let d := (t.plane pid).mat h
        d.acc = [] ∧ d.partialBlk = [] ∧ d.kpos = 0 ∧ d.nblk = 0 ∧ d.open_ = false ∧ d.release = none
        ∧ d.cfg = c.cfg ∧ d.sca = c.sca ∧ d.scb = c.scb ∧ d.b0 = c.b0 ∧ d.b1 = c.b1
        ∧ d.drain = some { mark := r.mark, tid := r.tid, colour := r.colour, coord := r.coord, upTo := r.upTo,
                           cfg := c.cfg, acc := c.acc, ftz := r.ftz, lfsr := (s.plane pid).lfsr }))
  ∧ (∀ (pid hand : Nat) (s : State) (d : Drain) (r : Ring),
    let h := hand == 1
    let key := d.cfg.out.key
    let n := 2 * widthOf d.cfg.otag
    ((s.plane pid).mat h).drain = some d → s.ringOf d.cfg.out = some r → r.key = key → (s.die (pid / 1024)).fenced = false →
    (r.granted = [] → r.passedPlace (.drain pid h) s.clk = false → r.queue = [] → n ≤ r.free →
      completes (.accDrain pid hand) s fun t =>
        t = { s with rings := t.rings, sideband := t.sideband } ∧ (∀ k, k ≠ key → t.ring k = s.ring k)
        ∧ ∃ r', t.ring key = some r' ∧ r'.tail = r.tail + n
          ∧ r'.granted = [(.drain pid h, (List.range n).map fun i => r.tail + i)])
    ∧ (∀ ns, r.granted = [(.drain pid h, ns)] → ns.length = n → (ns.map r.gran).Nodup →
      (∀ o ∈ (s.plane pid).memq, o.isWrite = true → o.colour = d.colour → d.upTo ≤ o.id) →
      (s.plane pid).commits = [] → (s.plane pid).stash = [] → s.exits = [] → (s.plane pid).kills = [] →
      (s.plane pid).eotLeft = false → r.live ≠ 0 →
      completes (.accDrain pid hand) s fun t =>
        (∀ a, t.byte a = s.byte a) ∧ (∀ k, k ≠ key → t.ring k = s.ring k)
        ∧ ((t.plane pid).mat h).drain = none
        ∧ (∃ r', t.ring key = some r' ∧ r'.granted = [] ∧ r'.tail = r.tail
          ∧ ∀ m, find r'.slots m = (find r.slots m).map fun x => if m ∈ ns then { x with filled := true, filledAt := s.clk } else x)
        ∧ (∀ i (hi : i < ns.length), t.side r ns[i] = mkSide (if i + 1 = n then d.mark else 0) d.cfg.otag 0 d.colour)
        ∧ ∃ l : Nat → BitVec 32, l 0 = d.lfsr
          ∧ ∀ i (hi : i < ns.length), ∀ e < 512 / widthOf d.cfg.otag,
            let w := widthOf d.cfg.otag
            let j := i * (512 / w) + e
            ((t.gran r ns[i]).toNat / 2 ^ (e * w) % 2 ^ w, l (j + 1)) =
              (let v := roundTo ((value 0 d.ftz (look 0 d.acc j).toNat).mul (value 0 d.ftz d.cfg.oscl.toNat)) d.cfg.otag
                d.cfg.rm d.cfg.sat d.ftz (l j)
              (v.1 % 2 ^ w, v.2))))
  ∧ (∀ (o : OpM) (s : State), s.rP o.g.toNat ^^^ o.gn = 1 →
    let h := s.pl.firing.colour == 15
    let done := (∀ m ∈ s.pl.mq, m.hand ≠ h) ∧ (s.pl.mat h).release = none ∧ (s.pl.mat h).drain = none
    (done → completes (.mwait o) s fun t => ranOn s t (s.pc + 1) [] [] [] [] false)
    ∧ (¬done → exec (.mwait o) s = .next (s.hold .mwait 0)))
  ∧ (∀ (pid : Nat) (s : State),
    let p := s.plane pid
    let h := p.firing.colour == 15
    p.running = true → p.firing.wait = .mwait → (∀ m ∈ p.mq, m.hand ≠ h) → (p.mat h).release = none →
    (p.mat h).drain = none → (s.die (pid / 1024)).fenced = false →
    completes (.mwaitComplete pid) s fun t =>
      t = { s with planes := t.planes } ∧ (∀ q, q ≠ pid → t.plane q = s.plane q)
      ∧ t.plane pid = { p with firing := { p.firing with lastPc := p.firing.pc, pc := p.firing.pc + 1, wait := .none } })

/-! ## Memory instructions -/

/-- R198, R200, R202: a bank access outside the data area, beyond 65,536 or not aligned raises ALIGN with the whole EA;
one in the data area reads or writes 2^SZ bytes of the cell's bank. -/
def Obligations.BankAccesses : Prop :=
  ∀ (o : OpN) (s : State), s.rP o.g.toNat ^^^ o.gn = 1 →
    let ea := s.rS o.a.toNat + o.off.signExtend 64
    let a := ea.toNat
    let n := 2 ^ o.sz.toNat
    ((65536 ≤ a ∨ a % n ≠ 0 ∨ ¬inDataArea s a n) →
      ∀ i ∈ [Instr.ldBk o, .stBk o, .vldBk o, .vstBk o], exec i s = .next (s.trapAt s.cur 3 (w64 s.pc) ea 0))
    ∧ (a < 65536 → a % n = 0 → inDataArea s a n →
      completes (.ldBk o) s (fun t =>
        t.rS o.d.toNat = (if o.d = 0 then 0 else BitVec.ofNat 64 (leNat ((List.range n).map fun i => s.bankByte s.cur (a + i))))
        ∧ ranOn s t (s.pc + 1) [o.d.toNat] [] [] [] false)
      ∧ completes (.vldBk o) s (fun t =>
        t.rV (o.d.toNat / 2) = BitVec.ofNat 1024 (leNat ((List.range n).map fun i => s.bankByte s.cur (a + i)))
        ∧ ranOn s t (s.pc + 1) [] [] [o.d.toNat / 2] [] false)
      ∧ ((∀ m ∈ s.pl.mq, m.useH = true ∨ m.kind ∉ [MatKind.mma, .mldb, .mldbt, .msca]) →
        let stored := fun (bytes : Nat → Byte) (t : State) =>
          ranOn s { t with bank := s.bank } (s.pc + 1) [] [] [] [] false
          ∧ (∀ b, b < 65536 → t.bankByte s.cur b = if a ≤ b ∧ b < a + n then bytes (b - a) else s.bankByte s.cur b)
          ∧ ∀ k, k / 1024 ≠ s.cur / 4 → look 0 t.bank k = look 0 s.bank k
        completes (.stBk o) s (stored fun i => (s.rS o.d.toNat).extractLsb' (8 * i) 8)
        ∧ completes (.vstBk o) s (stored fun i => (s.rV (o.d.toNat / 2)).extractLsb' (8 * i) 8)))

/-- R198, R202, R203, R211: a global access that is not aligned, or whose EA has a bit above 51 set, raises ALIGN with
the EA; one that travels to its home joins the plane's outstanding accesses, one for each line, with the bytes of a
store and the operands of an atomic taken at issue. R291: one whose home lies on another die is carried there by a message of
class 7 for each line. R203, R206: one of cell scope is served by the plane's stash, which a miss fills from the home slice on the
cell's die: a load reads the line, a store writes it and marks its bytes dirty, and neither changes a byte of memory. -/
def Obligations.GlobalAccessesIssue : Prop :=
  (∀ (o : OpN) (s : State), s.rP o.g.toNat ^^^ o.gn = 1 →
    let ea := s.rS o.a.toNat + o.off.signExtend 64
    let n := 2 ^ o.sz.toNat
    ((ea.toNat % n ≠ 0 ∨ 2 ^ 52 ≤ ea.toNat) →
      ∀ i ∈ [Instr.ld o, .st o, .vld o, .vst o], exec i s = .next (s.trapAt s.cur 3 (w64 s.pc) ea 0))
    ∧ (∀ e : Tlb, ea.toNat % n = 0 → ea.toNat < 2 ^ 52 → n ≤ 128 → s.pl.acquired s.pl.firing.fid = true →
      s.pl.memq.length < 64 → s.pl.stash = [] → (o.sc ≠ 0 ∨ s.pl.stashSize = 0) →
      s.tlbFind (translatingSlice s.cur) (s.asid s.pl.job) ea.toNat false = some e →
      let ph := physOf e.pte e.level ea.toNat
      s.farRoom s.cur ph.die (if n = 128 then 512 else 256) = true →
      let same := fun (m : MemOp) => m.ord = o.ord.toNat ∧ m.sc = o.sc.toNat
      accesses (.ld o) s ph ea.toNat n (fun _ m => m.kind = .load ∧ m.dst = .sreg o.d.toNat ∧ same m)
        (fun t => t.pl.regs = s.pl.regs)
      ∧ accesses (.vld o) s ph ea.toNat n
        (fun j m => m.kind = .load ∧ m.dst = .vreg (o.d.toNat / 2) (64 * j) ∧ same m)
        (fun t => t.rV (o.d.toNat / 2) = 0 ∧ t.pl.regs = { s.pl.regs with v := t.pl.regs.v }))
    ∧ (∀ e : Tlb, ea.toNat % n = 0 → ea.toNat < 2 ^ 52 → n ≤ 128 → s.pl.acquired s.pl.firing.fid = true →
      s.pl.memq.length < 64 → s.pl.stash = [] → (o.sc ≠ 0 ∨ s.pl.stashSize = 0) →
      s.tlbFind (translatingSlice s.cur) (s.asid s.pl.job) ea.toNat true = some e →
      let ph := physOf e.pte e.level ea.toNat
      s.farRoom s.cur ph.die (if n = 128 then 512 else 256) = true →
      let put_ := fun (bytes : Nat → Byte) (j : Nat) (m : MemOp) => m.kind = .store ∧ m.ord = o.ord.toNat
        ∧ m.sc = o.sc.toNat ∧ m.data = (List.range (min n 64)).map fun i => bytes (64 * j + i)
      accesses (.st o) s ph ea.toNat n (put_ fun i => BitVec.ofNat 8 ((s.rS o.d.toNat).toNat / 2 ^ (8 * i)))
        (fun t => t.pl.regs = s.pl.regs)
      ∧ accesses (.vst o) s ph ea.toNat n (put_ fun i => BitVec.ofNat 8 ((s.rV (o.d.toNat / 2)).toNat / 2 ^ (8 * i)))
        (fun t => t.pl.regs = s.pl.regs)))
  ∧ (∀ (o : OpX) (s : State), s.rP o.g.toNat ^^^ o.gn = 1 →
    let ea := s.rS o.a.toNat
    let n := 2 ^ o.sz.toNat
    let all : List (Instr × Nat) := [(.aadd o, 1), (.aadds o, 2), (.amin o, 3), (.amax o, 4), (.aminu o, 5), (.amaxu o, 6),
      (.aand o, 7), (.aor o, 8), (.axor o, 9), (.aswp o, 10), (.acas o, 11), (.atopk o, 12)]
    ((ea.toNat % n ≠ 0 ∨ 2 ^ 52 ≤ ea.toNat) →
      ∀ i ∈ all, exec i.1 s = .next (s.trapAt s.cur 3 (w64 s.pc) ea 0))
    ∧ (∀ e : Tlb, ea.toNat % n = 0 → ea.toNat < 2 ^ 52 → n ≤ 64 → s.pl.acquired s.pl.firing.fid = true →
      s.pl.memq.length < 64 → s.pl.stash = [] →
      s.tlbFind (translatingSlice s.cur) (s.asid s.pl.job) ea.toNat true = some e →
      let ph := physOf e.pte e.level ea.toNat
      s.farRoom s.cur ph.die 256 = true →
      ∀ i ∈ all, accesses i.1 s ph ea.toNat n
        (fun _ m => m.kind = .atomic i.2 ∧ m.b = s.rS o.b.toNat ∧ m.c = s.rS o.c.toNat ∧ m.ord = o.ord.toNat
          ∧ m.sc = o.sc.toNat ∧ m.dst = (if o.d = 0 then .none else .sreg o.d.toNat))
        (fun t => t.pl.regs = s.pl.regs)))
  ∧ (∀ (o : OpN) (s : State) (l : StashLine), s.rP o.g.toNat ^^^ o.gn = 1 →
    let ea := s.rS o.a.toNat + o.off.signExtend 64
    let n := 2 ^ o.sz.toNat
    let off := ea.toNat % 64
    ea.toNat % n = 0 → ea.toNat < 2 ^ 52 → n ≤ 64 → o.sc = 0 → s.pl.stashSize ≠ 0 → s.pl.acquired s.pl.firing.fid = true →
    s.pl.memq.length < 64 → s.lineBusy ea.toNat n = false → l.bad = 0 →
    -- the line is in the stash, or is filled into the empty stash
    (s.pl.stashFind s.pl.job ea.toNat = some l
      ∨ s.pl.stash = [] ∧ ∃ e, s.tlbFind (translatingSlice s.cur) (s.asid s.pl.job) ea.toNat false = some e
        ∧ s.tlbFind (translatingSlice s.cur) (s.asid s.pl.job) ea.toNat true = some e
        ∧ (let ph := physOf e.pte e.level ea.toNat
          ph.die = dieOf s.cur ∧ (s.slice (ph.die * 64 + ph.slice)).dir = [] ∧ ph.key / 64 ∉ s.poison
          ∧ s.served (ph.die * 64 + ph.slice) s.pl.job = true
          ∧ l = { vline := ea.toNat / 64, job := s.pl.job, key := ph.key / 64 * 64
                  data := BitVec.ofNat 512 (leNat ((List.range 64).map fun i => s.byte (ph.key / 64 * 64 + i))) })) →
    let byteOf := fun (x : StashLine) (i : Nat) => x.data.extractLsb' (8 * i) 8
    let v := leNat ((List.range n).map fun i => byteOf l (off + i))
    let here := fun (t : State) => t.pc = s.pc + 1 ∧ (∀ a, t.byte a = s.byte a) ∧ t.pl.memq = s.pl.memq ∧ t.msgs = s.msgs
      ∧ (∀ q, q ≠ s.cur → t.plane q = s.plane q)
    completes (.ld o) s (fun t => here t ∧ t.pl.stashFind s.pl.job ea.toNat = some l
      ∧ t.rS o.d.toNat = (if o.d = 0 then 0 else BitVec.ofNat 64 v) ∧ ∀ m, m ≠ o.d.toNat → t.rS m = s.rS m)
    ∧ completes (.vld o) s (fun t => here t ∧ t.pl.stashFind s.pl.job ea.toNat = some l
      ∧ t.rV (o.d.toNat / 2) = BitVec.ofNat 1024 v ∧ ∀ m, m ≠ o.d.toNat / 2 → t.rV m = s.rV m)
    ∧ (s.shadowed = false → (o.ord = 2 → s.released = true) →
      let stored := fun (bytes : Nat → Byte) (t : State) => here t ∧ t.pl.regs = s.pl.regs
        ∧ ∃ x, t.pl.stashFind s.pl.job ea.toNat = some x
          ∧ ∀ i < 64, byteOf x i = (if off ≤ i ∧ i < off + n then bytes (i - off) else byteOf l i)
            ∧ x.dirty.getLsbD i = (decide (off ≤ i ∧ i < off + n) || l.dirty.getLsbD i)
      completes (.st o) s (stored fun i => BitVec.ofNat 8 ((s.rS o.d.toNat).toNat / 2 ^ (8 * i)))
      ∧ completes (.vst o) s (stored fun i => BitVec.ofNat 8 ((s.rV (o.d.toNat / 2)).toNat / 2 ^ (8 * i)))))

/-- R202, R203, R212: outstanding accesses perform at their homes. A load delivers the bytes it reads; a store writes its bytes;
an atomic delivers the old value and writes the new one of the table of R212; no other byte of memory, no other register and no
other plane changes (what a write counts in arrival windows is R219's). R291: where the home lies on another die, the value of a
load or atomic is kept and comes with the answer. R214: ATOPK inserts its pair before the entries that are worse, keeps K of them,
and delivers the old count and the place; a record that is not valid stays as it is, and 0xFE is delivered. -/
def Obligations.OutstandingAccessesPerform : Prop :=
  (∀ (pid idx : Nat) (s : State) (o : MemOp),
     opMayPerform s pid idx o → o.suppressed = false → notParked s pid o.tid o.fid →
     o.key / 64 ∉ s.poison → (s.die (o.home / 64)).fenced = false → (s.die (dieOf pid)).fenced = false →
     noCopies s o.key → (s.plane pid).stash = [] →
     let alone := fun (t : State) => (∀ q, q ≠ pid → t.plane q = s.plane q)
       ∧ t.plane pid = { s.plane pid with memq := (t.plane pid).memq, regs := (t.plane pid).regs }
     let gone := fun (t : State) => alone t
       ∧ (t.plane pid).memq = (s.plane pid).memq.filter fun x => !(x.id == o.id && x.va == o.va)
     let old := leNat ((List.range o.size).map fun i => s.byte (o.key + i))
     let wrote := fun (v : Nat) (t : State) => ∀ a, t.byte a =
       if o.key ≤ a ∧ a < o.key + o.size then BitVec.ofNat 8 (v / 2 ^ (8 * (a - o.key))) else s.byte a
     let got := fun (t : State) (n : Nat) =>
       (t.plane pid).regs.rS n = (if n = 0 then 0 else BitVec.ofNat 64 old)
       ∧ (t.plane pid).regs = { (s.plane pid).regs with s := (t.plane pid).regs.s }
       ∧ ∀ m, m ≠ n → (t.plane pid).regs.rS m = (s.plane pid).regs.rS m
     (o.leavesDie pid = true →
       let kept := fun (t : State) (v : Nat) => alone t ∧ (t.plane pid).regs = (s.plane pid).regs
         ∧ (t.plane pid).memq = (s.plane pid).memq.map fun x => if x.id == o.id && x.va == o.va then { x with got := some v } else x
       (o.kind = .load → completes (.loadResponse pid idx) s fun t => kept t old ∧ ∀ a, t.byte a = s.byte a)
       ∧ (o.kind = .store → o.data.length = o.size → completes (.storePerform pid idx) s fun t =>
         kept t 0 ∧ wrote (leNat o.data) t)
       ∧ (o.kind = .atomic 10 → o.size = 4 ∨ o.size = 8 → completes (.atomicPerform pid idx) s fun t =>
         kept t old ∧ wrote (o.b.toNat % 2 ^ (8 * o.size)) t))
     ∧ (o.leavesDie pid = false →
     (o.kind = .load → ∀ n, o.dst = .sreg n →
       completes (.loadResponse pid idx) s fun t => gone t ∧ (∀ a, t.byte a = s.byte a) ∧ got t n)
     ∧ (o.kind = .load → ∀ n at_, o.dst = .vreg n at_ →
       completes (.loadResponse pid idx) s fun t => gone t ∧ (∀ a, t.byte a = s.byte a)
         ∧ (t.plane pid).regs.rV n = (s.plane pid).regs.rV n ||| BitVec.ofNat 1024 (old * 2 ^ (8 * at_))
         ∧ (t.plane pid).regs = { (s.plane pid).regs with v := (t.plane pid).regs.v }
         ∧ ∀ m, m ≠ n → (t.plane pid).regs.rV m = (s.plane pid).regs.rV m)
     ∧ (o.kind = .store → o.data.length = o.size →
       completes (.storePerform pid idx) s fun t =>
         gone t ∧ wrote (leNat o.data) t ∧ (t.plane pid).regs = (s.plane pid).regs)
     ∧ (∀ fn, o.kind = .atomic fn → 1 ≤ fn → fn ≤ 11 → o.size = 4 ∨ o.size = 8 →
       let w := 8 * o.size
       let b := o.b.toNat % 2 ^ w
       let sx := fun (x : Nat) => (BitVec.ofNat w x).toInt
       let clamp := fun (x : Int) => max (-(2 ^ (w - 1) : Int)) (min x (2 ^ (w - 1) - 1))
       let new : Nat := match fn with
         | 1 => (old + b) % 2 ^ w
         | 2 => (BitVec.ofInt w (clamp (sx old + sx b))).toNat
         | 3 => if sx old ≤ sx b then old else b
         | 4 => if sx b ≤ sx old then old else b
         | 5 => min old b
         | 6 => max old b
         | 7 => old &&& b
         | 8 => old ||| b
         | 9 => old ^^^ b
         | 10 => b
         | _ => if old = o.c.toNat % 2 ^ w then b else old
       completes (.atomicPerform pid idx) s fun t =>
         gone t ∧ wrote new t ∧ (∀ n, o.dst = .sreg n → got t n)
         ∧ (o.dst = .none → (t.plane pid).regs = (s.plane pid).regs))))
  ∧ (∀ (pid idx n : Nat) (s : State) (o : MemOp),
       opMayPerform s pid idx o → o.suppressed = false → notParked s pid o.tid o.fid →
       o.key / 64 ∉ s.poison → (s.die (o.home / 64)).fenced = false → noCopies s o.key → (s.plane pid).stash = [] →
       (s.die (dieOf pid)).fenced = false → o.leavesDie pid = false → o.kind = .atomic 12 → o.size = 64 → o.key % 64 = 0 →
         o.dst = .sreg n → n ≠ 0 →
       let r := fun (i : Nat) => (s.byte (o.key + i)).toNat
       let entry := fun (j : Nat) => (r (32 + 4 * j) + 256 * r (33 + 4 * j), r (34 + 4 * j) + 256 * r (35 + 4 * j))
       let score := if o.b.toNat % 2 ^ 16 = 0x8000 then 0 else o.b.toNat % 2 ^ 16
       let id := o.b.toNat / 2 ^ 16 % 2 ^ 16
       let valid := 1 ≤ r 1 ∧ r 1 ≤ 8 ∧ r 0 ≤ r 1 ∧ ∀ i, 2 ≤ i → i < 32 → r i = 0
       let p := ((List.range (r 0)).filter fun j => topBetter (entry j) (score, id)).length
       let gives := fun (t : State) (pos : Nat) => (t.plane pid).regs.rS n = BitVec.ofNat 64 (r 0 * 256 + pos)
         ∧ (t.plane pid).regs = { (s.plane pid).regs with s := (t.plane pid).regs.s }
         ∧ (∀ m, m ≠ n → (t.plane pid).regs.rS m = (s.plane pid).regs.rS m) ∧ ∀ q, q ≠ pid → t.plane q = s.plane q
       let byteAt := fun (t : State) (i : Nat) => (t.byte (o.key + i)).toNat
       (¬valid → completes (.atomicPerform pid idx) s fun t => (∀ a, t.byte a = s.byte a) ∧ gives t 0xFE)
       ∧ (valid → (value 1 false score).isNan = false →
         (r 1 ≤ p → completes (.atomicPerform pid idx) s fun t => (∀ a, t.byte a = s.byte a) ∧ gives t 0xFF)
         ∧ (p < r 1 → completes (.atomicPerform pid idx) s fun t =>
             gives t p ∧ byteAt t 0 = min (r 0 + 1) (r 1) ∧ (∀ i, 1 ≤ i → i < 32 → byteAt t i = r i)
             ∧ (∀ a, a < o.key ∨ o.key + 64 ≤ a → t.byte a = s.byte a)
             ∧ ∀ j < min (r 0 + 1) (r 1),
               (byteAt t (32 + 4 * j) + 256 * byteAt t (33 + 4 * j), byteAt t (34 + 4 * j) + 256 * byteAt t (35 + 4 * j)) =
                 if j < p then entry j else if j = p then (score, id) else entry (j - 1))))

/-- R208, R209, R226: SWB makes the dirty bytes of a line of the stash the bytes of memory and leaves the line clean; SINV
drops the line too; both wait while a home of a dirty line does not serve the job (R272); FENCE waits for the earlier accesses it
orders, those of a queued MSAVE or MLOAD included (R169). That an
acquiring FENCE waits for the firing's earlier reads is log 22's reading, and that a queued MSAVE or MLOAD counts as issued is log
21's. -/
def Obligations.StashAndFences : Prop :=
  (∀ (o : OpN) (s : State), s.rP o.g.toNat ^^^ o.gn = 1 → s.pl.acquired s.pl.firing.fid = true →
    let ea := s.rS o.a.toNat + o.off.signExtend 64
    ((ea.toNat % 64 ≠ 0 ∨ 2 ^ 52 ≤ ea.toNat) →
      ∀ i ∈ [Instr.swbLine o, .sinvLine o], exec i s = .next (s.trapAt s.cur 3 (w64 s.pc) ea 0))
    ∧ (ea.toNat % 64 = 0 → ea.toNat < 2 ^ 52 → s.pl.stashFind s.pl.job ea.toNat = none →
      ∀ i ∈ [Instr.swbLine o, .sinvLine o], completes i s fun t => ranOn s t (s.pc + 1) [] [] [] [] false)
    ∧ (∀ l, ea.toNat % 64 = 0 → ea.toNat < 2 ^ 52 → s.pl.stashFind s.pl.job ea.toNat = some l →
      let now := ∀ x ∈ s.pl.stash, x.vline = l.vline → x.job = l.job →
        x.dirty = 0 ∨ s.served (dieOf s.cur * 64 + homeSlice (x.key % 2 ^ 64)) x.job = true
      (¬now → ∀ i ∈ [Instr.swbLine o, .sinvLine o], exec i s = .next (s.hold .retry 0))
      ∧ (now → (∀ e ∈ s.planes, e.1 ≠ s.cur → ∀ x ∈ e.2.stash, x.key ≠ l.key / 64 * 64) →
      let wrote := fun (t : State) => t.pc = s.pc + 1 ∧ t.pl.regs = s.pl.regs ∧ ∀ a, t.byte a =
        if l.key ≤ a ∧ a < l.key + 64 ∧ l.dirty.getLsbD (a - l.key) = true then l.data.extractLsb' (8 * (a - l.key)) 8
        else s.byte a
      completes (.swbLine o) s (fun t => wrote t
        ∧ ∃ l', t.pl.stashFind s.pl.job ea.toNat = some l' ∧ l'.dirty = 0 ∧ l'.data = l.data)
      ∧ completes (.sinvLine o) s (fun t => wrote t ∧ t.pl.stashFind s.pl.job ea.toNat = none)))
    ∧ (s.backServed s.cur (fun _ => true) = false →
      ∀ i ∈ [Instr.swbAll o, .sinvAll o], exec i s = .next (s.hold .retry 0))
    ∧ (s.backServed s.cur (fun _ => true) = true →
      completes (.sinvAll o) s fun t => t.pl.stash = [] ∧ t.pc = s.pc + 1 ∧ t.pl.regs = s.pl.regs)
    ∧ (s.backServed s.cur (fun _ => true) = true → (s.pl.stash.map fun l => (l.vline, l.job)).Nodup →
      completes (.swbAll o) s fun t => (∀ l ∈ t.pl.stash, l.dirty = 0) ∧ t.pc = s.pc + 1 ∧ t.pl.regs = s.pl.regs))
  ∧ (∀ (o : OpN) (s : State), s.rP o.g.toNat ^^^ o.gn = 1 →
    let mine := s.pl.memq.filter fun m => m.fid == s.pl.firing.fid
    let queued := s.pl.mq.filter fun m => m.fid == s.pl.firing.fid
    let acq := o.ord = 1 ∨ o.ord = 3
    let rel := o.ord = 2 ∨ o.ord = 3
    (∀ m ∈ mine, m.id < s.serial) → (∀ m ∈ queued, m.id < s.serial) →
    let clear := (acq → (∀ m ∈ mine, m.kind = .store) ∧ ∀ m ∈ queued, m.kind ≠ .mload)
      ∧ (rel → (∀ m ∈ mine, m.kind = .load) ∧ ∀ m ∈ queued, m.kind ≠ .msave)
    (clear → (rel → o.sc.toNat < 3 ∨ s.pl.stash = []) →
      completes (.fence o) s fun t => ranOn s t (s.pc + 1) [] [] [] [] false)
    ∧ (¬clear → exec (.fence o) s = .next (s.hold .retry 0)))

/-- R210: SPIN pins a line that no job has pinned while the set and the job's quota allow it; SUNPIN unpins a line of the
job; each writes its status, and no other register, plane or pin changes. The order of the statuses where several hold (1 or 4,
then 2, then 3) is the model's choice (log 19). -/
def Obligations.Pinning : Prop :=
  ∀ (o : OpN) (s : State) (e : Tlb), s.rP o.g.toNat ^^^ o.gn = 1 → s.pl.acquired s.pl.firing.fid = true → o.d ≠ 0 →
    let ea := s.rS o.a.toNat + o.off.signExtend 64
    ea.toNat % 64 = 0 → ea.toNat < 2 ^ 52 →
    s.tlbFind (translatingSlice s.cur) (s.asid s.pl.job) ea.toNat false = some e →
    let ph := physOf e.pte e.level ea.toNat
    let home := ph.die * 64 + ph.slice
    let line := ph.key / 64
    let pins := (s.slice home).pins
    let quota := ((s.job s.pl.job).map Job.quota).getD 0
    let gives := fun (i : Instr) (st : Nat) (pins' : List (Nat × Nat)) => completes i s fun t =>
      t.rS o.d.toNat = BitVec.ofNat 64 st ∧ (t.slice home).pins = pins'
      ∧ ranOn s { t with slices := s.slices } (s.pc + 1) [o.d.toNat] [] [] [] false
      ∧ ∀ x, x ≠ home → (t.slice x).pins = (s.slice x).pins
    let owner := pins.find? fun p => p.1 == line
    (∀ p, owner = some p → p.2 = s.pl.job →
      gives (.spin o) 1 pins ∧ gives (.sunpin o) 0 (pins.filter fun q => !(q == p)))
    ∧ (∀ p, owner = some p → p.2 ≠ s.pl.job → gives (.spin o) 4 pins ∧ gives (.sunpin o) 4 pins)
    ∧ (owner = none →
      gives (.sunpin o) 1 pins
      ∧ (s.pinLimit home line ≤ s.setPins home line → gives (.spin o) 2 pins)
      ∧ (s.setPins home line < s.pinLimit home line → quota ≤ s.jobPins s.pl.job → gives (.spin o) 3 pins)
      ∧ (s.setPins home line < s.pinLimit home line → s.jobPins s.pl.job < quota →
        gives (.spin o) 0 (pins ++ [(line, s.pl.job)])))

/-- R217 to R220: AWARM arms an assigned window from a good record; AWDIS disarms it and gives its count; AWRD gives its
state word; a count that arrives at an armed window adds, and at TOTAL triggers it, one that arrives after the trigger counts
only in the same clk, and counts on their way at AWDIS are dropped (R219); a write of the clk of AWDIS counts first, so it is part of
the count that AWDIS returns (R221); a record that is not aligned raises ALIGN; each of the four actions takes effect. -/
def Obligations.ArrivalWindows : Prop :=
  (∀ (o : OpK) (s : State), s.rP o.g.toNat ^^^ o.gn = 1 → s.pl.acquired s.pl.firing.fid = true → o.d ≠ 0 →
    let w := (o.imm.toNat % 8 * 64 + o.kreg.toNat / 64) * 64 + o.kreg.toNat % 64
    let x := s.win w
    let only := fun (t : State) => ranOn s { t with slices := s.slices } (s.pc + 1) [o.d.toNat] [] [] [] false
    (s.ownsWindow s.pl.job w = false →
      ∀ i ∈ [Instr.awdis o, .awrd o], completes i s fun t =>
        t.rS o.d.toNat = BitVec.allOnes 64 ∧ ranOn s t (s.pc + 1) [o.d.toNat] [] [] [] false)
    ∧ (s.ownsWindow s.pl.job w = true →
      completes (.awdis o) s (fun t =>
        t.rS o.d.toNat = BitVec.ofNat 64 x.count
        ∧ t.win w = (if x.state = .disarmed then x else { x with
            state := .disarmed
            dis := some { at_ := s.clk, pid := s.cur, tid := s.pl.firing.tid, fid := s.pl.firing.fid, reg := o.d.toNat,
                          armed := x.state == .armed } })
        ∧ only { t with dies := s.dies }
        ∧ ∀ d, t.die d = { s.die d with counts := (s.die d).counts.filter fun h => !(h.1 == w && w / 4096 == d) })
      ∧ completes (.awrd o) s (fun t =>
        (t.rS o.d.toNat).toNat = (if x.state = .armed then 2 ^ 63 else 0) + (if x.state = .triggered then 2 ^ 62 else 0)
          + (if x.rearm then 2 ^ 61 else 0) + x.action % 4 * 2 ^ 59 + x.count % 2 ^ 40
        ∧ ranOn s t (s.pc + 1) [o.d.toNat] [] [] [] false))
    ∧ ((s.rS o.a.toNat).toNat % 64 ≠ 0 ∨ 2 ^ 52 ≤ (s.rS o.a.toNat).toNat →
      exec (.awarm o) s = .next (s.trapAt s.cur 3 (w64 s.pc) (s.rS o.a.toNat) 0))
    ∧ (∀ (e : Tlb) (key : Nat), (s.rS o.a.toNat).toNat % 64 = 0 → (s.rS o.a.toNat).toNat < 2 ^ 52 →
      s.lineBusy (s.rS o.a.toNat).toNat 64 = false → s.pl.stash = [] → s.shadowed = false →
      s.tlbFind (translatingSlice s.cur) (s.asid s.pl.job) (s.rS o.a.toNat).toNat false = some e →
      (physOf e.pte e.level (s.rS o.a.toNat).toNat).key = key → key / 64 ∉ s.poison →
      (s.die (physOf e.pte e.level (s.rS o.a.toNat).toNat).die).fenced = false →
      s.served ((physOf e.pte e.level (s.rS o.a.toNat).toNat).die * 64 + homeSlice (key % 2 ^ 64)) s.pl.job = true →
      let num := fun (a n : Nat) => leNat ((List.range n).map fun i => s.byte (key + a + i))
      let r := (List.range 64).map fun i => s.byte (key + i)
      let st := if s.ownsWindow s.pl.job w = false then 4 else if x.state = .armed then 1
        else if recordOk r = false then 2 else if s.homedOn s.pl.job (num 0 8) (64 * num 8 4) (w / 4096) = false then 3 else 0
      completes (.awarm o) s fun t =>
        t.rS o.d.toNat = BitVec.ofNat 64 st ∧ only t
        ∧ t.win w = if st = 0 then
            { state := .armed, base := num 0 8, len := num 8 4, total := num 16 5, rearm := num 21 1 / 128 == 1,
              action := num 21 1 % 4, arg0 := BitVec.ofNat 64 (num 24 8), arg1 := BitVec.ofNat 64 (num 32 8), count := 0,
              job := s.pl.job, recAddr := (s.rS o.a.toNat).toNat }
          else x))
  ∧ (∀ (die idx w n : Nat) (s : State),
    let x := s.win w
    (s.die die).counts[idx]? = some (w, n) → (s.die die).fenced = false →
    (x.state = .triggered → completes (.windowCount die idx) s fun t => t.win w =
      if x.trigAt = s.clk then { x with count := x.count + n } else x)
    ∧ (x.state = .disarmed → (∀ d, x.dis = some d → d.at_ ≠ s.clk) →
      completes (.windowCount die idx) s fun t => t.win w = x)
    ∧ (∀ d, x.state = .disarmed → x.dis = some d → d.at_ = s.clk → notParked s d.pid d.tid d.fid → 0 < x.total →
      let fires := d.armed = true ∧ x.total ≤ x.count + n
      let count := if fires ∧ x.rearm = true then (x.count + n) % x.total else x.count + n
      completes (.windowCount die idx) s fun t =>
        (t.win w).state = .disarmed ∧ (t.win w).count = count
        ∧ (t.plane d.pid).regs.rS d.reg = (if d.reg = 0 then 0 else BitVec.ofNat 64 count)
        ∧ (¬fires → (t.die (w / 4096)).actions = (s.die (w / 4096)).actions)
        ∧ (fires → ∃ more, more ≠ [] ∧ (t.die (w / 4096)).actions = (s.die (w / 4096)).actions ++ more))
    ∧ (x.state = .armed → x.count + n < x.total →
      completes (.windowCount die idx) s fun t => t.win w = { x with count := x.count + n })
    ∧ (x.state = .armed → x.total ≤ x.count + n → x.rearm = false →
      completes (.windowCount die idx) s fun t =>
        t.win w = { x with count := x.count + n, state := .triggered, trigAt := s.clk }
        ∧ ∃ before, (t.die (w / 4096)).actions = before ++
            [{ win := w, action := x.action, arg0 := x.arg0, arg1 := x.arg1, job := x.job, recAddr := x.recAddr }])
    ∧ (x.state = .armed → 0 < x.total → x.total ≤ x.count + n → x.rearm = true →
      completes (.windowCount die idx) s fun t => t.win w = { x with count := (x.count + n) % x.total }))
  ∧ (∀ (die idx : Nat) (s : State) (a : WinAct), (s.die die).actions[idx]? = some a → (s.die die).fenced = false →
    let d := a.arg0.toNat
    (a.action = 0 → ∀ r : Region, s.region (regionKey a.job (d / 2 ^ 12 % 8) (d % 256)) = some r → r.place = .eligible →
      let key := regionKey a.job (d / 2 ^ 12 % 8) (d % 256)
      let colour := d / 256 % 16
      (∀ l, (s.die (d / 2 ^ 12 % 8)).barriers = l → l.length < 256 → (∀ b ∈ l, ¬(b.region = key ∧ b.colour = colour)) →
        completes (.windowAction die idx) s fun t =>
          (t.die (d / 2 ^ 12 % 8)).barriers = l ++ [{ region := key, colour, releases := 1 }])
      ∧ (∀ b, (s.die (d / 2 ^ 12 % 8)).barriers = [b] → b.region = key → b.colour = colour →
        completes (.windowAction die idx) s fun t =>
          (t.die (d / 2 ^ 12 % 8)).barriers = [{ b with releases := b.releases + 1 }]))
    ∧ (a.action = 1 → ∀ (tmpl slot : Phys) (serve : Nat) (q : QueueReg),
      s.placeOf a.job a.arg1.toNat false = some tmpl → s.queueOf a.job d = some (serve, q) →
      tmpl.key / 64 ∉ s.poison → (s.die tmpl.die).fenced = false → tmpl.slice < 64 →
      let w : BitVec 512 := BitVec.ofNat 512 (s.num tmpl.key 64)
      let head := s.num q.key 8
      let tail := s.num (q.key + 8) 8
      let size := 2 ^ (s.num (q.key + 16) 1 % 32)
      slateBad w = false → (tail + 2 ^ 64 - head) % 2 ^ 64 ≠ size →
      s.placeOf a.job (q.va + 64 + 64 * (tail % size)) true = some slot → (∀ p ∈ s.planes, p.2.stash = []) →
      completes (.windowAction die idx) s fun t => ∀ b, t.byte b =
        if q.key + 8 ≤ b ∧ b < q.key + 16 then BitVec.ofNat 8 ((tail + 1) / 2 ^ (8 * (b - (q.key + 8))))
        else if slot.key ≤ b ∧ b < slot.key + 64 then w.extractLsb' (8 * (b - slot.key)) 8 else s.byte b)
    ∧ (a.action = 2 → completes (.windowAction die idx) s fun t =>
      (look 0 (t.die (d / 2 ^ 12 % 8)).deps (d % 2 ^ 12)).toNat =
        (look 0 (s.die (d / 2 ^ 12 % 8)).deps (d % 2 ^ 12)).toNat - 1)
    ∧ (a.action = 3 → completes (.windowAction die idx) s fun t =>
      (look 0 (t.die (d / 2 ^ 8 % 8)).timelines (d % 2 ^ 8)).toNat =
        min ((look 0 (s.die (d / 2 ^ 8 % 8)).timelines (d % 2 ^ 8)).toNat + a.arg1.toNat) (2 ^ 64 - 1)))

/-- R204, R337 to R339: the walker takes the first page that waits; a walk that ends at a leaf fills the cache of the slice
that asked; one that ends at an invalid entry leaves a pending fault of kind 1 and the waiting firing parks with XLATE. -/
def Obligations.PageWalks : Prop :=
  (∀ (die : Nat) (s : State) (pre : List Miss) (m : Miss) (post : List Miss),
    (s.die die).misses = pre ++ m :: post → (∀ x ∈ pre, x.walking = true ∨ x.faulted = true) →
    m.walking = false → m.faulted = false → m ∉ pre → m ∉ post →
    ((s.die die).misses.filter fun x => x.walking).length < 64 →
    (s.die die).fenced = false →
    completes (.pageWalk die) s fun t =>
      t = { s with dies := t.dies } ∧ (∀ d, d ≠ die → t.die d = s.die d)
      ∧ t.die die = { s.die die with misses := pre ++ { m with walking := true } :: post })
  ∧ (∀ (die idx level : Nat) (s : State) (m : Miss) (w : Waiter) (pte : Word),
    (s.die die).misses[idx]? = some m → m.walking = true → m.who = [w] → (needsWrite w.access = false ∨ pte.getLsbD 2 = true) →
    s.walk m.job (m.page * 65536) false = .leaf pte level → (s.slice w.slice).tlb = [] →
    (s.die die).fenced = false →
    completes (.pageWalkDone die idx) s fun t =>
      (t.slice w.slice).tlb = [{ job := s.asid m.job, level, vpage := m.page * 65536 / 2 ^ pageBits level, pte }]
      ∧ (t.die die).misses = (s.die die).misses.eraseIdx idx
      ∧ ∀ a, t.byte a = s.byte a)
  ∧ (∀ (die idx kind level pid fid va slice : Nat) (s : State) (m : Miss) (k : Take),
    (s.die die).misses[idx]? = some m → m.walking = true →
    m.who = [{ who := .firing pid fid, slice, access := 0, va }] →
    s.walk m.job (m.page * 65536) false = .fault kind level → (∀ x ∈ (s.die die).misses, x.faulted = false) →
    (s.plane pid).running = true → (s.plane pid).firing.fid = fid → s.take (s.plane pid).firing.tid = some k →
    k.tid = (s.plane pid).firing.tid → (s.die die).fenced = false →
    completes (.pageWalkDone die idx) s fun t =>
      (∃ f ∈ (t.die die).misses, f.faulted = true ∧ f.kind = kind ∧ f.level = level ∧ f.page = m.page ∧ f.job = m.job)
      ∧ (t.plane pid).running = false
      ∧ ∃ k', t.take k.tid = some k' ∧ k'.isParked = true
        ∧ ∃ x l r, k.traps = l ++ r ∧ k'.traps = l ++ x :: r ∧ x.cause = 2 ∧ x.info = BitVec.ofNat 64 va
          ∧ x.pc = BitVec.ofNat 64 (s.plane pid).firing.pc)

/-! ## Queues, counters, barriers -/

/-- R260: QPUSH puts 64 bytes in the next slot and grows TAIL, or writes 2^63 with the status of the first case that
applies and changes no memory. -/
def Obligations.QueuePushes : Prop :=
  ∀ (o : OpX) (s : State) (e : Tlb),
    let va := (s.rS o.a.toNat).toNat
    let slice := translatingSlice s.cur
    let ph := physOf e.pte e.level va
    let w := (s.rV (o.b.toNat % 16)).extractLsb' 0 512
    s.rP o.g.toNat ^^^ o.gn = 1 → s.pl.acquired s.pl.firing.fid = true → o.d ≠ 0 →
    (va % 64 ≠ 0 ∨ 2 ^ 52 ≤ va → exec (.qpush o) s = .next (s.trapAt s.cur 3 (w64 s.pc) (s.rS o.a.toNat) 0))
    ∧ (va % 64 = 0 → va < 2 ^ 52 → s.lineBusy va 64 = false → (o.ord = 2 → s.released = true) → s.shadowed = false →
      (∀ p ∈ s.planes, p.2.stash = []) →
      s.pl.stash = [] → (s.slice slice).tlb = [e] → e.covers (s.asid s.pl.job) va = true → e.pte.getLsbD 2 = true →
      ph.key / 64 ∉ s.poison → (s.die ph.die).fenced = false → ph.slice < 64 →
      let gives := fun (v : Word) (P : State → Prop) => completes (.qpush o) s fun t =>
        t.pc = s.pc + 1 ∧ t.rS o.d.toNat = v ∧ (∀ n, n ≠ o.d.toNat → t.rS n = s.rS n) ∧ P t
      let same := fun (t : State) => ∀ a, t.byte a = s.byte a
      (s.queueOf s.pl.job va = none → gives (BitVec.ofNat 64 (2 ^ 63 + 2)) same)
      ∧ (∀ die q, s.queueOf s.pl.job va = some (die, q) →
        let head := s.num q.key 8
        let tail := s.num (q.key + 8) 8
        let size := 2 ^ (s.num (q.key + 16) 1 % 32)
        let full := (tail + 2 ^ 64 - head) % 2 ^ 64 = size
        let slot := q.va + 64 + 64 * (tail % size)
        (slateBad w = true → gives (BitVec.ofNat 64 (2 ^ 63 + 3)) same)
        ∧ (slateBad w = false → full → gives (BitVec.ofNat 64 (2 ^ 63 + 1)) same)
        ∧ (slateBad w = false → ¬full → e.covers (s.asid s.pl.job) slot = true →
          let ps := physOf e.pte e.level slot
          let k := ps.key
          s.served (ps.die * 64 + ps.slice) q.job = true → s.served q.home q.job = true →
          gives (BitVec.ofNat 64 tail) fun t => ∀ a, t.byte a =
            if q.key + 8 ≤ a ∧ a < q.key + 16 then BitVec.ofNat 8 ((tail + 1) / 2 ^ (8 * (a - (q.key + 8))))
            else if k ≤ a ∧ a < k + 64 then w.extractLsb' (8 * (a - k)) 8 else s.byte a)))

/-- R261 to R263: DDEC and DSET change a counter of the job and give the old value; TREAD gives a timeline counter of the
job; TWAIT gives it once it has reached S[A], and waits before that; a counter that is not the job's gives all ones. -/
def Obligations.Counters : Prop :=
  (∀ (o : OpX) (s : State), s.rP o.g.toNat ^^^ o.gn = 1 → s.pl.acquired s.pl.firing.fid = true → s.released = true →
    s.pl.stash = [] → o.d ≠ 0 →
    let die := (s.rS o.a.toNat).toNat / 2 ^ 12 % 8
    let n := (s.rS o.a.toNat).toNat % 2 ^ 12
    let b := (s.rS o.b.toNat).toNat % 2 ^ 32
    let old := (look 0 (s.die die).deps n).toNat
    (s.ownsDep s.pl.job die n = false → ∀ i ∈ [Instr.ddec o, .dset o], completes i s fun t =>
      t.rS o.d.toNat = BitVec.allOnes 64 ∧ ranOn s t (s.pc + 1) [o.d.toNat] [] [] [] false)
    ∧ (s.ownsDep s.pl.job die n = true → s.shadowed = false →
      let did := fun (i : Instr) (new u : Nat) => completes i s fun t =>
        (t.rS o.d.toNat).toNat = u * 2 ^ 32 + old
        ∧ (look 0 (t.die die).deps n).toNat = new
        ∧ (∀ m, m ≠ n → look 0 (t.die die).deps m = look 0 (s.die die).deps m)
        ∧ (∀ d, d ≠ die → t.die d = s.die d)
        ∧ (new = 0 → ∀ h ∈ (t.die die).held, h.slate.dv = true → h.slate.dctr = n → h.released = true)
        ∧ ranOn s { t with dies := s.dies } (s.pc + 1) [o.d.toNat] [] [] [] false
      did (.ddec o) (old - b) (if old < b then 1 else 0) ∧ did (.dset o) b 0))
  ∧ (∀ (o : OpK) (s : State), s.rP o.g.toNat ^^^ o.gn = 1 → o.d ≠ 0 →
    let gives := fun (i : Instr) (v : Word) => completes i s fun t =>
      t.rS o.d.toNat = v ∧ ranOn s t (s.pc + 1) [o.d.toNat] [] [] [] false
    let does := fun (mine : Prop) (v : Word) =>
      (¬mine → gives (.tread o) (BitVec.allOnes 64) ∧ gives (.twait o) (BitVec.allOnes 64))
      ∧ (mine → gives (.tread o) v
        ∧ ((s.rS o.a.toNat).toNat ≤ v.toNat → gives (.twait o) v)
        ∧ (v.toNat < (s.rS o.a.toNat).toNat → completes (.twait o) s fun t =>
          t.pl = { s.pl with firing := { s.pl.firing with wait := .twait, waitArg := 0 } } ∧ t.dies = s.dies))
    (o.kreg.toNat / 2 ^ 10 = 0 →
      does (s.ownsTimeline s.pl.job (o.imm.toNat % 8) (o.kreg.toNat % 256) = true)
        (look 0 (s.die (o.imm.toNat % 8)).timelines (o.kreg.toNat % 256)))
    ∧ (o.kreg.toNat / 2 ^ 10 = 1 → s.shadowed = false →
      let st := s.stream ((o.imm.toNat % 8 * 64 + o.kreg.toNat / 16 % 64) * 32 + o.kreg.toNat % 16)
      does (st.job = s.pl.job ∧ st.job ≠ 0) st.timeline))
  ∧ (∀ (pid : Nat) (s : State) (o : OpK) (v : Nat), (s.plane pid).running = true → (s.plane pid).firing.wait = .twait →
    ({ s with cur := pid } : State).fetchStage = .twait o → ({ s with cur := pid } : State).timelineOf o = some v →
    ((s.plane pid).regs.rS o.a.toNat).toNat ≤ v → (s.die (pid / 1024)).fenced = false →
    completes (.timelineWake pid) s fun t => mayRetry s t pid)

/-- R275 to R277: BAR arrives at the instance of its region and colour and waits; the instance opens at its N-th arrival,
with a pending window release where W is 1, and the firings that arrived go on; YIELD waits n slot boundaries. -/
def Obligations.BarriersAndYields : Prop :=
  (∀ (o : OpK) (s : State), s.rP o.g.toNat ^^^ o.gn = 1 → s.released = true → s.pl.stash = [] →
    let die := s.cur / 1024
    let n := o.imm.toNat % 256 + 1
    let win := (o.imm.toNat / 256 % 2 == 1)
    let waits := fun (t : State) (l : List Barrier) =>
      t.pl.firing = { s.pl.firing with wait := .bar, waitArg := 0 } ∧ t.pl.regs = s.pl.regs
      ∧ (t.die die).barriers = l ∧ ∀ a, t.byte a = s.byte a
    (∀ l, (s.die die).barriers = l → l.length < 256 → (∀ b ∈ l, ¬(b.region = s.pl.owner ∧ b.colour = s.pl.firing.colour)) →
      completes (.bar o) s fun t => waits t (l ++
        [{ region := s.pl.owner, colour := s.pl.firing.colour, n, win, arrived := [(s.cur, s.pl.firing.fid)] }]))
    ∧ (∀ b : Barrier, (s.die die).barriers = [b] → b.region = s.pl.owner → b.colour = s.pl.firing.colour → b.n ≠ 0 →
      (b.arrived.length < b.n →
        completes (.bar o) s fun t => waits t [{ b with arrived := b.arrived ++ [(s.cur, s.pl.firing.fid)] }])
      ∧ (b.n ≤ b.arrived.length →
        completes (.bar o) s fun t => waits t [{ b with next := b.next ++ [(s.cur, s.pl.firing.fid, n, win)] }])))
  ∧ (∀ (die idx pid fid : Nat) (s : State) (b : Barrier), (s.die die).barriers[idx]? = some b →
    b.n ≠ 0 → b.n ≤ b.arrived.length → (b.win = true → b.releases ≠ 0) →
    (pid, fid) ∈ b.arrived → (s.plane pid).running = true → (s.plane pid).firing.fid = fid →
    (s.plane pid).firing.wait = .bar →
    completes (.barrierOpen die idx) s fun t =>
      (t.plane pid).firing.pc = (s.plane pid).firing.pc + 1 ∧ (t.plane pid).firing.wait = .none
      ∧ (t.plane pid).regs = (s.plane pid).regs
      ∧ (b.next = [] → b.releases = 0 → (t.die die).barriers = (s.die die).barriers.eraseIdx idx))
  ∧ (∀ (o : OpK) (s : State), s.rP o.g.toNat ^^^ o.gn = 1 →
    completes (.yield o) s fun t => t = { s with planes := t.planes } ∧ (∀ q, q ≠ s.cur → t.plane q = s.plane q)
      ∧ t.pl = { s.pl with firing := { s.pl.firing with wait := .yield, waitArg := s.clk / 256 + o.imm.toNat % 128 } })
  ∧ (∀ (pid : Nat) (s : State), (s.plane pid).running = true → (s.plane pid).firing.wait = .yield →
    (s.plane pid).firing.waitArg ≤ s.clk / 256 → (s.die (pid / 1024)).fenced = false →
    completes (.yieldExpiry pid) s fun t => wentOn s t pid)

/-- R264, R265, R268, R269: the drover dequeues one good slate, held on its counter or released; a released request of an
eligible region becomes a take with the lowest free colour and context; the last token of a join makes a request. -/
def Obligations.SlatesBecomeTakes : Prop :=
  (∀ (die : Nat) (s : State) (q : QueueReg) (slot : Phys),
    (s.die die).queues = [q] → (s.die die).nextQueue = 0 → (s.die die).held.length < 256 →
    s.qHead q ≠ s.qTail q → s.jobRuns q.job = true → s.placeOf q.job (s.qSlot q (s.qHead q)) false = some slot →
    slot.key / 64 ∉ s.poison → (s.die slot.die).fenced = false → slot.slice < 64 → (∀ p ∈ s.planes, p.2.stash = []) →
    let w : BitVec 512 := BitVec.ofNat 512 (s.num slot.key 64)
    s.slateRefused die q.job w = false → s.slices = [] →
    completes (.slateDequeue die) s fun t =>
      (∀ a, t.byte a = if q.key ≤ a ∧ a < q.key + 8 then BitVec.ofNat 8 ((s.qHead q + 1) / 2 ^ (8 * (a - q.key))) else s.byte a)
      ∧ (t.die die).held = (s.die die).held ++ [{
          job := q.job, slate := slateOf w, age := s.clk, pusherTid := look 0 q.pushers (s.qHead q)
          released := (fld w 47 1 == 0) || (look 0 (s.die die).deps (fld w 32 12) == 0) }])
  ∧ (∀ (die : Nat) (s : State) (h : Held) (r : Region) (colour ctx i : Nat),
    (s.die die).held = [h] → h.released = true → h.slate.kind = 0 → h.start = false → h.source = .slate →
    h.reissue = false → s.region (regionKey h.job die h.slate.region) = some r → r.place = .eligible →
    r.condemned = false → r.shadow = 0 → r.key = regionKey h.job die h.slate.region →
    s.freeColour r.key = some colour → s.freeContext r.driver = some ctx → (s.core r.driver).store.length < 896 →
    find r.nts h.slate.entry = some i → (s.job h.job).map Job.contract = some [] →
    completes (.takeCreate die) s fun t =>
      (t.die die).held = []
      ∧ (∃ k, t.take s.serial = some k ∧ k.job = h.job ∧ k.region = r.key ∧ k.colour = colour ∧ k.ctx = ctx
        ∧ k.slate = h.slate ∧ k.born = h.age ∧ k.parked = [] ∧ k.failing = false)
      ∧ (t.ctx ctx).state = .run ∧ (t.ctx ctx).pc = i ∧ (t.ctx ctx).tid = s.serial ∧ (t.ctx ctx).curnt = h.slate.entry
      ∧ (t.ctx ctx).args = h.slate.args ∧ (t.ctx ctx).stack = []
      ∧ ∀ a, t.byte a = s.byte a)
  ∧ (∀ (core : Nat) (s : State) (h : Held) (x : Slate), s.arriving core = some h → h.slate = x →
    2 ≤ x.nports → x.nports ≤ 6 → x.port < x.nports →
    let same := (s.core core).tokensOf h.job x
    (∀ m ∈ same, m.slate.nports = x.nports ∧ m.slate.port ≠ x.port) →
    (same.length + 1 ≠ x.nports → (s.core core).store.length < 1024 →
      completes (.matchTokenArrive core) s fun t =>
        (t.core core).store = (s.core core).store ++ [{ job := h.job, slate := x, pusher := h.pusherTid, age := s.clk }]
        ∧ (t.die (core / 16)).held = (s.die (core / 16)).held.erase h)
    ∧ (same.length + 1 = x.nports →
      completes (.matchTokenArrive core) s fun t =>
        (∀ m ∈ (t.core core).store, m ∉ same)
        ∧ ∃ r : Held, (t.die (core / 16)).held = (s.die (core / 16)).held.erase h ++ [r] ∧ r.released = true
          ∧ r.job = h.job ∧ r.slate.kind = 0 ∧ r.slate.region = x.region ∧ r.slate.entry = x.entry
          ∧ (x.port < 6 → r.slate.args[x.port]? = some ((x.args[0]?).getD 0))))
  ∧ (∀ (core : Nat) (s : State) (k : MatchTok), (s.core core).spill = [k] → (s.core core).store.length ≤ 960 →
    completes (.spillReturn core) s fun t =>
      (t.core core).spill = [] ∧ (t.core core).store = (s.core core).store ++ [k])

/-! ## Placement, issue, the end of takes -/

/-- R19, R27, R53, R266, R332 to R335: a region is placed at the lowest core where it fits; when its cells are loaded it
is eligible, with registers at reset; a save empties its planes and keeps their state; a restore brings it back. Partners placed
together, the structured image and the old numbers of contexts are the model's (log 30); so is BANK_DRAIN (R335): every bank write
performs in the step that makes it, so none is queued when a range changes hands (log 30). -/
def Obligations.PlacementAndEviction : Prop :=
  (∀ (die key core : Nat) (s : State) (r : Region),
    let m := r.image
    s.regions = [(key, r)] → r.key = key → key ≠ 0 → r.die = die → r.place = .requested → r.saved = [] → r.shadow = 0 →
    m.partners = [] → s.exits = [] → s.jobRuns r.job = true →
    s.couldFit r core = true → (∀ c < core, s.couldFit r c = false) → core < 16 →
    completes (.regionPlace die) s fun t =>
      t.region key = some { r with
        place := .loading, core, scriptBase := 0, cellsLeft := rectCells core m.rows m.cols, bypass := 0, blocked := false }
      ∧ t = { s with regions := t.regions })
  ∧ (∀ (key cell : Nat) (s : State) (r : Region), s.region key = some r → r.key = key → r.place = .loading →
    r.saved = [] → cell ∈ r.cells → (s.die r.die).fenced = false →
    completes (.planeLoadDone key) s fun t =>
      (t.region key).map Region.place = some .eligible
      ∧ (let p := t.plane (pidOf r.die cell r.image.plane)
        p.owner = key ∧ p.region = r.rid ∧ p.job = r.job ∧ p.regs = {} ∧ p.ftz = false ∧ p.lfsr = 0xC0D15EED
        ∧ p.running = false ∧ p.tokens = [] ∧ p.mq = [] ∧ p.stage = (r.image.cellOf r.core cell).stage
        ∧ p.bankBase = (r.image.cellOf r.core cell).bankBase ∧ p.bankSize = (r.image.cellOf r.core cell).bankSize))
  ∧ (∀ (key pid : Nat) (s : State) (r : Region), s.region key = some r → r.key = key → r.place = .saving →
    s.saveReady r = true → pid ∈ r.pids → (s.die r.die).fenced = false →
    completes (.planeSave key) s fun t =>
      t.plane pid = {} ∧ (∀ e ∈ t.rings, e.2.pid ∉ r.pids)
      ∧ ∃ r', t.region key = some r' ∧ r'.place = .evicted ∧ r'.fromCore = r.core
        ∧ ∃ c ∈ r'.saved, c.plane.regs = (s.plane pid).regs ∧ c.plane.tokens = (s.plane pid).tokens
          ∧ c.plane.firing = (s.plane pid).firing ∧ c.plane.running = (s.plane pid).running)
  ∧ (∀ (key pid : Nat) (s : State) (r : Region) (x : RegionReq), s.region key = some r → r.key = key →
    r.place = .saving → x ∈ s.requests r.die → (∀ y ∈ s.requests r.die, y.region.key ≠ r.evictor) →
    (s.placeFirst x.region).isSome = true → pid ∈ r.pids → (∀ q ∈ r.pids, (s.plane q).eotLeft = false) →
    completes (.saveAbandon key) s fun t =>
      (t.region key).map Region.place = some .eligible ∧ t.plane pid = { s.plane pid with stopped := false })
  ∧ (∀ (key : Nat) (s : State) (r : Region) (c : SavedCell), s.region key = some r → r.key = key → r.place = .loading →
    s.restoreCtxs r = some [] → r.saved = [c] → (s.die r.die).fenced = false → c.plane.eotLeft = false →
    (∀ e ∈ c.rings, e.2.leaving = []) → (∀ e ∈ c.plane.resid, e.2.ended = false) →
    (∀ e ∈ s.planes, ∀ x ∈ e.2.resid, x.2.ended = false) →
    completes (.planeRestore key) s fun t =>
      (t.region key).map (fun x => (x.place, x.saved)) = some (.eligible, [])
      ∧ (let p := t.plane (pidOf r.die (topCell r.core + c.dy * 16 + c.dx) r.image.plane)
        p.regs = c.plane.regs ∧ p.tokens = c.plane.tokens ∧ p.running = c.plane.running
        ∧ p.firing = (if c.plane.firing.wait = .claim then { c.plane.firing with wait := .none } else c.plane.firing)
        ∧ p.stopped = false ∧ p.prog = c.plane.prog))
  ∧ (∀ (cell : Nat) (s : State), completes (.bankDrain cell) s fun t => t = s)

/-- R79, R81, R189, R195, R321, R325: the port engine lets the next ready plane issue; a token reaches its cell and starts
a firing with its argument in S1; a kill message drops tokens beyond its horizon; the first trap of a core gets a handler
take of colour 15, whose firing on the trapping cell finds the parked registers (R322); a parked firing of an unparked take resumes
with its registers. The model's choices: a token that arrives for a parked take joins the park area (log 13), a kill message counts a
firing that has not issued as a waiting token (log 11), and the start of a handler firing waits for the parked firing's loads (log 54). -/
def Obligations.IssueTokensAndHandlers : Prop :=
  (∀ (die cell i : Nat) (s : State),
    let c := s.cell (die * 256 + cell)
    let ready := fun (j : Nat) => s.issuable (pidOf die cell ((c.lastIssuer + j) % 4))
    (s.die die).fenced = false → (c.everIssued = false ∨ c.issuedAt ≠ s.clk) → s.slotPlane die = none →
    1 ≤ i → i ≤ 4 → ready i = true → (∀ j, 1 ≤ j → j < i → ready j = false) →
    completes (.portIssue die cell [] false) s fun t =>
      let pid := pidOf die cell ((c.lastIssuer + i) % 4)
      t = { s with planes := t.planes, cur := pid, turn := .plane } ∧ (∀ q, q ≠ pid → t.plane q = s.plane q)
      ∧ t.plane pid = { s.plane pid with firing := { (s.plane pid).firing with wait := .none } })
  ∧ (∀ (idx core pid : Nat) (s : State) (k : Token) (x : Take), s.tokensUnderWay[idx]? = some (core, (pid, k)) →
    (∀ e ∈ s.tokensUnderWay.take idx, e.1 = core → e.2.1 = pid → e.2.2.tid ≠ k.tid) → s.take k.tid = some x →
    (s.die (pid / 1024)).fenced = false →
    (x.isParked = false → completes (.tokenDelivery idx) s fun t =>
      t.plane pid = { s.plane pid with tokens := (s.plane pid).tokens ++ [{ k with came := s.clk }] }
      ∧ (t.core core).tokQ = (s.core core).tokQ.erase (pid, k))
    ∧ (x.isParked = true → completes (.tokenDelivery idx) s fun t =>
      t.planes = s.planes ∧ (pid, { k with came := s.clk }) ∈ (t.core (coreOf pid)).park))
  ∧ (∀ (pid : Nat) (s : State) (k : Token) (rest : List Token), (s.plane pid).tokens = k :: rest → k.colour ≠ 15 →
    (s.plane pid).running = false → (s.plane pid).stopped = false → s.jobRuns (s.plane pid).job = true →
    (s.plane pid).ownParks = [] → (∀ e ∈ s.takes, e.2.parked = []) → (s.die (pid / 1024)).fenced = false →
    (∀ o ∈ (s.plane pid).memq, o.dst ≠ .sreg 1) →
    completes (.firingStart pid) s fun t =>
      (let p := t.plane pid
      p.running = true ∧ p.tokens = rest ∧ p.firing.tid = k.tid ∧ p.firing.colour = k.colour ∧ p.firing.pc = k.entry
      ∧ p.firing.entry = k.entry ∧ p.firing.coord = k.coord ∧ p.firing.claims = [] ∧ p.firing.wait = .none
      ∧ p.firing.notBefore = max (k.came + 1) (s.plane pid).nextAt
      ∧ p.regs.rS 1 = k.arg.setWidth 64 ∧ (∀ n, n ≠ 1 → p.regs.rS n = (s.plane pid).regs.rS n)
      ∧ p.regs.p = (s.plane pid).regs.p ∧ p.regs.v = (s.plane pid).regs.v ∧ p.regs.m = (s.plane pid).regs.m)
      ∧ ∀ a, t.byte a = s.byte a)
  ∧ (∀ (pid : Nat) (s : State) (k : Token) (rest : List Token) (h x : Take) (r : TrapRec) (f : Parked),
    (s.plane pid).tokens = k :: rest → k.colour = 15 → s.take k.tid = some h → h.record = some r → r.pid = pid →
    s.take h.serves = some x → x.parked = [f] → f.pid = pid → f.queueOnly = false →
    (∀ e ∈ s.takes, e.2.isParked = true ∨ e.2.parked = []) →
    (s.plane pid).running = false → (s.plane pid).stopped = false → s.jobRuns (s.plane pid).job = true →
    (s.plane pid).ownParks = [] → (s.die (pid / 1024)).fenced = false →
    let late := (s.plane pid).memq.any fun o => o.fid == f.firing.fid && o.dst != .none
    (late = true → exec (.firingStart pid) s = .next s)
    ∧ (late = false → (∀ o ∈ (s.plane pid).memq, o.dst ≠ .sreg 1) → completes (.firingStart pid) s fun t =>
      (t.plane pid).running = true ∧ (t.plane pid).tokens = rest ∧ (t.plane pid).firing.pc = k.entry
      ∧ (t.plane pid).regs.rS 1 = k.arg.setWidth 64 ∧ (∀ n, n ≠ 1 → (t.plane pid).regs.rS n = f.regs.rS n)
      ∧ (t.plane pid).regs = { f.regs with s := (t.plane pid).regs.s }))
  ∧ (∀ (pid tid : Nat) (s : State) (h : Coord) (core : Nat) (c : Core), s.cores = [(core, c)] →
    c.killQ = [(pid, tid, h)] → c.tokQ = [] → (s.plane pid).eotLeft = false → (s.die (pid / 1024)).fenced = false →
    completes (.killDelivery 0) s fun t =>
      (t.plane pid).tokens = (s.plane pid).tokens.filter (fun k => !(k.tid == tid && h.lt k.coord))
      ∧ (t.core core).killQ = [] ∧ (tid, h) ∈ (t.plane pid).kills
      ∧ (t.plane pid).running = ((s.plane pid).running
          && !((s.plane pid).firing.tid == tid && !(s.plane pid).firing.started && h.lt (s.plane pid).firing.coord)))
  ∧ (∀ (core tid entry i : Nat) (rest : List Nat) (s : State) (k : Take) (x : TrapRec) (r : Region),
    (s.core core).trapQ = tid :: rest → find s.ctxs (core * 16 + 15) = none → s.take tid = some k → k.tid = tid →
    k.traps = [x] → x.cause ≠ 2 → x.cause ≠ 12 → s.region k.region = some r → r.key = k.region → r.place = .eligible →
    r.driver = core → r.image.handler = some entry → find r.nts entry = some i → tid ≠ s.serial →
    (s.die (core / 16)).fenced = false →
    completes (.handlerTakeCreate core) s fun t =>
      (t.core core).trapQ = rest
      ∧ (∃ h, t.take s.serial = some h ∧ h.colour = 15 ∧ h.serves = tid ∧ h.record = some x ∧ h.region = k.region
        ∧ h.slate.args = [BitVec.ofNat 32 (cellIdWord (dieOf x.pid) (cellNoOf x.pid)), BitVec.ofNat 32 x.cause,
            BitVec.ofNat 32 x.colour, x.pc.setWidth 32, 0, 0])
      ∧ (t.ctx (core * 16 + 15)).state = .run ∧ (t.ctx (core * 16 + 15)).pc = i
      ∧ (t.ctx (core * 16 + 15)).tid = s.serial)
  ∧ (∀ (pid tid : Nat) (s : State) (k : Take) (p : Parked), s.takes = [(tid, k)] → k.tid = tid → k.isParked = false →
    k.parked = [p] → p.pid = pid → p.queueOnly = false → (s.plane pid).running = false → (s.plane pid).stopped = false →
    (∀ e ∈ s.rings, e.2.queue = [] ∧ e.2.granted = []) → (s.die (pid / 1024)).fenced = false →
    completes (.parkedFiringResume pid) s fun t =>
      t.plane pid = { s.plane pid with running := true, firing := p.firing, regs := p.regs }
      ∧ t.takes = [(tid, { k with parked := [] })])

/-- R25, R30, R31, R191, R274, R330, R401: a take that has drained ends, its completion actions run, and its colour and
context return; a failing take ends with its record once its writes have performed; a take that outlives its bound is
marked once; a stalled job is stopped; a granule that both copies agree on passes the comparator. -/
def Obligations.TakesEnd : Prop :=
  (∀ (tid : Nat) (s : State) (k : Take), s.take tid = some k → k.tid = tid → s.drained k = true → s.groupServed k = true → k.colour ≠ 15 →
    k.source = .slate → k.shadow = false →
    completes (.takeEnd tid) s fun t =>
      t.take tid = none ∧ find t.ctxs k.ctx = none
      ∧ (k.slate.act0.toNat % 8 = 2 → k.slate.act1 = 0 →
        let die := k.slate.act0.toNat / 2 ^ 8 % 8
        let n := k.slate.act0.toNat / 2 ^ 16 % 2 ^ 8
        (look 0 (t.die die).timelines n).toNat = min ((look 0 (s.die die).timelines n).toNat + 1) (2 ^ 64 - 1)))
  ∧ (∀ (tid : Nat) (s : State) (k : Take) (j : Job), s.take tid = some k → k.tid = tid → k.failing = true →
    (∀ e ∈ s.planes, ∀ o ∈ e.2.memq, o.tid = tid → o.isWrite = false) → s.openMsgs tid = false → s.groupServed k = true → k.colour ≠ 15 →
    k.source = .slate → k.shadow = false → k.later = [] → k.slate.act0 = 0 → k.slate.act1 = 0 → k.failCode < 2 ^ 16 →
    k.failCode ≠ 0 → k.job ≠ 0 → s.job k.job = some j → (s.link j.link).held = [] → (s.link j.link).heldBehind = [] →
    (s.link j.link).nextCq = none →
    completes (.takeFail tid) s fun t =>
      t.take tid = none
      ∧ ∃ r ∈ (t.link j.link).held, r.entry.extractLsb' 16 16 = BitVec.ofNat 16 k.failCode
        ∧ r.entry.extractLsb' 0 3 = 3#3 ∧ r.detail.isSome = true)
  ∧ (∀ (tid b e m : Nat) (s : State) (k : Take), s.take tid = some k → k.tid = tid → s.boundOf k = some (b, e, m) →
    k.late = false → k.shadow = false → k.colour ≠ 15 → k.born + b ≤ s.clk →
    completes (.latency tid) s fun t => ∃ k', t.take tid = some k' ∧ k'.late = true ∧ k'.failing = k.failing
      ∧ k'.parked = k.parked)
  ∧ (∀ (job : Nat) (s : State) (j : Job), s.job job = some j → j.id = job → j.stopped = false → j.ended = false →
    s.stalled j = true → j.endpoints = [] →
    completes (.deadlock job) s fun t => (t.job job).map Job.stopped = some true ∧ t.takes = s.takes)
  ∧ (∀ (job pkg : Nat) (s : State) (j : Job), s.job job = some j → pkg ∈ j.endpoints.map Prod.fst →
    pkg ≠ s.pkg.endpoint → j.stopped = false →
    completes (.localDeadlockReport job pkg) s fun t => ∃ j', t.job job = some j' ∧ (pkg, s.clk) ∈ j'.reports)
  ∧ (∀ (key n m : Nat) (s : State) (e : Exit) (k : Take) (r q : Ring) (cp cs : Nat), s.exits = [e] → e.region = key →
    s.take k.tid = some k → e.prim = [(k.tid, n, cp)] → e.shad = [(k.twin, m, cs)] → k.pairOf = 0 →
    s.ring e.ring = some r → s.ring e.shadowRing = some q → e.ring ≠ e.shadowRing →
    s.gran r n = s.gran q m → (s.side r n).toNat / 16 = (s.side q m).toNat / 16 →
    r.pid ≠ q.pid → (s.plane r.pid).eotLeft = false → (s.plane q.pid).eotLeft = false → r.reclaim < n →
    sideMark (s.side q m) ≠ 4 → sideMark (s.side r n) ≠ 4 → find r.slots r.reclaim = some {} →
    (∀ x ∈ r.leaving, sideMark (s.side r x) ≠ 4) → (∀ x ∈ q.leaving, sideMark (s.side q x) ≠ 4) →
    find r.slots n = some {} → r.live ≠ 0 → (s.die (e.comparator / 256)).fenced = false →
    completes (.comparatorPair key 0) s fun t =>
      (∃ e', t.exits = [e'] ∧ e'.prim = [] ∧ e'.shad = [] ∧ look 0 e'.passed k.tid = look 0 e.passed k.tid + 1)
      ∧ ∃ r', t.ring e.ring = some r' ∧ r'.isFilled n = true)

/-! ## System instructions -/

/-- R51, R320 to R324, R342: a word that is illegal, TRAP and BRK take their traps: the firing leaves the plane with its
registers, the take parks, the record waits for a handler; in a region without a handler entry the take fails. -/
def Obligations.TrapsAreTaken : Prop :=
  ∀ (s : State) (k : Take), s.take s.pl.firing.tid = some k → k.tid = s.pl.firing.tid → k.colour ≠ 15 →
    (∀ r entry, s.region k.region = some r → r.image.handler = some entry →
      (∀ pc info, completes (.stageIllegal pc info) s fun t =>
        trapTaken s t k 1 pc info ∧ (t.core (k.ctx / 16)).trapQ = (s.core (k.ctx / 16)).trapQ ++ [k.tid])
      ∧ ∀ o : OpK, s.rP o.g.toNat ^^^ o.gn = 1 →
        completes (.trap o) s (fun t => trapTaken s t k 13 (w64 (s.pc + 1)) (o.imm.setWidth 64))
        ∧ completes (.brk o) s (fun t => trapTaken s t k 12 (w64 (s.pc + 1)) (o.imm.setWidth 64)))
    ∧ ((s.region k.region).bind (fun r => r.image.handler) = none → k.failing = false → k.twin = 0 →
      ∀ pc info, completes (.stageIllegal pc info) s fun t =>
        ∃ k', t.take k.tid = some k' ∧ k'.failing = true ∧ k'.failCode = 1)

/-- R56, R57, R341: KRD reads each system register; KWR writes FTZ, LFSR and, in colour 15, TRAPPC; an access of LFSR waits
while matrix work is still to draw from it; a write of another raises ILLEGAL. -/
def Obligations.SystemRegisters : Prop :=
  ∀ (o : OpK) (s : State), s.rP o.g.toNat ^^^ o.gn = 1 →
    let f := s.pl.firing
    let v := s.rS o.a.toNat
    let die := s.cur / 1024
    let cell := s.cur / 4 % 256
    let core := cell / 64 * 4 + cell % 16 / 4
    let regs : List (Nat × Nat) := [(0x000, s.cur % 4), (0x001, f.colour), (0x002, s.pl.stage),
      (0x003, die * 8192 + core * 512 + (cell / 16 % 4 * 4 + cell % 4) * 32), (0x004, s.pl.region), (0x005, s.pl.job),
      (0x010, f.coord.row.toNat), (0x011, f.coord.grp.toNat), (0x012, f.coord.seq.toNat), (0x013, f.clayer),
      (0x014, f.entry), (0x100, if s.pl.ftz then 1 else 0), (0x101, s.pl.lfsr.toNat), (0x300, s.clk / 256 % 64),
      (0x301, s.clk)]
    let traps := [0x200, 0x201, 0x202, 0x203]
    (∀ e ∈ regs, o.kreg.toNat = e.1 → (e.1 = 0x101 → s.pl.drawsQueued = false) → completes (.krd o) s fun t =>
      t.rS o.d.toNat = (if o.d = 0 then 0 else BitVec.ofNat 64 e.2) ∧ ranOn s t (s.pc + 1) [o.d.toNat] [] [] [] false)
    ∧ (o.kreg.toNat ∈ traps → f.colour ≠ 15 → completes (.krd o) s fun t =>
      t.rS o.d.toNat = 0 ∧ ranOn s t (s.pc + 1) [o.d.toNat] [] [] [] false)
    ∧ (∀ h x, f.colour = 15 → s.take f.tid = some h → h.record = some x → o.kreg = 0x201 → h.tid = f.tid →
      completes (.krd o) s (fun t => t.rS o.d.toNat = (if o.d = 0 then 0 else x.pc))
      ∧ completes (.kwr o) s (fun t => t.pc = s.pc + 1
        ∧ (h.serves ≠ h.tid → (t.take h.tid).bind Take.record = some { x with pc := v })))
    ∧ (o.kreg = 0x100 → completes (.kwr o) s fun t => t.pl = { s.pl with
        ftz := v.getLsbD 0, firing := { f with pc := s.pc + 1, lastPc := s.pc, wait := .none } })
    ∧ (o.kreg = 0x101 → s.pl.drawsQueued = true →
      exec (.krd o) s = .next (s.hold .retry 0) ∧ exec (.kwr o) s = .next (s.hold .retry 0))
    ∧ (o.kreg = 0x101 → s.pl.drawsQueued = false → completes (.kwr o) s fun t => t.pl = { s.pl with
        lfsr := if v.extractLsb' 0 32 = 0 then 0xC0D15EED else v.extractLsb' 0 32
        firing := { f with pc := s.pc + 1, lastPc := s.pc, wait := .none } })
    ∧ (o.kreg ≠ 0x100 → o.kreg ≠ 0x101 → (o.kreg ≠ 0x201 ∨ f.colour ≠ 15) →
      exec (.kwr o) s = .next (s.trapAt s.cur 1 (w64 s.pc) (look 0 s.pl.prog s.pc) 0))

/-- R343 to R347: ERET resolves the trap that its handler take serves; PURGE purges the take of a colour; IDLE waits until
a clk; HALTP stops the job; ERRPOP gives the oldest record of its take. -/
def Obligations.HandlerAndSupervisorInstructions : Prop :=
  (∀ (o : OpK) (s : State), s.rP o.g.toNat ^^^ o.gn = 1 →
    (s.pl.firing.colour ≠ 15 → exec (.eret o) s = .next (s.trapAt s.cur 1 (w64 s.pc) (look 0 s.pl.prog s.pc) 0))
    ∧ (∀ h, s.pl.firing.colour = 15 → s.take s.pl.firing.tid = some h → (h.resolved = true ∨ h.record = none) → o.d ≠ 0 →
      completes (.eret o) s fun t => t.rS o.d.toNat = 3 ∧ ranOn s t (s.pc + 1) [o.d.toNat] [] [] [] false)
    ∧ (∀ h k x p, s.pl.firing.colour = 15 → s.take s.pl.firing.tid = some h → h.tid = s.pl.firing.tid →
      h.resolved = false → h.record = some x → s.take h.serves = some k → k.tid = h.serves → k.tid ≠ h.tid →
      k.failing = false → k.traps = [x] → k.parked = [p] → p.pid = x.pid → x.cause ≠ 11 → x.unit.toNat % 32 ≠ 8 →
      x.pc ≠ BitVec.allOnes 64 → s.ownParked k = false → s.released = true → s.pl.stash = [] → o.imm.toNat % 2 = 0 → o.d ≠ 0 →
      completes (.eret o) s fun t =>
        t.rS o.d.toNat = 0 ∧ t.pc = s.pc + 1 ∧ (t.take h.tid).map Take.resolved = some true
        ∧ ∃ k', t.take k.tid = some k' ∧ k'.traps = [] ∧ k'.isParked = false
          ∧ ∃ p', k'.parked = [p'] ∧ p'.firing.pc = x.pc.toNat ∧ p'.regs = p.regs))
  ∧ (∀ (o : OpK) (s : State), s.rP o.g.toNat ^^^ o.gn = 1 → o.d ≠ 0 →
    let colour := (s.rS o.a.toNat).toNat % 16
    (colour = 15 → completes (.purge o) s fun t =>
      t.rS o.d.toNat = 2 ∧ ranOn s t (s.pc + 1) [o.d.toNat] [] [] [] false)
    ∧ (colour ≠ 15 → s.takeOf s.pl.owner colour = none → completes (.purge o) s fun t =>
      t.rS o.d.toNat = 1 ∧ ranOn s t (s.pc + 1) [o.d.toNat] [] [] [] false)
    ∧ (∀ x, colour ≠ 15 → s.takeOf s.pl.owner colour = some x → s.take x.tid = some x → x.shadow = false →
      completes (.purge o) s fun t => ∀ x', t.take x.tid = some x' → x'.failing = true))
  ∧ (∀ (o : OpK) (s : State), s.rP o.g.toNat ^^^ o.gn = 1 →
    let until_ := if o.a = 0 then s.clk + o.imm.toNat else (s.rS o.a.toNat).toNat
    (until_ ≤ s.clk → completes (.idle o) s fun t => ranOn s t (s.pc + 1) [] [] [] [] false)
    ∧ (s.clk < until_ → completes (.idle o) s fun t => t = { s with planes := t.planes }
      ∧ t.pl = { s.pl with firing := { s.pl.firing with wait := .idle, waitArg := until_ } }))
  ∧ (∀ (pid : Nat) (s : State), (s.plane pid).running = true → (s.plane pid).firing.wait = .idle →
    (s.plane pid).firing.waitArg ≤ s.clk → (s.die (pid / 1024)).fenced = false →
    completes (.idleExpiry pid) s fun t => wentOn s t pid)
  ∧ (∀ (o : OpK) (s : State) (k : Take) (j : Job), s.rP o.g.toNat ^^^ o.gn = 1 → s.take s.pl.firing.tid = some k →
    k.job = s.pl.job → s.job s.pl.job = some j → s.pl.job ≠ 0 → s.pl.firing.retireAtEnd = [] → s.pl.eotLeft = false →
    completes (.haltp o) s fun t => t.pl.running = false ∧ (t.job s.pl.job).map Job.stopped = some true)
  ∧ (∀ (o : OpK) (s : State) (k : Take), s.rP o.g.toNat ^^^ o.gn = 1 → s.pl.firing.colour ≠ 15 →
    s.take s.pl.firing.tid = some k → (s.ctx k.ctx).tid = k.tid →
    completes (.errpop o) s fun t =>
      t.rV (o.d.toNat % 16) = (((s.ctx k.ctx).recs.headD 0).setWidth 1024)
      ∧ (t.ctx k.ctx).recs = (s.ctx k.ctx).recs.drop 1
      ∧ ranOn s { t with ctxs := s.ctxs } (s.pc + 1) [] [] [o.d.toNat % 16] [] false)

/-! ## Script words and parse contexts -/

/-- R177, R180, R187, R188: NTDEF begins a nonterminal; CHOOSE and LOOK test the next terminals and take a production, go
on to the next one, wait, or raise a mismatch; EXPECT passes slots up to the terminal it names; PUSHN and RETN move the
stack; ONERR outside a head and an illegal word raise ILLEGAL. TRAPPC of ONERR, LOOK and CHOOSE out of place, and of a TARGET on a
literal word, is log 12's (R180 gives it for PUSHN alone). -/
def Obligations.ScriptWordsParse : Prop :=
  ∀ (s : State),
    let c := s.curCtx
    let x := s.ctx c
    let ts := s.terms c
    let marks := ts.filter fun e => e.2 != 0
    let next := fun (i : Nat) => s.fetchScriptAt c i x.pc
    let becomes := fun (i : Instr) (y : Ctx) => completes i s fun t => ctxIs s t y
    let raises := fun (i : Instr) (slot : Nat) =>
      completes i s fun t => ∃ y, ctxIs s t y ∧ mismatched x y 0x0801 slot
    let production := fun (i : Instr) (choose tgt : Nat) =>
      s.isLiteral c tgt = false → becomes i { goesTo x tgt with lastPc := choose }
    let another := fun (i : Instr) (at_ : Nat) =>
      s.isChoose c at_ = true → becomes i { goesTo x at_ with state := .decide, head := .atChoose }
    (∀ n : BitVec 8,
      let at_ := if (∃ a b d e, next (x.pc + 1) = .onerr a b d e) then x.pc + 2 else x.pc + 1
      let began := { goesTo x at_ with curnt := n.toNat, depth0 := x.stack.length }
      ((∃ a b, next at_ = .choose a b) → becomes (.ntdef n) { began with state := .decide, head := .atChoose })
      ∧ ((∀ a b, next at_ ≠ .choose a b) → becomes (.ntdef n) began))
    ∧ (∀ (t : BitVec 4) (tgt : BitVec 12),
      let i := Instr.choose t tgt
      let tested := if t = 0 then ts.head? else marks.head?
      let nolook := s.isLook c (x.pc + 1) = false
      (x.head ≠ .atChoose → completes i s fun u => scriptTrapped s u (w64 x.pc) ((s.scriptWord c x.pc).setWidth 64))
      ∧ (x.head = .atChoose → (t = 8 ∨ ∃ e, tested = some e ∧ e.2 = t.toNat) →
        (nolook → production i x.pc tgt.toNat)
        ∧ (s.isLook c (x.pc + 1) = true →
          becomes i { goesTo x (x.pc + 1) with state := .decide, head := .atLook x.pc }))
      ∧ (x.head = .atChoose → t ≠ 8 → tested = none → becomes i (waitsIn x .decide true))
      ∧ (∀ e, x.head = .atChoose → t ≠ 8 → tested = some e → e.2 ≠ t.toNat → nolook →
        another i (x.pc + 1) ∧ (s.isChoose c (x.pc + 1) = false → raises i e.1)))
    ∧ (∀ (t : BitVec 4) (ge : BitVec 1) (choose : Nat) (term : BitVec 4) (tgt : BitVec 12),
      let i := Instr.look t ge
      let seen := if 1 ≤ term.toNat ∧ term.toNat ≤ 7 then marks[1]? else marks[0]?
      let fits := fun (m : Nat) => if ge = 1 then t.toNat ≤ markLevel m else m = t.toNat
      x.head = .atLook choose → s.fetchScriptAt c choose choose = .choose term tgt →
      (seen = none → becomes i (waitsIn x .decide true))
      ∧ (∀ e, seen = some e → fits e.2 → production i choose tgt.toNat)
      ∧ (∀ e, seen = some e → ¬fits e.2 → s.isLook c (choose + 1) = true →
        another i (choose + 2)
        ∧ (s.isChoose c (choose + 2) = false → s.isLook c (choose + 2) = true → completes i s fun u =>
          scriptTrapped s u (w64 (choose + 2)) ((s.scriptWord c (choose + 2)).setWidth 64))
        ∧ (s.isChoose c (choose + 2) = false → s.isLook c (choose + 2) = false → raises i e.1)))
    ∧ (∀ ge : BitVec 1,
      (ts = [] → becomes (.expect 0 ge) (waitsIn x .scan true))
      ∧ ∀ e rest, ts = e :: rest →
        (e.2 = 0 → becomes (.expect 0 ge) { goesTo x (x.pc + 1) with pos := e.1 + 1, lastSlot := some e.1 })
        ∧ (e.2 ≠ 0 → raises (.expect 0 ge) e.1))
    ∧ (∀ (t : BitVec 4) (ge : BitVec 1) (ds : List (Nat × Nat)) (e : Nat × Nat) (rest : List (Nat × Nat)), t ≠ 0 →
      ts = ds ++ e :: rest → (∀ d ∈ ds, d.2 = 0) → e.2 ≠ 0 →
      let fits := if ge = 1 then t.toNat ≤ markLevel e.2 else e.2 = t.toNat
      (fits → completes (.expect t ge) s fun u => ∃ y, ctxIs s u y
        ∧ y = { goesTo x (x.pc + 1) with
            pos := e.1 + 1, lastSlot := some e.1, coord := coordAfter x.coord (markLevel e.2), lastlvl := y.lastlvl }
        ∧ ∀ st < 256, look 0 y.lastlvl st = max (look 0 x.lastlvl st) (markLevel e.2))
      ∧ (¬fits → completes (.expect t ge) s fun u => ∃ y, ctxIs s u y ∧ mismatched x y 0x0801 e.1 ∧ y.pos = e.1))
    ∧ (∀ n : BitVec 8,
      (s.ntAt c n.toNat = none →
        completes (.pushn n) s fun t => scriptTrapped s t (w64 x.pc) ((s.scriptWord c x.pc).setWidth 64))
      ∧ (∀ i, s.ntAt c n.toNat = some i → x.stack.length < 32 →
        becomes (.pushn n) { goesTo x (x.pc + 1) with stack := x.stack ++ [n.toNat] })
      ∧ (∀ i, s.ntAt c n.toNat = some i → 32 ≤ x.stack.length →
        completes (.pushn n) s fun t => takeFails s t x.tid 0x0803))
    ∧ (∀ n i rest, x.stack = rest ++ [n] → s.ntAt c n = some i → becomes .retn { goesTo x i with stack := rest })
    ∧ (x.stack = [] → completes .retn s fun t => takeFails s t x.tid 0x0804)
    ∧ (∀ a b d e, completes (.onerr a b d e) s fun t =>
      scriptTrapped s t (w64 x.pc) ((s.scriptWord c x.pc).setWidth 64))
    ∧ (∀ pc info, completes (.scriptIllegal pc info) s fun t => scriptTrapped s t pc info)

/-- R187, R189 to R195: FIRE sends a token to each cell of a stage; EMIT commits one granule with a mark; SYNC passes and
retires slots through a mark; TRIG, PLSW and KILL set the context's registers; SCALL and SPAWN ask for a take; ACCEPT and
SRET drain; WAITW goes on or waits for its window. That a FIRE which the horizon suppresses leaves LASTLVL as it is, and that the
context waits for its kill messages after KILL, is log 11's reading. R329: a shadow's context asks for no take of its own. -/
def Obligations.ScriptWordsAct : Prop :=
  ∀ (s : State),
    let c := s.curCtx
    let x := s.ctx c
    let ts := s.terms c
    let becomes := fun (i : Instr) (y : Ctx) => completes i s fun t => ctxIs s t y
    let fails := fun (i : Instr) (code : Nat) => completes i s fun t => takeFails s t x.tid code
    (∀ (st : BitVec 8) (entry : BitVec 10) (asel : BitVec 3) (lit : BitVec 32),
      let i := Instr.fire st entry asel lit
      let cells := s.stageCells c x.tplane st.toNat
      let k : Token := {
        tid := x.tid, colour := s.ctxColour c, stage := st.toNat, entry := entry.toNat
        arg := if asel = 0 then lit else (x.args[asel.toNat - 1]?).getD 0
        coord := x.coord, clayer := look 0 x.lastlvl st.toNat }
      (∀ h, x.horizon = some h → h.lt x.coord = true → becomes i (goesTo x (x.pc + 2)))
      ∧ ((∀ h, x.horizon = some h → h.lt x.coord = false) →
        (s.partnerPlane c x.tplane = false → fails i 0x0808)
        ∧ (s.partnerPlane c x.tplane = true → cells = [] → fails i 0x0806)
        ∧ (s.partnerPlane c x.tplane = true → cells ≠ [] → (∃ q ∈ cells, s.tokenRoom q = false) →
          becomes i (waitsIn x .tokwait false))
        ∧ (s.partnerPlane c x.tplane = true → cells ≠ [] → (∀ q ∈ cells, s.tokenRoom q = true) →
          completes i s fun t =>
            t = { s with ctxs := t.ctxs, cores := t.cores }
            ∧ (t.core (c / 16)).tokQ = (s.core (c / 16)).tokQ ++ cells.map (fun q => (q, k))
            ∧ t.ctx c = { goesTo x (x.pc + 2) with
                sent := x.sent + cells.length
                lastlvl := put 0 x.lastlvl st.toNat 0
                trigcnt := x.trigcnt - 1
                tplane := if x.trigcnt = 1 then x.trigpl else x.tplane })))
    ∧ (∀ (h : BitVec 4) (m : BitVec 3),
      (s.ctxHandle c x.tplane h.toNat = none → fails (.emit h m) 0x0807)
      ∧ ∀ b r, s.ctxHandle c x.tplane h.toNat = some b → s.ringOf b = some r → r.granted = [] → r.queue = [] →
        s.exits = [] → r.live ≠ 0 →
        (1 ≤ r.free → completes (.emit h m) s fun t =>
          (∃ r', t.ring b.key = some r' ∧ r'.tail = r.tail + 1
            ∧ find r'.slots r.tail = some { filled := true, filledAt := s.clk, tid := x.tid })
          ∧ t.gran r r.tail = 0 ∧ t.side r r.tail = mkSide m.toNat b.dtag 0 (s.ctxColour c)
          ∧ t.ctx c = goesTo x (x.pc + 1))
        ∧ (r.free = 0 → completes (.emit h m) s fun t =>
          t.ctx c = waitsIn x .space false
          ∧ t.ring b.key = some { r with queue := [{
              who := .script c, nw := 1, colour := s.ctxColour c, tid := x.tid, fid := 0, dtag := b.dtag, came := s.clk }] }))
    ∧ (∀ l : BitVec 3,
      (x.sent ≠ 0 → becomes (.sync l) (waitsIn x .scan false))
      ∧ ∀ r, x.sent = 0 → s.headRing c = some r → s.ring r.key = some r →
        let passes := fun (t : State) (passed : List (Nat × Nat)) =>
          (∀ k, k ≠ r.key → t.ring k = s.ring k)
          ∧ ∃ r', t.ring r.key = some r' ∧ ∀ n, find r'.slots n = (find r.slots n).map fun y =>
              if n ∈ passed.map Prod.fst then { y with filled := true, retired := 0xFF, void := true } else y
        (∀ ds e rest, ts = ds ++ e :: rest → (∀ d ∈ ds, markLevel d.2 < l.toNat) → l.toNat ≤ markLevel e.2 →
          completes (.sync l) s fun t => passes t (ds ++ [e])
            ∧ (t.ctx c).pc = x.pc + 1 ∧ (t.ctx c).state = .run ∧ (t.ctx c).pos = e.1 + 1 ∧ (t.ctx c).stack = x.stack)
        ∧ ((∀ d ∈ ts, markLevel d.2 < l.toNat) →
          completes (.sync l) s fun t => passes t ts
            ∧ (t.ctx c).pc = x.pc ∧ (t.ctx c).state = .scan ∧ (t.ctx c).blind = true))
    ∧ (∀ (p : BitVec 2) (n : BitVec 16),
      becomes (.trig p n) { goesTo x (x.pc + 1) with trigpl := p.toNat, trigcnt := n.toNat }
      ∧ becomes (.plsw p) { goesTo x (x.pc + 1) with tplane := p.toNat, trigcnt := 0 })
    ∧ becomes .accept (waitsIn x .drain false)
    ∧ (∀ k cc who, s.take x.tid = some k → k.tid = x.tid → k.source = .call cc who → cc ≠ c → (s.ctx cc).tid = who →
      (s.ctx cc).state = .call → (s.ctx cc).childDone = 0 →
      completes .sret s fun t => (t.ctx cc).childDone = 3
        ∧ t.ctx c = { waitsIn x .drain false with caller := none })
    ∧ (∀ (n : BitVec 6) (lit : BitVec 32),
      (s.launchRegion c n.toNat = none → fails (.scall n lit) 0x0809 ∧ fails (.spawn n lit) 0x0809)
      ∧ ∀ r l, s.launchRegion c n.toNat = some (r, l) →
        let asked := fun (i : Instr) (src : Source) (y : Ctx) => completes i s fun t =>
          t = { s with ctxs := t.ctxs, dies := t.dies }
          ∧ (∃ h : Held, (t.die r.die).held = (s.die r.die).held ++ [h] ∧ h.released = true ∧ h.job = r.job
            ∧ h.source = src ∧ h.slate.region = l.region ∧ h.slate.entry = l.entry ∧ h.slate.prio = l.prio
            ∧ h.slate.args = [lit] ∧ h.slate.kind = 0)
          ∧ t.ctx c = y
        (s.shadowCtx c = false →
          asked (.scall n lit) (.call c x.tid) { x with state := .call, childDone := 0 }
          ∧ asked (.spawn n lit) .spawn (goesTo x (x.pc + 2)))
        ∧ (s.shadowCtx c = true →
          becomes (.scall n lit) { x with state := .call, childDone := x.early.headD 0, early := x.early.drop 1 }
          ∧ becomes (.spawn n lit) (goesTo x (x.pc + 2))))
    ∧ (∀ (d : BitVec 3) (sl w : BitVec 6) (k : Take), s.take x.tid = some k →
      let i := Instr.waitw d sl w
      let id := (d.toNat * 64 + sl.toNat) * 64 + w.toNat
      (s.ownsWindow k.job id = false → fails i 0x080A)
      ∧ (s.ownsWindow k.job id = true → (s.win id).state = .triggered → becomes i (goesTo x (x.pc + 1)))
      ∧ (s.ownsWindow k.job id = true → (s.win id).state ≠ .triggered → completes i s fun t =>
        t.ctx c = { x with state := .window, waitWin := id, waitHit := false } ∧ ∀ q, q ≠ c → t.ctx q = s.ctx q))
    ∧ (∀ src : BitVec 1,
      let told := fun (want : Coord) => completes (.kill src) s fun t =>
        let h := match x.horizon with
          | some old => if want.lt old = true then want else old
          | none => want
        t.ctx c = { goesTo x (x.pc + 1) with horizon := some h, killing := (s.groupPids x.region != []), sent := (t.ctx c).sent }
        ∧ ((∀ r ∈ s.group x.region, r.saved = []) → (t.ctx c).sent = x.sent)
        ∧ (∀ r ∈ s.group x.region, s.region r.key = some r → ∀ r', t.region r.key = some r' →
            ∀ cell ∈ r'.saved, ∀ k ∈ cell.plane.tokens, ¬(k.tid = x.tid ∧ h.lt k.coord = true))
        ∧ (t.core (c / 16)).killQ = (s.core (c / 16)).killQ ++ (s.groupPids x.region).map (fun q => (q, x.tid, h))
        ∧ t.take x.tid = (s.take x.tid).map fun k => { k with killed := some h }
      (src = 0 → told x.coord)
      ∧ ∀ r n, src = 1 → s.headRing c = some r → x.lastSlot = some n → told {
          seq := (s.gran r n).extractLsb' 0 32, grp := (s.gran r n).extractLsb' 32 32
          row := (s.gran r n).extractLsb' 64 32 })

/-- R178, R181, R192, R194, R197: a slot that becomes visible ends a context's blind wait; a decision that can never see
its slot mismatches; a mismatch is recorded, syncs, forwards its granules and resumes, or fails its take; a call returns;
a triggered window lets WAITW go on. -/
def Obligations.ParseContextEvents : Prop :=
  ∀ (core n : Nat) (s : State),
    let c := core * 16 + n
    let x := s.ctx c
    let becomes := fun (i : Instr) (y : Ctx) => completes i s fun t =>
      t = { s with ctxs := t.ctxs } ∧ (∀ q, q ≠ c → t.ctx q = s.ctx q) ∧ t.ctx c = y
    (x.blind = true → (x.state = .decide ∨ x.state = .scan) → s.scanShows c = true →
      becomes (.headSlotVisible core n) { x with blind := false })
    ∧ (∀ r, s.headRing c = some r → x.state = .decide → x.blind = true → r.free = 0 → r.reclaim < r.tail →
      sideColour (s.side r r.reclaim) = s.ctxColour c → x.pos ≤ r.reclaim →
      completes (.lookstarve core n) s fun t => mismatched x (t.ctx c) 0x0802 x.pos)
    ∧ (x.state = .call → (x.childDone = 1 ∨ x.childDone = 3) →
      becomes (.callReturn core n) { goesTo x (x.pc + 2) with childDone := 0 })
    ∧ (x.state = .call → x.childDone = 2 →
      completes (.callReturn core n) s fun t => mismatched x (t.ctx c) 0x0805 x.pos)
    ∧ (x.state = .window → x.waitHit = true → completes (.waitwWake core n) s fun t =>
      t = { s with ctxs := t.ctxs, jobs := t.jobs } ∧ (∀ q, q ≠ c → t.ctx q = s.ctx q) ∧ t.ctx c = goesTo x (x.pc + 1)
      ∧ ∀ k, (t.job k).map (fun j => { j with active := [] }) = (s.job k).map fun j => { j with active := [] })
    ∧ (x.state = .mismatch → s.clause c = none →
      completes (.scriptRecovery core n) s fun t => takeFails s t x.tid x.code)
    ∧ (∀ cl k, x.state = .mismatch → s.clause c = some cl → s.take x.tid = some k →
      completes (.scriptRecovery core n) s fun t =>
        (t.ctx c).state = .recover ∧ t.takes = s.takes ∧ (t.ctx c).pos = x.pos ∧ (t.ctx c).offend = x.offend)
    ∧ (∀ idx re l ho r ts m i, x.state = .recover → s.clause c = some (idx, re, l, false, ho) → x.synced = none →
      x.sent = 0 → s.headRing c = some r → s.ring r.key = some r → syncScan x.offend l (s.termsFrom c x.pos) = (ts, some m) →
      s.ntAt c re = some i →
      completes (.scriptRecovery core n) s fun t =>
        (t.ctx c).state = .run ∧ (t.ctx c).pc = i ∧ (t.ctx c).stack = x.stack.take x.depth0
        ∧ (∀ e, ts.getLast? = some e → (t.ctx c).pos = e.1 + 1)
        ∧ ∃ r', t.ring r.key = some r' ∧ ∀ e ∈ ts, ∀ y, find r'.slots e.1 = some y → y.retired = 0xFF)
    ∧ (∀ idx re l ho b r m i, (x.state = .recover ∨ x.state = .space ∧ s.scriptTries c = true) → s.clause c = some (idx, re, l,
      true, ho) → x.synced = some m →
      s.ctxHandle c x.tplane ho = some b → s.ringOf b = some r → r.granted = [] → r.queue = [] → 2 ≤ r.free → 1 ≤ r.lg →
      s.exits = [] → r.live ≠ 0 → s.ntAt c re = some i →
      completes (.scriptRecovery core n) s fun t =>
        (∃ r', t.ring b.key = some r' ∧ r'.tail = r.tail + 2 ∧ r'.isFilled r.tail = true ∧ r'.isFilled (r.tail + 1) = true)
        ∧ t.side r r.tail = mkSide 7 b.dtag 0 (s.ctxColour c)
        ∧ t.side r (r.tail + 1) = mkSide m b.dtag 0 (s.ctxColour c)
        ∧ (t.gran r r.tail).extractLsb' 0 32 = x.coordAt.seq ∧ t.gran r (r.tail + 1) = 0
        ∧ (t.ctx c).state = .run ∧ (t.ctx c).pc = i ∧ (t.ctx c).stack = x.stack.take x.depth0)

/-! ## Frontiers -/

/-- R283 to R285: FRONT starts a frontier on an idle unit and gives its name word; FDONE makes a point in flight done, and waits
while the plane of the frontier is evicted; FSAVE puts the unit in SAVING; FREST installs the frontier that a record
describes; every other outcome is a status. That the templates are read when FRONT or FREST executes, that BUSY is answered after the
descriptor is read, and that FSAVE of an idle unit is a wrong name, is log 33's. -/
def Obligations.FrontierInstructions : Prop :=
  ∀ (o : OpK) (s : State) (e : Tlb), s.rP o.g.toNat ^^^ o.gn = 1 →
    let va := (s.rS o.a.toNat).toNat
    let core := s.cur / 1024 * 16 + o.kreg.toNat % 16
    let fr := s.frontier core
    let status := fun (i : Instr) (code : Nat) => answersS i s o.d (BitVec.ofNat 64 (2 ^ 63 + code)) fun t => t.cores = s.cores
    let word := fun (ticket : Nat) => BitVec.ofNat 64 (core % 16 + ticket % 256 * 256)
    let starts := fun (i : Instr) (f : Frontier) (P : Frontier → Prop) =>
      s.streamOk f.desc = true → readsLine s e (frTmpl f.desc) →
      (frBoundary f.desc = true → readsLine s e (frBtmpl f.desc)) → frBtmpl f.desc < 2 ^ 52 →
      let w := lineAt s e (frTmpl f.desc)
      let b := lineAt s e (frBtmpl f.desc)
      let ok := s.templateOk (s.cur / 1024) s.pl.job
      (ok w = true → (frBoundary f.desc = true → ok b = true) → answersS i s o.d (word (fr.ticket + 1)) fun t =>
        P (t.frontier core)
        ∧ (∀ q, f.isDone q = true → (t.frontier core).isDone q = true)
        ∧ (t.frontier core).ticket = (fr.ticket + 1) % 256
        ∧ (t.frontier core).job = s.pl.job ∧ (t.frontier core).region = s.pl.owner
        ∧ (t.frontier core).tid = s.pl.firing.tid ∧ (t.frontier core).colour = s.pl.firing.colour
        ∧ (t.frontier core).tmpl = slateOf w ∧ (t.frontier core).flight = [] ∧ (t.frontier core).desc = f.desc
        ∧ (t.frontier core).btmpl = (if frBoundary f.desc = true then slateOf b else {})
        ∧ (t.frontier core).strm = (if frOpen f.desc = true then s.bindingOf (w64 (frStream f.desc)) else none))
    ((va % 64 ≠ 0 ∨ 2 ^ 52 ≤ va) → ∀ i ∈ [Instr.front o, .fsave o, .frest o],
      exec i s = .next (s.trapAt s.cur 3 (w64 s.pc) (s.rS o.a.toNat) 0))
    ∧ (readsLine s e va →
      let d := lineAt s e va
      (fr.state ≠ .idle → status (.front o) 1)
      ∧ (fr.state = .idle → (frOk d false = false ∨ s.streamOk d = false) → status (.front o) 2)
      ∧ (fr.state = .idle → frOk d false = true → nothingWaits s →
        starts (.front o) { state := .run, desc := d } (fun f => f.state = .run ∧ f.rows = [] ∧ f.rowlo = 0)
        ∧ (s.streamOk d = true → frBtmpl d < 2 ^ 52 → readsLine s e (frTmpl d) →
          s.templateOk (s.cur / 1024) s.pl.job (lineAt s e (frTmpl d)) = false → status (.front o) 2)))
    ∧ (readsLine s e va → readsLine s e (va + 64) → nothingWaits s →
      let size := 128 + 8 * fld (lineAt s e (va + 64)) 32 16 + 16 * fld (lineAt s e (va + 64)) 48 16
      (fr.state ≠ .idle → status (.frest o) 1)
      ∧ (fr.state = .idle → 98432 < size → status (.frest o) 3)
      ∧ (fr.state = .idle → size ≤ 98432 → (∀ a, va ≤ a → a < va + size → e.covers (s.asid s.pl.job) a = true) →
        s.rangeBad s.pl.job va size = false →
        (frOf (s.bytesVa s.pl.job va size) = none → status (.frest o) 3)
        ∧ ∀ f, frOf (s.bytesVa s.pl.job va size) = some f →
          starts (.frest o) f fun x => x.state = f.state))
    ∧ (s.released = true → s.pl.acquired s.pl.firing.fid = true → s.pl.memq = [] → s.pl.stash = [] →
      let name := (s.rS o.d.toNat).toNat
      let unit := s.cur / 1024 * 16 + name % 16
      let f := s.frontier unit
      let named := name = (name % 16 + f.ticket * 256) % 2 ^ 64 ∧ f.job = s.pl.job
      let p := (va % 2 ^ 21, va / 2 ^ 21 % 2 ^ 21, va / 2 ^ 42 % 2 ^ 21)
      (¬named → answersS (.fdone o) s o.d 2 fun t => t.cores = s.cores)
      ∧ (named → s.frFrozen unit = true → exec (.fdone o) s = .next (s.hold .retry 0))
      ∧ (named → s.frFrozen unit = false →
        ((f.state = .idle ∨ p ∉ f.flight) → answersS (.fdone o) s o.d 1 fun t => t.cores = s.cores)
        ∧ (f.state ≠ .idle → p ∈ f.flight → (f.row (f.rowOf p)).pfx ≤ p.1 → p.1 < (f.row (f.rowOf p)).pfx + 64 →
          answersS (.fdone o) s o.d 0 fun t =>
            (t.frontier unit).isDone p = true ∧ (∀ q, f.isDone q = true → (t.frontier unit).isDone q = true)
            ∧ (t.frontier unit).flight = f.flight.erase p ∧ (t.frontier unit).state = f.state))
      ∧ (va % 64 = 0 → va < 2 ^ 52 → (¬named ∨ f.state = .idle) → status (.fsave o) 2)
      ∧ (va % 64 = 0 → va < 2 ^ 52 → named → f.state ≠ .idle → f.state ≠ .saving →
        (s.slice (translatingSlice s.cur)).tlb = [e] → e.pte.getLsbD 2 = true →
        (∀ a, va ≤ a → a < va + 98432 → e.covers (s.asid s.pl.job) a = true) →
        completes (.fsave o) s fun t =>
          t.pl.firing = { s.pl.firing with wait := .save, waitArg := 0 } ∧ t.pl.regs = s.pl.regs
          ∧ (∀ a, t.byte a = s.byte a)
          ∧ t.frontier unit = { f with
              state := .saving, wasFault := (f.state == .fault), saveVa := va, saveStop := o.imm.getLsbD 0
              saveFid := s.pl.firing.fid, saveTid := s.pl.firing.tid, saveD := o.d.toNat }))

/-- R279 to R284: the unit asks for the lowest issuable point and for boundary takes, and faults where rule 2 forbids a
predecessor; a slot of its ring extends or closes the open extent; when every point is done it is idle and decrements its
counter; when nothing is in flight a save writes its record. That FRBOUND fails the take that executed FRONT, and the record of an
extent that is still open, is log 33's. -/
def Obligations.FrontierUnitEvents : Prop :=
  (∀ (core : Nat) (s : State),
    let f := s.frontier core
    let asks := fun (t : State) (x : Slate) (extra : Nat) (p : Nat × Nat × Nat) (src : Source) =>
      (∃ h : Held, (t.die (core / 16)).held = (s.die (core / 16)).held ++ [h] ∧ h.job = f.job ∧ h.released = true
        ∧ h.source = src ∧ h.slate = { x with args := x.args.take 2 ++ [BitVec.ofNat 32 (core % 16 + f.ticket * 256 + extra),
            BitVec.ofNat 32 p.1, BitVec.ofNat 32 p.2.1, BitVec.ofNat 32 p.2.2] })
      ∧ ∀ a, t.byte a = s.byte a
    (f.state = .run → s.frFrozen core = false → f.forbidden = false →
      (∀ p, f.candidates.find? f.issuable = some p → f.flight.length ≤ fld f.desc 16 8 →
        completes (.frontierIssue core) s fun t =>
          asks t f.tmpl 0 p (.point core f.ticket p.1 p.2.1 p.2.2)
          ∧ t.frontier core = { f with flight := f.flight ++ [p] })
      ∧ (∀ i0 i1 i2 v, f.boundaryDue = some (i0, i1, i2, v) → f.bOut.length < 64 →
        completes (.boundaryTake core) s fun t =>
          asks t f.btmpl (2 ^ 16 + v * 2 ^ 17) (i0, i1, i2) (.boundary core f.ticket i0 i1 i2 v)
          ∧ t.frontier core = { f with bOut := f.bOut ++ [(i0, i1, i2, v)] }))
    ∧ ((f.state = .run ∨ f.state = .saving) → s.frFrozen core = false → f.forbidden = true → f.wasFault = false →
      completes (.frontierIssue core) s fun t => takeFails s t f.tid 0x0901
        ∧ (f.state = .run → (t.frontier core).state = .fault)
        ∧ (f.state = .saving → (t.frontier core).state = .saving ∧ (t.frontier core).wasFault = true))
    ∧ (∀ b r n, f.state ≠ .idle → f.closed = false → frOpen f.desc = true → s.frFrozen core = false → f.strm = some b →
      s.ringOf b = some r → r.isLive b.branch = true → s.window r b.branch f.colour 1 = some [n] →
      let m := sideMark (s.side r n)
      let close := frClvl f.desc ≤ markLevel m
      completes (.frontierStreamSlot core) s fun t =>
        (t.frontier core).k =
          (if frGlvl f.desc ≤ markLevel m then min (f.k + 1) (frExt f.desc (frDims f.desc - 1)) else f.k)
        ∧ ((t.frontier core).closed = true ↔ close) ∧ (t.frontier core).flight = f.flight
        ∧ (close → ∀ r', t.ring b.key = some r' → r'.live = r.live &&& ~~~(1#8 <<< b.branch)
          ∧ ∀ x, find r'.slots n = some x → x.gone b.branch = true)
        ∧ (¬close → ∃ r', t.ring b.key = some r' ∧ r'.live = r.live
          ∧ ∀ k, find r'.slots k = (find r.slots k).map fun x =>
              if k = n then { x with retired := x.retired ||| (1#8 <<< b.branch) } else x))
    ∧ (f.state = .run → s.frFrozen core = false → (f.closed = true ∨ frOpen f.desc = false) → f.nrows ≤ f.rowlo →
      completes (.frontierComplete core) s fun t =>
        t.frontier core = { f with state := .idle }
        ∧ (2 ^ 15 ≤ fld f.desc 224 16 →
          let n := fld f.desc 224 16 % 4096
          (look 0 (t.die (core / 16)).deps n).toNat = (look 0 (s.die (core / 16)).deps n).toNat - 1)
        ∧ (fld f.desc 224 16 < 2 ^ 15 → t.dies = s.dies))
    ∧ (∀ pid p, f.state = .saving → f.flight = [] → f.bOut = [] → s.frFrozen core = false → s.planes = [(pid, p)] →
      p.running = true → p.firing.fid = f.saveFid → p.firing.wait = .save → s.take f.saveTid = none → p.stash = [] →
      (f.wasFault = true ∨ f.forbidden = false) → s.rangeWaits f.job f.saveVa (f.bytes f.wasFault).length = false →
      let bs := f.bytes f.wasFault
      completes (.frontierSaveDone core) s fun t =>
        (t.frontier core).state = (if f.saveStop = true then .idle else if f.wasFault = true then .fault else .run)
        ∧ (t.plane pid).regs.rS f.saveD = (if f.saveD = 0 then 0 else BitVec.ofNat 64 bs.length)
        ∧ (t.plane pid).firing.pc = p.firing.pc + 1 ∧ (t.plane pid).firing.wait = .none
        ∧ ∀ a, t.byte a = (State.storeLines f.job f.saveTid (pid + 1) (bs.length / 64 + 1) s f.saveVa bs).byte a))
  ∧ (∀ (f : Frontier) (r : Nat) (x : FrRow), f.rows = [(r, x)] → r = f.rowlo → x.bitmap ≠ 0 → frOpen f.desc = false →
    f.bytes false = leBytes 64 f.desc.toNat ++ leBytes 4 f.rowlo ++ leBytes 2 1 ++ leBytes 2 1 ++ leBytes 56 0
      ++ leBytes 2 0 ++ leBytes 2 1 ++ leBytes 4 x.pfx ++ leBytes 8 0 ++ leBytes 8 x.bitmap.toNat)

/-! ## Streamers -/

/-- R228, R230, R246, R247, R249, R250, R251: SPROG, SREQ, SCFG and SSTOP take the context's next number, which S[D]
receives; a request that the context cannot take completes with its error; a context of another job gives all ones;
SLAYOUT checks a layout record and stores it. SSTOP ends a point that is being written; the mark that a BAD granule is followed by
is still owed. That an SPROG queues at a context that is not IDLE, and that a FLUSH pushes nothing before a program is decoded, is log
17's. -/
def Obligations.StreamerRequests : Prop :=
  ∀ (o : OpK) (s : State), s.rP o.g.toNat ^^^ o.gn = 1 → s.shadowed = false →
    let sc := (s.cur / 1024 * 64 + o.kreg.toNat / 64 % 64) * 32 + o.kreg.toNat % 16
    let st := s.stream sc
    let f := s.pl.firing
    let mine := st.job = s.pl.job ∧ st.job ≠ 0
    let a := s.rS o.a.toNat
    let holds := st.state = .held ∨ (st.state = .walk ∧ st.prog.hold = true)
    let numbered := fun (i : Instr) (P : State → Prop) => answersS i s o.d (w64 st.nextNum) fun t =>
      (∀ x, x ≠ sc → t.stream x = s.stream x) ∧ P t
    let adds := fun (i : Instr) (kind : Nat) (P : StrOp → Prop) =>
      numbered i fun t => ∃ x : StrOp, t.stream sc = { st with
          state := if kind = 0 ∧ st.state = .idle ∧ st.ops = [] then .load else st.state
          prog := if kind = 0 ∧ st.state = .idle ∧ st.ops = [] then {} else st.prog
          nextNum := st.nextNum + 1, ops := st.ops ++ [x] }
        ∧ x.num = st.nextNum ∧ x.kind = kind ∧ x.tid = f.tid ∧ x.fid = f.fid ∧ x.pid = s.cur ∧ x.colour = f.colour
        ∧ x.upTo = s.serial ∧ P x
    let queued := st.ops.filter fun x => x.kind == 1 && !x.fin && !(st.state == .walk && st.current == some x)
    (a.toNat % 64 ≠ 0 → exec (.sprog o) s = .next (s.trapAt s.cur 3 (w64 s.pc) a 0))
    ∧ (s.pl.acquired f.fid = true → ¬mine →
      (∀ i ∈ [Instr.sreq o, .scfg o, .sstop o], answersS i s o.d (BitVec.allOnes 64) fun t => t.slices = s.slices)
      ∧ (a.toNat % 64 = 0 → answersS (.sprog o) s o.d (BitVec.allOnes 64) fun t => t.slices = s.slices))
    ∧ (s.pl.acquired f.fid = true → mine →
      (a.toNat % 64 = 0 →
        adds (.sprog o) 0 fun x => x.word = a ∧ x.fin = false)
      ∧ (¬holds → adds (.sreq o) 1 (fun x => x.fin = true ∧ x.err = 0x0D05)
        ∧ adds (.scfg o) 2 (fun x => x.fin = true ∧ x.err = 0x0D07))
      ∧ (holds → queued.length < 8 → adds (.sreq o) 1 fun x =>
        x.fin = false ∧ x.packet = (s.rV o.a.toNat).extractLsb' 0 512)
      ∧ (holds → 8 ≤ queued.length → exec (.sreq o) s = .next (s.hold .retry 0))
      ∧ (holds → adds (.scfg o) 2 fun x => x.fin = false ∧ x.word = a)
      ∧ (∀ r, st.state = .walk → (∀ y, st.current = some y → y.kind ≠ 3) → st.walk.sectors ≠ [] → s.strRing sc = some r →
        s.strMiss sc 4 (st.walk.sectors.map Prod.fst) = none → completes (.sstop o) s fun t =>
          (t.stream sc).state = .idle ∧ (t.stream sc).walk.sectors = [] ∧ (t.stream sc).granules = st.granules + 1
          ∧ (o.d ≠ 0 → t.rS o.d.toNat = w64 st.nextNum))
      ∧ ((∀ e ∈ s.rings, e.2.queue = [] ∧ e.2.granted = []) → st.walk.sectors = [] → numbered (.sstop o) fun t =>
        (t.stream sc).state = .idle ∧ (t.stream sc).walk.active = false
        ∧ (t.stream sc).owed = (match st.walk.follow with | some m => some (m, st.colour, s.strTid sc) | none => st.owed)
        ∧ ∃ l x, (t.stream sc).ops = l ++ [x] ∧ l.length = st.ops.length ∧ (∀ y ∈ l, y.kind ≠ 3 → y.fin = true)
          ∧ x.kind = 3 ∧ x.num = st.nextNum ∧ x.fin = !x.flush
          ∧ (x.flush = true ↔
            o.imm.getLsbD 0 = true ∧ st.state ≠ .idle ∧ st.prog.ring.isSome = true ∧ st.prog.src = false)))
    ∧ (let ea := s.rS (o.kreg.toNat % 32)
      let r := (s.rV o.a.toNat).extractLsb' 0 512
      ((ea.toNat % 64 ≠ 0 ∨ 2 ^ 52 ≤ ea.toNat) → exec (.slayout o) s = .next (s.trapAt s.cur 3 (w64 s.pc) ea 0))
      ∧ (ea.toNat % 64 = 0 → ea.toNat < 2 ^ 52 →
        (∀ sub, layoutBad r = some sub → exec (.slayout o) s = .next (s.trapAt s.cur 7 (w64 s.pc) (w64 sub) 0))
        ∧ (∀ e, layoutBad r = none → s.pl.acquired f.fid = true → s.pl.memq.length < 64 → s.pl.stash = [] →
          s.tlbFind (translatingSlice s.cur) (s.asid s.pl.job) ea.toNat true = some e →
          s.farRoom s.cur (physOf e.pte e.level ea.toNat).die 256 = true →
          accesses (.slayout o) s (physOf e.pte e.level ea.toNat) ea.toNat 64
            (fun _ m => m.kind = .store ∧ m.data = leBytes 64 r.toNat ∧ m.ord = 0 ∧ m.sc = 3)
            (fun t => t.pl.regs = s.pl.regs))))

/-- R229 to R243, R248, R254: a context loads its program or reports BADPROG; a request starts a walk or completes with its
error; a point of a read walk is pushed with its mark, one of a write walk is written sector by sector; an SSTOP with FLUSH
pushes its EOT granule, and before it the mark that a stopped walk owes; a finished walk completes its operation; a serviced fault
lets the context go on. The free order of the sectors of a line, the turns of the contexts and WALKS counting complete walks alone are
log 17's. -/
def Obligations.StreamWalks : Prop :=
  ∀ (slice ctx : Nat) (s : State) (e : Tlb) (o : StrOp) (rest : List StrOp),
    let sc := slice * 32 + ctx
    let st := s.stream sc
    let at_ := fun (va : Nat) => (physOf e.pte e.level va).key
    let reads := fun (va n : Nat) =>
      (∀ x, va / 64 * 64 ≤ x → x < va + n → e.covers (s.asid st.job) x = true) ∧ va + n < 2 ^ 52 ∧ s.poison = []
      ∧ (∀ d, (s.die d).fenced = false)
    let headDone := fun (t : State) (err : Nat) => ∃ y, (t.stream sc).ops = y :: rest ∧ y.fin = true ∧ y.err = err
    ctx < 16 → (s.die (slice / 64)).fenced = false → st.ops = o :: rest → (∀ y ∈ rest, y.num ≠ o.num) →
      (s.slice slice).tlb = [e] → o.run = false →
    (s.plane o.pid).writesDone o.fid o.upTo = true → (s.plane o.pid).stash = [] → nothingWaits s →
    (let a := o.word.toNat
      let nw := s.num (at_ a) 2
      let first := s.num (at_ a + 2) 2
      let header := 1 ≤ nw ∧ first + nw ≤ 256 ∧ s.num (at_ a + 4) 4 = 0 ∧ s.num (at_ a + 8) 8 % 64 = 0
        ∧ s.num (at_ a + 8) 8 < 2 ^ 52 ∧ s.num (at_ a + 16) 48 = 0
      let ws := (List.range nw).map fun i => w64 (s.num (at_ (a + 64 + 8 * i)) 8)
      o.kind = 0 → o.fin = false → st.loaded = false → st.state = .load → a % 64 = 0 →
      (reads a 64 → ¬header → completes (.streamLoad slice ctx) s fun t =>
        headDone t 0x0D01 ∧ (t.stream sc).state = .idle)
      ∧ (reads a (64 + 8 * nw) → header →
        (∀ p i c, checkProg first ws = (p, some (i, c)) → completes (.streamLoad slice ctx) s fun t =>
          headDone t 0x0D01 ∧ (t.stream sc).state = .idle
          ∧ ∀ y, (t.stream sc).ops.head? = some y → y.extra = i % 2 ^ 16 + c * 2 ^ 16)
        ∧ (∀ p, checkProg first ws = (p, none) → completes (.streamLoad slice ctx) s fun t =>
          (t.stream sc).prog = p ∧ (t.stream sc).status = s.num (at_ a + 8) 8
          ∧ (t.stream sc).colour = o.colour ∧ (∀ b, t.byte b = s.byte b)
          ∧ (p.hold = true → (t.stream sc).state = .held ∧ headDone t 0)
          ∧ (p.hold = false → (t.stream sc).state = .walk ∧ (t.stream sc).loaded = true))))
    ∧ (o.kind = 1 → o.fin = false → st.state = .held → st.walk.active = false →
      let p := o.packet
      let n := fld p 16 16
      (packetOk p = false → completes (.streamWalkStart slice ctx) s fun t => headDone t 0x0D06)
      ∧ (packetOk p = true → s.progRing sc = none → s.strAway sc = false →
        completes (.streamWalkStart slice ctx) s fun t => headDone t 0x0D08)
      ∧ (∀ r, packetOk p = true → fld p 0 8 = 1 → s.progRing sc = some r → countedOf (gatherDims st.prog n) = [] →
        completes (.streamWalkStart slice ctx) s fun t =>
          let w := (t.stream sc).walk
          (t.stream sc).state = .walk ∧ w.active = true ∧ w.q = 0 ∧ w.base = fld p 64 64
          ∧ w.gather = some ((List.range n).map fun j => (BitVec.ofNat 32 (fld p (128 + 32 * j) 32)).toInt)
          ∧ (w.dims.map Dim.ext)[1]? = some n ∧ (t.stream sc).prog = st.prog))
    ∧ (∀ stag ptag rm sat bit n r,
      let w := st.walk
      let ws := widthOf w.stag
      let wp := widthOf ptag
      let a := wrap52 (bit / 8)
      let sh := (bit % 8).toNat
      st.state = .walk → w.active = true → o.fin = false → o.kind ≠ 3 → st.prog.fmt = some (stag, ptag, rm, sat) →
      w.finished = false → w.box = none → w.idxAddrs = [] → w.follow = none → w.lines = [] → w.ahead = [] → w.sectors = [] →
      st.flushing = none → st.owed = none →
      w.nestPoint st.prog.limit (512 / wp) [] = .run bit n → a % min (64 * ws / wp) 64 = 0 → w.clampBad = false →
      s.strRing sc = some r → r.key = s.strKey sc →
      (st.prog.src = false → grantsOne s r (.stream sc) → itsTurn s slice ctx →
        reads a ((sh + n * ws + 7) / 8) → 0 < n * ws →
        let v := leNat ((List.range ((sh + n * ws + 7) / 8)).map fun i => s.byte (at_ (a + i))) / 2 ^ sh
        completes (.streamPointPush slice ctx) s fun t =>
          t.gran r r.tail = BitVec.ofNat 512 (joinElems wp (convert w.stag ptag rm sat (splitElems ws n v)))
          ∧ t.side r r.tail = mkSide (w.markAt st.prog.eotf) ptag 0 st.colour
          ∧ (∃ r', t.ring r.key = some r' ∧ r'.tail = r.tail + 1 ∧ r'.isFilled r.tail = true)
          ∧ (t.stream sc).walk.q = w.q + 1 ∧ (t.stream sc).granules = st.granules + 1
          ∧ ∀ b, t.byte b = s.byte b)
      ∧ (∀ k side data, st.prog.src = true → st.current = some o → s.srcSlot r st.prog.branch st.colour = .slot k side data →
        sh = 0 → e.pte.getLsbD 2 = true → (∀ q ∈ s.planes, q.2.stash = []) → (∀ q ∈ s.slices, q.2.wins = []) →
        let m := min (8 * (if sideValid side = 0 then 64 else sideValid side) / wp) n
        let len := (m * ws + 7) / 8
        let out := joinElems ws (convert ptag w.stag rm sat (splitElems wp m data.toNat))
        let secs := sectorsOf a (leBytes len out)
        reads a len → 0 < len →
        (a % 32 + len ≤ 32 → itsTurn s slice ctx → completes (.streamPointWrite slice ctx) s fun t =>
          (∀ b, t.byte b = if at_ a ≤ b ∧ b < at_ a + len then BitVec.ofNat 8 (out / 2 ^ (8 * (b - at_ a))) else s.byte b)
          ∧ (t.stream sc).walk.q = w.q + 1 ∧ (t.stream sc).granules = st.granules + 1)
        ∧ (32 < a % 32 + len → completes (.streamPointWrite slice ctx) s fun t => ∃ x ∈ secs,
          (∀ b, t.byte b = if at_ x.1 ≤ b ∧ b < at_ x.1 + x.2.length then x.2.getD (b - at_ x.1) 0 else s.byte b)
          ∧ (t.stream sc).walk.sectors = secs.erase x ∧ (t.stream sc).walk.q = w.q
          ∧ (t.stream sc).granules = st.granules)))
    ∧ (∀ x r stag ptag rm sat, st.flushing = some x → s.opReady x = true → (s.plane x.pid).stash = [] →
      st.prog.fmt = some (stag, ptag, rm, sat) → s.strRing sc = some r → r.key = s.strKey sc → grantsOne s r (.stream sc) →
      itsTurn s slice ctx → (∀ y ∈ st.ops, y.num = x.num → y = x) → st.owed = none →
      completes (.streamPointPush slice ctx) s fun t =>
        t.gran r r.tail = 0
        ∧ t.side r r.tail = mkSide 4 ptag 0 (match st.prog.ring with | some (c, true, _) => c | _ => x.colour)
        ∧ (∃ r', t.ring r.key = some r' ∧ r'.tail = r.tail + 1 ∧ r'.isFilled r.tail = true)
        ∧ (t.stream sc).flushing = (st.ops.filter fun y => y != x).find? fun y => y.kind == 3 && y.flush && !y.fin)
    ∧ (∀ mark colour tid r stag ptag rm sat, st.owed = some (mark, colour, tid) → st.prog.fmt = some (stag, ptag, rm, sat) →
      s.strRing sc = some r → r.key = s.strKey sc → grantsOne s r (.stream sc) → itsTurn s slice ctx →
      completes (.streamPointPush slice ctx) s fun t =>
        t.gran r r.tail = 0 ∧ t.side r r.tail = mkSide mark ptag 0 colour
        ∧ (∃ r', t.ring r.key = some r' ∧ r'.tail = r.tail + 1 ∧ r'.isFilled r.tail = true)
        ∧ (t.stream sc).owed = none ∧ (t.stream sc).ops = st.ops)
    ∧ (st.state = .walk → st.walk.active = true → st.walk.finished = true → st.walk.follow = none → o.fin = false →
      st.flushing = none → st.owed = none → o.kind < 2 → o.err = 0 → st.status = 0 → st.prog.dctr = none →
      completes (.streamWalkEnd slice ctx) s fun t =>
        (t.stream sc).state = (if st.prog.hold = true then .held else .idle) ∧ (t.stream sc).ops = rest
        ∧ (t.stream sc).timeline = w64 o.num ∧ (t.stream sc).walks = st.walks + 1 ∧ (t.stream sc).walk.active = false)
    ∧ (st.state = .fault → (s.die (slice / 64)).misses = [] →
      completes (.streamServiceResume slice ctx) s fun t =>
        t.stream sc = { st with state := st.back, back := .idle, stalled := false })

/-! ## Messages -/

/-- R291, R300, R305, R312 to R315: XPUT and XGET read a descriptor and give its status or issue a message under the next
identifier; XRATE, XPATH and XSTAT read and write a class of the job's; XFLUSH waits for the take's messages. That XPUT and XGET on a
class that the job does not own answer 2^63 + 1 (R312), not the all ones of R291, and that XRATE ignores the bits that R305 calls
read-only, are the model's choices (log 35); that XPUT takes its bytes at one moment is log 59's. -/
def Obligations.MessageInstructions : Prop :=
  ∀ (o : OpK) (s : State) (e : Tlb), s.rP o.g.toNat ^^^ o.gn = 1 → s.shadowed = false →
    let va := (s.rS o.a.toNat).toNat
    let die := s.cur / 1024
    let c := o.kreg.toNat % 8
    let x := s.cls die c
    let v := s.rS o.a.toNat
    let mine := c ≠ 7 ∧ x.job = s.pl.job
    let code := fun (n : Nat) => BitVec.ofNat 64 (2 ^ 63 + n)
    let rate := BitVec.ofNat 64
      (x.quiet * 2 ^ 32 + x.thresh * 2 ^ 16 + x.mmax * 2 ^ 10 + x.mmin * 2 ^ 8 + (if x.adapt = true then 128 else 0) + x.m)
    let gives := fun (i : Instr) (w : Word) => answersS i s o.d w fun t => t.dies = s.dies ∧ t.msgs = s.msgs
    let statuses := fun (i : Instr) (get : Bool) (d : BitVec 512) (issues : Nat → Nat → Nat → Nat → Prop) =>
      let k := fld d 8 3
      let ep := fld d 32 22
      let dest := fld d 54 3
      let isMine := k ≠ 7 ∧ (s.cls die k).job = s.pl.job
      (¬isMine → gives i (code 1))
      ∧ (isMine → descBad d get = true → gives i (code 2))
      ∧ (isMine → descBad d get = false → s.destOk s.pl.job ep dest = false → gives i (code 3))
      ∧ (isMine → descBad d get = false → s.destOk s.pl.job ep dest = true →
        s.pathsFor die k (s.targetOf s.pl.job ep dest) = [] → gives i (code 4))
      ∧ (isMine → descBad d get = false → s.destOk s.pl.job ep dest = true →
        s.pathsFor die k (s.targetOf s.pl.job ep dest) ≠ [] → issues k ep dest (s.nextMsgid die ep dest))
    let issued := fun (i : Instr) (kind : Nat) (d : BitVec 512) (data : List Byte) (k ep dest id : Nat) =>
      answersS i s o.d (w64 id) fun t => s.nextMsgid die ep dest = id ∧ t.nextMsgid die ep dest = (id + 1) % 2 ^ 32
        ∧ ∃ m : Msg, t.msgs = s.msgs ++ [m] ∧ m.kind = kind ∧ m.msgid = id ∧ m.data = data ∧ m.len = fld d 16 16
          ∧ m.cls = k ∧ m.die = die ∧ m.dstEp = ep ∧ m.dstDie = dest ∧ m.raddr = fld d 64 64 ∧ m.laddr = fld d 128 64
          ∧ m.tid = s.pl.firing.tid ∧ m.job = s.pl.job ∧ m.mcode = (s.cls die k).m ∧ (m.ord = true ↔ d.getLsbD 2 = true)
          ∧ m.packed = false ∧ m.lostM = false
          ∧ ((ep ≠ s.pkg.endpoint ∨ dest ≠ die) → m.todo = List.range m.total ∧ m.decoded = false)
    ((va % 64 ≠ 0 ∨ 2 ^ 52 ≤ va) → ∀ i ∈ [Instr.xput o, .xget o], exec i s = .next (s.trapAt s.cur 3 (w64 s.pc) v 0))
    ∧ (readsLine s e va →
      let d := lineAt s e va
      statuses (.xget o) true d (fun k ep dest id => s.mayIssue die ep dest 64 = true →
        issued (.xget o) 1 d (leBytes 64 d.toNat) k ep dest id)
      ∧ statuses (.xput o) false d (fun k ep dest id =>
        let n := fld d 16 16
        let at_ := fld d 128 64
        s.mayIssue die ep dest n = true → nothingWaits s → s.rangeBad s.pl.job (at_ / 64 * 64) (n + at_ % 64) = false →
        (∀ a, at_ ≤ a → a < at_ + n → e.covers (s.asid s.pl.job) a = true) →
        issued (.xput o) 0 d (s.bytesVa s.pl.job at_ n) k ep dest id))
    ∧ (¬mine → ∀ i ∈ [Instr.xrateRead o, .xrateWrite o, .xpath o], gives i (BitVec.allOnes 64))
    ∧ (mine → gives (.xrateRead o) rate
      ∧ ((v.toNat % 4 < v.toNat / 2 ^ 8 % 4 ∨ v.toNat / 2 ^ 10 % 4 < v.toNat % 4 ∨ v.toNat / 2 ^ 32 % 2 ^ 16 = 0) →
        gives (.xrateWrite o) (code 2))
      ∧ (v.toNat / 2 ^ 8 % 4 ≤ v.toNat % 4 → v.toNat % 4 ≤ v.toNat / 2 ^ 10 % 4 → v.toNat / 2 ^ 32 % 2 ^ 16 ≠ 0 →
        answersS (.xrateWrite o) s o.d rate fun t => t.cls die c = { x with
          quiet := v.toNat / 2 ^ 32 % 2 ^ 16, thresh := v.toNat / 2 ^ 16 % 2 ^ 16, mmax := v.toNat / 2 ^ 10 % 4
          mmin := v.toNat / 2 ^ 8 % 4, adapt := v.getLsbD 7, m := v.toNat % 4 }
          ∧ ∀ k, k ≠ c → t.cls die k = s.cls die k)
      ∧ (let dest := v.toNat / 2 ^ 8 % 16
        let bad := 9 < dest ∨ 2 ^ 12 ≤ v.toNat ∨ (dest < 8 ∧ v.toNat / 2 ^ 4 % 16 ≠ 0)
        (bad → gives (.xpath o) (code 2))
        ∧ (¬bad → answersS (.xpath o) s o.d ((s.mask die c dest).setWidth 64) fun t =>
          t.mask die c dest = v.setWidth 8 ∧ ∀ q, q ≠ dest → t.mask die c q = s.mask die c q))
      ∧ (∀ n, o.kreg.toNat / 16 % 16 = n →
        let has := fun (w : Nat) => gives (.xstat o) (BitVec.ofNat 64 w)
        (n = 0 → has x.sent) ∧ (n = 1 → has x.lost) ∧ (n = 2 → has x.resent) ∧ (n = 3 → has x.spray)
        ∧ (n = 4 → has (x.m + (s.msgs.filter fun m => m.die == die && m.cls == c && m.unresolved).length % 8192 * 2 ^ 16))))
    ∧ (o.kreg.toNat / 16 % 16 = 5 → gives (.xstat o) (BitVec.ofNat 64 (s.die die).bufDropped))
    ∧ (o.kreg.toNat / 16 % 16 = 6 → gives (.xstat o) (BitVec.ofNat 64 (s.die die).lateDropped))
    ∧ ((∀ m ∈ s.msgs, m.tid = s.pl.firing.tid → m.kind ≤ 1 → m.packed = true ∨ m.lostM = true) →
      completes (.xflush o) s fun t => ranOn s t (s.pc + 1) [] [] [] [] false)
    ∧ (∀ m ∈ s.msgs, m.tid = s.pl.firing.tid → m.kind ≤ 1 → m.packed = false → m.lostM = false →
      exec (.xflush o) s = .next (s.hold .xflush s.serial))

/-- R294 to R303, R316: a message's next fragment comes to the first port of its path; each port that it leaves takes one from
HOPS and computes CHECK anew; one that arrives opens a slot, and the k-th decodes its message; the data fragments alone give the
message back; a decoded PUT or reply writes its bytes, a GET sends them back, and RACT and LCTR follow; what another package's
message writes goes on in messages of class 7, and performs with them (R297); PACK of an access of class 7 brings its value (R291);
DACK, PACK, NACK, LOSS, REJECT and ABORT do what R299 and R316 say at the source and the destination. That slice 0 of the
destination translates, that there is one message of class 7 for each page, how an access travels in one, and that a resent message
takes no second NACK are the model's (log 24); what comes from other packages and goes to them is as log 23 says, and the sectors of
a message perform in one step (log 59). -/
def Obligations.MessagesTravelAndPerform : Prop :=
  (∀ (s : State) (m : Msg), s.msgs = [m] → m.mid ≠ 0 →
    let own := s.pkg.endpoint
    let count := fun (u : State) (die n : Nat) => (look 0 (u.die die).timelines n).toNat
    let ctl := fun (idx n : Nat) (f : Frag) => s.wire[idx]? = some f ∧ f.ctl = n ∧ s.crosses f = true ∧ f.dstEp = own
      ∧ f.mid = m.mid
    (∀ n rest p, m.todo = n :: rest → m.paths[m.pos % m.paths.length]? = some p →
      let target := s.targetOf m.job m.dstEp m.dstDie
      completes (.fragmentSend 0) s fun t => (∃ f, t.wire = s.wire ++ [f]
        ∧ f.idx = n ∧ f.k = m.k ∧ f.hops = 16 ∧ f.msgid = m.msgid ∧ f.since = s.clk ∧ f.check = f.crc
        ∧ f.payload = BitVec.ofNat 2048 (leNat (m.fragBytes n))
        ∧ f.ports = portsTo m.die m.dstDie p (extPort target p (look 0 (s.die m.die).alternate p)))
        ∧ t.msgs = [{ m with todo := rest, pos := m.pos + 1, lastSent := s.clk }]
        ∧ (t.cls m.die m.cls).sent = (s.cls m.die m.cls).sent + 1)
    ∧ (∀ j i, j < m.k → i < 256 → (m.fragBytes j)[i]? = some ((m.data[256 * j + i]?).getD 0))
    ∧ (∀ x : Msg, recoverData x.k x.data.length ((List.range x.k).map fun j =>
        (j, BitVec.ofNat 2048 (leNat (x.fragBytes j)))) = x.data)
    ∧ (∀ idx f, s.wire[idx]? = some f → f.ports ≠ [] →
      completes (.fragmentDiscard idx) s fun t => t = { s with wire := s.wire.eraseIdx idx })
    ∧ (∀ idx f p q rest, s.wire[idx]? = some f → s.mayCross f = true → f.ports = p :: q :: rest →
      completes (.fragmentArrive (.inl idx)) s fun t => t.msgs = s.msgs ∧ ∃ g, t.wire = s.wire.eraseIdx idx ++ [g]
        ∧ g = { f with ports := q :: rest, hops := f.hops - 1, since := s.clk, check := g.crc })
    ∧ (∀ idx f, ctl idx 0 f → m.srcEp = own → (s.die m.dstDie).slots = [] → (s.die m.dstDie).srcs = [] →
      (f.k ≤ 1 → completes (.fragmentArrive (.inl idx)) s fun t =>
        t.msgs = [{ m with decoded := true }] ∧ (t.die m.dstDie).slots = [])
      ∧ (1 < f.k → completes (.fragmentArrive (.inl idx)) s fun t => t.msgs = [m]
        ∧ (t.die m.dstDie).slots = [{ port := m.msgid % 4, mid := m.mid, msgid := f.msgid, srcDie := f.die, k := f.k
                                      opened := s.clk, frags := [(f.idx, f.payload)] }]))
    ∧ (∀ x f, fragOf x.bytes = some f → f.srcEp ≠ own → f.dstEp = own → x.port ∉ s.pkg.extDown → s.job f.job = none →
      s.pathsFor f.dstDie f.cls (s.targetOf f.job f.srcEp f.die) ≠ [] →
      completes (.fragmentArrive (.inr x)) s fun t => t.msgs = s.msgs
        ∧ ∃ g ∈ t.wire, g.ctl = 8 ∧ g.arg = f.msgid ∧ g.dstEp = f.srcEp ∧ g.dstDie = f.die)
    ∧ (∀ e : Tlb, (s.slice (m.dstDie * 64)).tlb = [e] → e.pte.getLsbD 2 = true → m.len ≤ 4096 →
      1 ≤ m.len → (∀ a, m.raddr ≤ a → a < m.raddr + m.len → e.covers (s.asid m.job) a = true) → s.msgWaits m = false →
      (∀ q ∈ s.planes, q.2.stash = []) → (∀ q ∈ s.slices, q.2.wins = []) → s.mayPerform m = true →
      let at_ := (physOf e.pte e.level m.raddr).key
      let acted := fun (t : State) =>
        (m.ract = 1 → count t m.dstDie m.rctr = min (count s m.dstDie m.rctr + 1) (2 ^ 64 - 1))
        ∧ (m.ract = 2 → (look 0 (t.die m.dstDie).deps m.rctr).toNat = (look 0 (s.die m.dstDie).deps m.rctr).toNat - 1)
      let wrote := fun (t : State) => (∀ b, t.byte b =
          if at_ ≤ b ∧ b < at_ + m.len then (m.data[b - at_]?).getD 0 else s.byte b)
        ∧ ∃ m', t.msgs = [m'] ∧ m'.performed = true
      (m.kind = 0 → m.srcEp = own → m.data.length = m.len →
        completes (.messagePerform 0) s fun t => wrote t ∧ acted t)
      ∧ (m.kind = 1 → s.msgBad m m.raddr m.len = false → m.mid ≠ s.serial →
        s.mayIssue m.dstDie m.srcEp m.die m.len = true →
        (m.inside own = true ∨ s.pathsFor m.dstDie m.cls (s.targetOf m.job m.srcEp m.die) ≠ []) →
        completes (.messagePerform 0) s fun t => acted t ∧ (∀ b, t.byte b = s.byte b)
          ∧ ∃ m' r, t.msgs = [m', r] ∧ m'.performed = true ∧ r.kind = 3 ∧ r.raddr = m.laddr ∧ r.die = m.dstDie
            ∧ r.dstEp = m.srcEp ∧ r.dstDie = m.die ∧ r.cls = m.cls ∧ r.ord = m.ord ∧ r.tid = m.tid
            ∧ r.data = (List.range m.len).map fun i => s.byte (at_ + i))
      ∧ (m.kind = 3 → m.srcEp = own → m.data.length = m.len → completes (.getReplyPerform 0) s fun t => wrote t
        ∧ (m.lv = true → count t m.dstDie m.lctr = min (count s m.dstDie m.lctr + 1) (2 ^ 64 - 1)))
      ∧ (let cut := 65536 - m.raddr % 65536
        let parts := if m.len ≤ cut then [(m.raddr, m.data)] else [(m.raddr, m.data.take cut), (m.raddr + cut, m.data.drop cut)]
        let here := (s.decodes m).1
        let goes := fun (i : Instr) => m.srcEp ≠ own → m.data.length = m.len → m.mid < s.serial →
          (∀ x ∈ parts, let d := (physOf e.pte e.level x.1).die
            s.mayIssueAll parts.length here (if d < 8 then own else podEp (d / 8 - 1)) (d % 8) m.len = true) →
          completes i s fun t => (∀ b, t.byte b = s.byte b) ∧ ∃ l, t.msgs = { m with carried := true } :: l
            ∧ l.map (fun x => (x.raddr, x.data)) = parts
            ∧ ∀ x ∈ l, x.kind = 5 ∧ x.cls = 7 ∧ x.access = m.mid ∧ x.die = here ∧ x.performed = false
              ∧ (let p := physOf e.pte e.level x.raddr
                x.laddr = p.key ∧ x.dstDie = p.die % 8 ∧ x.dstEp = if p.die < 8 then own else podEp (p.die / 8 - 1))
        (m.kind = 0 → goes (.messagePerform 0)) ∧ (m.kind = 3 → goes (.getReplyPerform 0))))
    ∧ (∀ idx f, ctl idx 1 f → m.lostM = false → completes (.dack (.inl idx)) s fun t =>
      t.msgs = [{ m with dacked := true, todo := [] }])
    ∧ (∀ idx f, ctl idx 2 f → m.packed = false → m.lostM = false →
      (m.kind ≤ 3 → completes (.pack (.inl idx)) s fun t =>
        t.msgs = [{ m with dacked := true, packed := true, todo := [] }]
        ∧ (m.kind = 0 → m.lv = true → count t m.die m.lctr = min (count s m.die m.lctr + 1) (2 ^ 64 - 1)))
      ∧ (∀ o n v, m.kind = 4 → (s.plane m.pid).memq = [o] → o.isMsg m.pid m = true → o.got = some v → o.dst = .sreg n → n ≠ 0 →
        notParked s m.pid o.tid o.fid → completes (.pack (.inl idx)) s fun t =>
          t.msgs = [{ m with dacked := true, packed := true, todo := [] }] ∧ (t.plane m.pid).memq = []
          ∧ (t.plane m.pid).regs.rS n = BitVec.ofNat 64 v ∧ (∀ k, k ≠ n → (t.plane m.pid).regs.rS k = (s.plane m.pid).regs.rS k)
          ∧ ∀ b, t.byte b = s.byte b))
    ∧ (∀ idx f, ctl idx 3 f → m.dacked = false → m.resent = false → m.unresolved = true →
      let paths := s.pathsFor m.die m.cls (s.targetOf m.job m.dstEp m.dstDie)
      paths ≠ [] → completes (.nack (.inl idx)) s fun t => t.msgs = [{ m with
        paths, todo := f.list.filter (fun n => n < m.total), pos := 0, resent := true, lastSent := s.clk }])
    ∧ (∀ idx f k r entry, ctl idx 4 f → m.dacked = false → m.unresolved = true → m.kind ≠ 2 → m.kind ≠ 4 → s.take m.tid = some k →
      k.tid = m.tid → k.failing = false → k.colour ≠ 15 → s.region k.region = some r → r.place = .eligible →
      r.image.handler = some entry → completes (.loss (.inl idx)) s fun t =>
        t.msgs = [{ m with lostM := true, todo := [] }]
        ∧ ∃ k' x l r, t.take m.tid = some k' ∧ k'.isParked = true ∧ k.traps = l ++ r ∧ k'.traps = l ++ x :: r ∧ x.cause = 9
          ∧ x.info = BitVec.ofNat 64 (2 ^ 63 + m.cls % 8 * 2 ^ 56 + m.msgid))
    ∧ (∀ a : Answer, a.reject = true → a.ep ≠ own → m.srcEp = own → m.die = a.dstDie → m.dstEp = a.ep → m.dstDie = a.die →
      m.msgid = a.msgid → m.unresolved = true → m.todo.length < m.total → completes (.loss (.inr a)) s fun t =>
        t.msgs = [{ m with lostM := true, todo := [] }] ∧ takeFails s t m.tid 0x1707)
    ∧ (∀ idx f, ctl idx 5 f → m.decoded = false → m.srcEp = own → (s.die m.dstDie).srcs = [] →
      completes (.abort (.inl idx)) s fun t =>
        t.msgs = [{ m with aborted := true }] ∧ ∀ x ∈ (t.die m.dstDie).slots, x.mid ≠ m.mid)
    ∧ (∀ idx f, ctl idx 5 f → m.decoded = true → completes (.abort (.inl idx)) s fun t => t.msgs = [m]))
  ∧ (∀ (s : State) (x m : Msg), s.msgs = [x, m] → x.mid ≠ m.mid → m.access = x.mid → m.kind = 5 → x.kind ≠ 5 →
    s.mayPerform m = true → s.msgWaits m = false → m.data.length = m.len → 1 ≤ m.len → m.len ≤ 4096 →
    (∀ q ∈ s.planes, q.2.stash = []) → (∀ q ∈ s.slices, q.2.wins = []) →
    let count := fun (u : State) (n : Nat) => (look 0 (u.die x.dstDie).timelines n).toNat
    completes (.messagePerform 1) s fun t =>
      (∀ b, t.byte b = if m.laddr ≤ b ∧ b < m.laddr + m.len then (m.data[b - m.laddr]?).getD 0 else s.byte b)
      ∧ t.msgs = [{ x with counted := x.counted + m.counted, performed := true }, { m with performed := true }]
      ∧ (x.kind = 0 → x.ract = 1 → count t x.rctr = min (count s x.rctr + 1) (2 ^ 64 - 1))
      ∧ (x.kind = 3 → x.lv = true → count t x.lctr = min (count s x.lctr + 1) (2 ^ 64 - 1)))

/-- R298, R299, R308 to R310, R316: timeouts send NACK, discard slots, resend, send ABORT and raise a loss of unknown
outcome; idle entries expire; a silent link goes down; bridges send, claim, fill, and stop after a loss. That LINKDOWN counts from
the last crossing, and that its port 4 + x is the external port x, are the model's (log 35); so are the colour of claimed slots, the
retiring of them when the receiver stops and the break with no take (log 25), and TOUT's form (log 24). -/
def Obligations.MessageTimeoutsAndBridges : Prop :=
  (∀ (s : State) (m : Msg) (die : Nat) (x : RxSlot), s.msgs = [m] → (s.die die).slots = [x] → x.mid = m.mid →
    x.opened + (s.die die).tout ≤ s.clk → m.dstDie = die → m.srcEp = s.pkg.endpoint →
    let answered := fun (t : State) (ctl : Nat) (l : List Nat) =>
      s.pathsFor die m.cls m.die ≠ [] → m.die ≠ die → ∃ f ∈ t.wire, f.ctl = ctl ∧ f.mid = m.mid ∧ f.list = l ∧ f.dstDie = m.die
    (x.timeouts = 0 → completes (.nackTimeout die 0) s fun t =>
      (t.die die).slots = [{ x with timeouts := 1, opened := s.clk }]
      ∧ answered t 3 ((List.range m.total).filter fun n => !(x.frags.any fun g => g.1 == n)))
    ∧ (x.timeouts ≠ 0 → completes (.slotAbortTimeout die 0) s fun t =>
      (t.die die).slots = [] ∧ t.msgs = [{ m with aborted := true }] ∧ answered t 4 []))
  ∧ (∀ (s : State) (m : Msg), s.msgs = [m] → m.unresolved = true → m.dacked = false →
    let paths := s.pathsFor m.die m.cls (s.targetOf m.job m.dstEp m.dstDie)
    let late := m.todo = [] ∧ m.lastSent + 3 * (s.die m.die).tout ≤ s.clk
    (late → m.resent = false → paths ≠ [] → completes (.sourceResendTimeout 0) s fun t =>
      t.msgs = [{ m with paths, todo := List.range m.total, pos := 0, resent := true, lastSent := s.clk }])
    ∧ (late → m.resent = true → m.aborting = false → completes (.sourceAbortTimeout 0) s fun t =>
      t.msgs = [{ m with aborting := true, abortAt := s.clk }])
    ∧ (m.aborting = true → m.abortAt + 3 * (s.die m.die).tout ≤ s.clk → s.lossHeld m = false →
      completes (.abortUnanswered 0) s fun t => t.msgs = [{ m with lostM := true, todo := [] }]))
  ∧ (∀ (s : State) (die idx : Nat),
    (∀ e, (s.die die).dsts[idx]? = some e → e.last + 7200000 ≤ s.clk → completes (.entryExpire die idx) s fun t =>
      (t.die die).dsts = (s.die die).dsts.eraseIdx idx ∧ (t.die die).srcs = (s.die die).srcs)
    ∧ (∀ e, (s.die die).srcs[idx]? = some e → e.last + 3600000 ≤ s.clk →
      completes (.entryExpire die ((s.die die).dsts.length + idx)) s fun t =>
        (t.die die).srcs = (s.die die).srcs.eraseIdx idx ∧ (t.die die).dsts = (s.die die).dsts))
  ∧ (∀ (s : State) (die port : Nat) (f : Frag), s.wire = [f] →
    (port < 4 → f.ports.head? = some (.die die port) → (s.die die).portDown.getLsbD port = false →
      look 0 (s.die die).portLast port + 2 * (s.die die).tout ≤ s.clk → completes (.linkdown die port) s fun t =>
        (t.die die).portDown = (s.die die).portDown ||| (1#4 <<< port) ∧ t.wire = s.wire)
    ∧ (f.ports.head? = some (.ext port) → port ∉ s.pkg.extDown →
      look 0 s.pkg.extLast port + 2 * (s.die die).tout ≤ s.clk → completes (.linkdown die (4 + port)) s fun t =>
        t.pkg.extDown = s.pkg.extDown ++ [port] ∧ t.wire = s.wire))
  ∧ (∀ (s : State) (die n : Nat) (b : Bridge) (r q : Ring) (branch : Nat), s.bridge die n = some b → n < 64 →
    s.bridgeEnds die b = some ((r, branch), q) →
    (∀ ns marked, s.upToMark r b.flvl ((r.upNext branch).take (min 62 (b.grant - b.sent))) = (ns, marked) → ns ≠ [] →
      (marked = true ∨ ns.length = 62 ∨ b.sent + ns.length = b.grant
        ∨ ∃ n x, ns.head? = some n ∧ find r.slots n = some x ∧ max x.filledAt (look 0 r.since branch) + 64 ≤ s.clk) →
      b.stopped = false → b.lost = none →
      r.isLive branch = true → s.pathsFor die b.cls b.far ≠ [] →
      s.mayIssue die s.pkg.endpoint b.far (s.streamData r ns).length = true → s.ring r.key = some r →
      completes (.bridgeSend die n) s fun t =>
        (∃ m : Msg, t.msgs = s.msgs ++ [m] ∧ m.kind = 2 ∧ m.ord = true ∧ m.data = s.streamData r ns ∧ m.dstDie = b.far
          ∧ m.first = b.sent ∧ m.bridge = die * 64 + n)
        ∧ (t.bridge die n).map Bridge.sent = some (b.sent + ns.length)
        ∧ ∃ r', t.ring r.key = some r' ∧ ∀ i, find r'.slots i = (find r.slots i).map fun y =>
            if i ∈ ns then { y with retired := y.retired ||| (1#8 <<< branch) } else y)
    ∧ (let k := min (b.gwin - b.claimed.length) q.free
      b.ended = false → q.queue = [] → k ≠ 0 → s.ring q.key = some q → b.grantSent ≤ b.claimedCount →
      completes (.grant die n) s fun t =>
        (t.bridge die n).map (fun x => (x.claimed, x.claimedCount, x.grantSent)) =
          some (b.claimed ++ (List.range k).map (fun i => q.tail + i), b.claimedCount + k, b.claimedCount + k)
        ∧ ∃ q', t.ring q.key = some q' ∧ q'.tail = q.tail + k)
    ∧ (∀ m : Msg, s.msgs = [m] → m.kind = 2 → m.bridge = die * 64 + n → s.mayPerform m = true → b.ended = false →
      let k := (m.data.length - 128) / 64
      m.first = b.filledCount → k ≤ b.claimed.length → s.ring q.key = some q → q.live ≠ 0 → s.exits = [] →
      completes (.bridgeArrival die n) s fun t =>
        (t.bridge die n).map (fun x => (x.claimed, x.filledCount)) = some (b.claimed.drop k, b.filledCount + k)
        ∧ (∃ q', t.ring q.key = some q' ∧ ∀ i ∈ b.claimed.take k, ∀ y, find q'.slots i = some y → y.filled = true)
        ∧ t.msgs = [{ m with performed := true }])
    ∧ (∀ colour mid k, b.stopped = false → b.lost = some (colour, mid) →
      s.takeOf (regionKey b.job die (fld b.record 176 8)) colour = some k → s.take k.tid = some k →
      completes (.bridgebreak die n) s fun t =>
        (t.bridge die n).map Bridge.stopped = some true ∧ takeFails s t k.tid 0x1704)
    ∧ (∀ colour, b.lost = none → b.broken = some colour → b.ended = false → 2 ≤ b.claimed.length → s.exitFull q.key 2 = false →
      completes (.bridgebreak die n) s fun t =>
        (t.bridge die n).map (fun x => (x.ended, x.claimed)) = some (true, [])))

/-! ## Commands, the host, the package -/

/-- R205, R259, R271, R335, R339, R342, R364, R366 to R373, R377, R402: a malformed command gives BADCMD and one about no job
NOJOB; every other command does what the command set says and posts one entry, or is refused with its code. The order of the
words of a QUERY answer is the model's (log 26), and that an address without a record is a malformed image or patch is log 6's. A
command with QUIET set posts no entry when it is done; FAULTSVC with outcome 1 fails the take that waits. -/
def Obligations.Commands : Prop :=
  (∀ (c : Cmd) (s : State), linkFree s c.link → c.quiet = true →
    (c.shaped 12 = true → c.num 16 1 < 2 → completes (.ras c) s fun t =>
      t = { s with pkg := { s.pkg with rasPaired := (c.num 16 1 == 1) } })
    ∧ (c.shaped 12 = true → 2 ≤ c.num 16 1 → refused (.ras c) c s 0x1E01 0)
    ∧ (c.shaped 9 = true → c.job ≠ 0 → s.job c.job = none → refused (.attest c) c s 0x1E02 0)
    ∧ (∀ p, c.shaped 15 = true → find s.patches (c.num 16 8) = some p → p.good = true → p.length = c.num 24 4 →
      s.pkg.rollback ≤ p.version → completes (.patch c) s fun t => t = { s with pkg := { s.pkg with flash := some p } }))
  ∧ (∀ (c : Cmd) (s : State), linkFree s c.link → c.quiet = false →
    let ok := fun (op : Nat) => c.shaped op = true
    let clean := ∀ q ∈ s.planes, q.2.stash = [] ∧ q.2.memq = []
    let wrote := fun (t : State) (a : Nat) (bs : List Byte) => ∀ b, t.byte b =
      if hostKey a ≤ b ∧ b < hostKey a + bs.length then bs.getD (b - hostKey a) 0 else s.byte b
    let all : List (Instr × Nat) := [(.admitJob c, 2), (.cancel c, 3), (.map c, 4), (.faultsvc c, 5), (.pload c, 6),
      (.qreg c, 7), (.query c, 8), (.attest c, 9), (.reset c, 10), (.power c, 11), (.ras c, 12), (.resume c, 13),
      (.apmap c, 14), (.patch c, 15)]
    let ofJob : List (Instr × Nat) := [(.cancel c, 3), (.map c, 4), (.faultsvc c, 5), (.pload c, 6), (.qreg c, 7), (.resume c, 13)]
    (∀ i ∈ all, c.shaped i.2 = false → refused i.1 c s 0x1E01 0)
    ∧ (s.job c.job = none → ∀ i ∈ ofJob, c.shaped i.2 = true → refused i.1 c s 0x1E02 0)
    ∧ (ok 15 →
      (find s.patches (c.num 16 8) = none → refused (.patch c) c s 0x1E05 0)
      ∧ ∀ p, find s.patches (c.num 16 8) = some p →
        ((p.good = false ∨ p.length ≠ c.num 24 4) → refused (.patch c) c s 0x1E05 0)
        ∧ (p.good = true → p.length = c.num 24 4 → p.version < s.pkg.rollback → refused (.patch c) c s 0x1E06 0)
        ∧ (p.good = true → p.length = c.num 24 4 → s.pkg.rollback ≤ p.version → ends (.patch c) c s 0 0 fun t =>
          t.pkg = { s.pkg with flash := some p }))
    ∧ (ok 14 →
      let g := c.num 16 1
      let base := c.num 24 8
      ((64 ≤ g ∨ base % 2 ^ 34 ≠ 0 ∨ 2 ^ 52 ≤ base) → refused (.apmap c) c s 0x1E01 0)
      ∧ (g < 64 → base % 2 ^ 34 = 0 → base < 2 ^ 52 →
        (c.job = 0 → ends (.apmap c) c s 0 0 fun t => find (t.link c.link).segs g = none)
        ∧ (c.job ≠ 0 → s.job c.job = none → refused (.apmap c) c s 0x1E02 0)
        ∧ (∀ j, c.job ≠ 0 → s.job c.job = some j → ends (.apmap c) c s 0 0 fun t =>
          find (t.link c.link).segs g = some (c.job, base, fld c.record 136 1 == 1)
          ∧ ∀ k, k ≠ g → find (t.link c.link).segs k = find (s.link c.link).segs k)))
    ∧ (ok 12 → (2 ≤ c.num 16 1 → refused (.ras c) c s 0x1E01 0)
      ∧ (c.num 16 1 < 2 → ends (.ras c) c s 0 0 fun t => t.pkg = { s.pkg with rasPaired := (c.num 16 1 == 1) }))
    ∧ (ok 11 →
      let mode := c.num 16 1
      let most := if mode = 0 then 256 else if mode = 1 then 192 else 128
      let bad := 3 ≤ mode ∨ ∃ d < 8, c.num (24 + d) 1 ≠ 0 ∧ (c.num (24 + d) 1 < 16 ∨ most < c.num (24 + d) 1)
      (bad → refused (.power c) c s 0x1E01 0)
      ∧ (¬bad → (∃ e ∈ s.jobs, e.2.minmode < mode) → refused (.power c) c s 0x1E07 0)
      ∧ (¬bad → (∀ e ∈ s.jobs, mode ≤ e.2.minmode) → completes (.power c) s fun t =>
        t = { s with pkg := { s.pkg with pendPower := s.pkg.pendPower ++ [(c.link, c.record, s.clk / 16384)] } }))
    ∧ (ok 10 → (c.num 16 8 ≠ 0x52455345545A5858 → refused (.reset c) c s 0x1E07 0)
      ∧ (c.num 16 8 = 0x52455345545A5858 → completes (.reset c) s fun t => packageIsReset s t 2 c.link (s.pkg.resets + 1)))
    ∧ (ok 9 → (c.job ≠ 0 → s.job c.job = none → refused (.attest c) c s 0x1E02 0)
      ∧ (clean → (c.job = 0 ∨ s.job c.job ≠ none) → c.num 48 8 + 1536 ≤ 2 ^ 64 → ends (.attest c) c s 0 0 fun t =>
        let a := hostKey (c.num 48 8)
        t.num a 32 = c.num 16 32 ∧ t.num (a + 96) 4 = s.pkg.fwver.toNat ∧ t.num (a + 104) 64 = s.pkg.patchDigest.toNat
        ∧ t.num (a + 168) 64 = (((s.job c.job).map fun (j : Job) => j.decl.digest).getD 0).toNat
        ∧ ∀ b, b < a ∨ a + 1536 ≤ b → t.byte b = s.byte b))
    ∧ (ok 8 → (4 ≤ c.num 16 1 → refused (.query c) c s 0x1E01 0)
      ∧ (c.num 16 1 = 2 → s.job c.job = none → refused (.query c) c s 0x1E02 0)
      ∧ (c.num 16 1 = 1 → ends (.query c) c s 0 0 fun t =>
        let bs := (List.range 1793).map (fun i => Config.identityKey.getD i 0) ++ Config.certificate
        ∀ b, t.byte b = (State.hostWrite (bs.length / 64 + 2) s (c.num 24 8) bs).byte b)
      ∧ (clean → c.num 16 1 = 0 → c.num 24 8 + 64 ≤ 2 ^ 64 → ends (.query c) c s 0 0 fun t =>
        ∃ bs, bs.length = 64 ∧ bs[0]? = some (BitVec.ofNat 8 s.pkg.mode) ∧ wrote t (c.num 24 8) bs)
      ∧ (clean → c.num 16 1 = 2 → s.job c.job ≠ none → c.num 24 8 + 2080 ≤ 2 ^ 64 → ends (.query c) c s 0 0 fun t =>
        wrote t (c.num 24 8) ((List.range 8).flatMap fun d =>
          ((List.range 64).flatMap fun n => leBytes 4 (s.frameEntry d n).toNat) ++ leBytes 4 ((s.die d).bypass % 256)))
      ∧ (clean → c.num 16 1 = 3 → c.num 24 8 + 160 ≤ 2 ^ 64 → ends (.query c) c s 0 0 fun t =>
        wrote t (c.num 24 8) ((List.range 8).flatMap fun d => (s.freeCounts d).flatMap (leBytes 4))))
    ∧ (∀ j, s.job c.job = some j → j.id = c.job →
      (ok 3 → (∀ l, (s.link l).loading = none) → j.admitting = none → ends (.cancel c) c s 0 0 fun t =>
        t.job c.job = none ∧ (∀ x k, t.take x = some k → k.job ≠ c.job) ∧ (∀ x r, t.region x = some r → r.job ≠ c.job)
        ∧ ∀ k, k ≠ c.job → t.job k = s.job k)
      ∧ (ok 4 →
        let va := c.num 16 8
        let level := c.num 24 1
        ((level < 1 ∨ 3 < level ∨ 2 ^ 52 ≤ va) → refused (.map c) c s 0x1E01 0)
        ∧ (1 ≤ level → level ≤ 3 → va < 2 ^ 52 →
          (s.tableOf va (level - 1) 1 j.root = none → refused (.map c) c s 0x1E01 0)
          ∧ ∀ table, clean → (∀ m ∈ s.msgs, m.placed = false) → s.tableOf va (level - 1) 1 j.root = some table →
            ends (.map c) c s 0 0 fun t =>
            let key := table + 8 * vaIndex va level
            (∀ b, t.byte b = if key ≤ b ∧ b < key + 8 then BitVec.ofNat 8 (c.num 32 8 / 2 ^ (8 * (b - key))) else s.byte b)
            ∧ ∀ q ∈ t.slices, ∀ x ∈ q.2.tlb, x.covers j.asid va = false))
      ∧ (ok 5 →
        let page := c.num 16 8 / 65536
        ((s.faultOf c.job page = [] ∨ 2 ≤ c.num 24 1) → refused (.faultsvc c) c s 0x1E01 0)
        ∧ (s.faultOf c.job page ≠ [] → c.num 24 1 = 0 → ends (.faultsvc c) c s 0 0 fun t =>
          ∀ d, ∀ m ∈ (t.die d).misses, ¬(m.faulted = true ∧ m.job = c.job ∧ m.page = page))
        ∧ (∀ k pid fid w x p, s.faultOf c.job page = [w] → c.num 24 1 = 0 → w.who = .firing pid fid → s.takes = [(k.tid, k)] →
          k.traps = [x] → x.cause = 2 → x.pid = pid → x.info.getLsbD 63 = false → k.parked = [p] → p.pid = pid →
          p.firing.fid = fid → s.ownParked k = false →
          completes (.faultsvc c) s fun t => (t.take k.tid).map Take.isParked = some false)
        ∧ (∀ k pid fid w x p, s.faultOf c.job page = [w] → c.num 24 1 = 1 → w.who = .firing pid fid → s.takes = [(k.tid, k)] →
          k.traps = [x] → x.cause = 2 → x.pid = pid → x.info.getLsbD 63 = false → k.parked = [p] → p.pid = pid →
          p.firing.fid = fid →
          completes (.faultsvc c) s fun t => takeFails s t k.tid 0x1602
            ∧ ∀ d, ∀ m ∈ (t.die d).misses, ¬(m.faulted = true ∧ m.job = c.job ∧ m.page = page)))
      ∧ (ok 6 →
        let die := c.num 24 1
        (find s.planeImages (c.num 16 8) = none → refused (.pload c) c s 0x1E04 0)
        ∧ ∀ m, find s.planeImages (c.num 16 8) = some m →
          let key := regionKey c.job die m.rid
          let formed := m.scriptSize % 256 = 0 ∧ m.cells.all CellImage.formed = true
          (¬formed → refused (.pload c) c s 0x1E04 0)
          ∧ (formed → (8 ≤ die ∨ j.diemask / 2 ^ die % 2 = 0 ∨ j.planesOn die / 2 ^ m.plane % 2 = 0 ∨ j.stopped = true
              ∨ ∃ r, s.region key = some r ∧ r.place ≠ .torn) → refused (.pload c) c s 0x1E01 0)
          ∧ (formed → die < 8 → j.diemask / 2 ^ die % 2 = 1 → j.planesOn die / 2 ^ m.plane % 2 = 1 → s.region key = none →
            j.stopped = false → completes (.pload c) s fun t =>
              (t.link c.link).loading = some (key, c.record) ∧ (t.link c.link).held = []
              ∧ (t.region key).map (fun r => (r.place, r.job, r.die, r.rid)) = some (.requested, c.job, die, m.rid)
              ∧ (t.region key).map Region.image = some { m with die }))
      ∧ (ok 7 →
        let va := c.num 16 8
        (s.registerQueue c.job va = none → refused (.qreg c) c s 0x1E01 0)
        ∧ ∀ p, va % 64 = 0 → s.queueOf c.job va = none → s.placeOf c.job va true = some p →
          let serve := s.num (p.key + 17) 1
          s.num p.key 8 = s.num (p.key + 8) 8 → s.num (p.key + 16) 1 ≤ 20 → serve < 8 → j.diemask / 2 ^ serve % 2 = 1 →
          s.num (p.key + 18) 46 = 0 → ends (.qreg c) c s 0 0 fun t =>
            (t.die serve).queues = (s.die serve).queues ++ [{ job := c.job, va, key := p.key, home := p.die * 64 + p.slice }])
      ∧ (ok 13 →
        (s.takeOf (regionKey c.job (c.num 16 1) (c.num 17 1)) (c.num 18 1) = none → refused (.resume c) c s 0x1E01 0)
        ∧ ∀ k x, s.takeOf (regionKey c.job (c.num 16 1) (c.num 17 1)) (c.num 18 1) = some k → s.take k.tid = some k →
          c.num 16 1 < 8 → j.debug = true → k.colour ≠ 15 → k.traps = [x] → x.cause = 12 → k.failing = false →
          s.ownParked k = false →
          ends (.resume c) c s 0 0 fun t => (t.take k.tid).map (fun y => (y.isParked, y.traps)) = some (false, []))))

/-- R366, R368 to R370, R373: CQSETUP sets up the link's queue; the trigger takes the next command; ADMIT checks a job, makes it the
die's and, once its regions are loaded, hands out its start slates and ends; entries are written as the queue has room, and MSI-X
follows; a hot reset resets the link alone. BADIMAGE for another NIMG, the reason where several checks fail, and what the start
slates carry are the model's choices (log 28); so are HEAD 0 at CQSETUP (log 37), the one order of all triggers (log 47), and which
records wait for others (log 53). -/
def Obligations.QueuesAndAdmission : Prop :=
  (∀ (c : Cmd) (s : State),
    let k := s.link c.link
    let base := c.num 16 8
    let lg := c.num 24 1
    (c.shaped 1 = true → base % 4096 = 0 → 6 ≤ lg → lg ≤ 16 → c.quiet = false → (k.cq = none ∨ k.held = []) →
      completes (.cqsetup c) s fun t =>
        let k' := t.link c.link
        k'.cq = some { base, log2n := lg, msi := (fld c.record 200 1 == 1) } ∧ k'.tail = 0 ∧ k'.head = 0 ∧ k'.hadSetup = true
        ∧ k'.held = (if k.hadSetup = true then [] else [s.resetRecord]) ++ [entryOf c 0 0 s.clk] ++ k.held ++ k.heldBehind
        ∧ s.resetRecord.entry.extractLsb' 16 16 = BitVec.ofNat 16 (0x1E20 + s.pkg.cause.toNat)
        ∧ s.resetRecord.entry.extractLsb' 0 3 = 7#3)
    ∧ (c.shaped 1 = true → base % 4096 = 0 → 6 ≤ lg → lg ≤ 16 → k.cq ≠ none → k.held ≠ [] →
      completes (.cqsetup c) s fun t =>
        t.link c.link = { k with nextCq := some ({ base, log2n := lg, msi := (fld c.record 200 1 == 1) }, c.record) })
    ∧ (linkFree s c.link → (c.shaped 1 = false ∨ base % 4096 ≠ 0 ∨ lg < 6 ∨ 16 < lg) → c.quiet = false →
      refused (.cqsetup c) c s 0x1E01 0))
  ∧ (∀ (link : Nat) (s : State) (i : Instr),
    let k := s.link link
    let c : Cmd := { link, record := look 0 k.slots (k.cmdhead.toNat % 512) }
    s.pkg.ready = true → k.triggers ≠ 0 → k.loading = none → k.nextCq = none → k.mapping = none →
    (∀ e ∈ s.pkg.pendPower, e.1 ≠ link) → (∀ e ∈ s.jobs, e.2.link = link → e.2.admitting = none) →
    s.pkg.trigOrder.head? = some link →
    decodeCommand c = .ok i → completes (.commandTrigger link) s fun t =>
      t.agenda = .event i :: s.agenda ∧ t.link link = { k with cmdhead := k.cmdhead + 1, triggers := k.triggers - 1 }
      ∧ t.pkg.trigOrder = s.pkg.trigOrder.erase link)
  ∧ (∀ (c : Cmd) (s : State), linkFree s c.link → c.quiet = false → c.shaped 2 = true →
    let d := s.hostRecord (c.num 16 8)
    let id := jdNum d 0 2
    (s.descWellFormed d = false → refused (.admitJob c) c s 0x1E03 9)
    ∧ (∀ j, s.descWellFormed d = true → s.job id = some j → refused (.admitJob c) c s 0x1E03 8)
    ∧ (s.descWellFormed d = true → s.job id = none →
      (find s.images (jdNum d 32 8) = none → refused (.admitJob c) c s 0x1E04 0)
      ∧ ∀ l, find s.images (jdNum d 32 8) = some l →
        let x := l.named
        let j := s.jobOf d x c.link
        let u := { s with jobs := ins s.jobs id j }
        let listed := x.entries = jdNum d 40 2
        (¬listed → refused (.admitJob c) c s 0x1E04 0)
        ∧ (jdNum d 52 2 = 0 → imagesOk x j.dies [] = false → refused (.admitJob c) c s 0x1E04 0)
        ∧ (∀ die, listed → jdNum d 52 2 = 0 → imagesOk x j.dies [] = true → die ∈ j.dies → s.dieReason u j die 0 ≠ 0 →
          (∀ e ∈ j.dies, e < die → s.dieReason u j e 0 = 0) →
          refused (.admitJob c) c s 0x1E03 (die * 256 + s.dieReason u j die 0))
        ∧ (∀ m, listed → jdNum d 52 2 = 0 → jdNum d 42 2 = 0 → imagesOk x j.dies [] = true → (∀ e ∈ j.dies, s.dieReason u j e 0 = 0) →
          x.regions = [m] → j.paired = false → completes (.admitJob c) s fun t =>
            let key := regionKey id m.die m.rid
            (t.link c.link).held = [] ∧ t.job id = some { j with admitting := some ([key], c.record) }
            ∧ (t.region key).map (fun r => (r.place, r.job, r.die, r.rid)) = some (.requested, id, m.die, m.rid)
            ∧ (∀ n ∈ x.dctrs, look 0 (t.die (n / 4096)).deps (n % 4096) = 0)
            ∧ (t.die m.die).held = (s.die m.die).held)
        ∧ (listed → jdNum d 52 2 = 0 → jdNum d 42 2 = 0 → imagesOk x j.dies [] = true → (∀ e ∈ j.dies, s.dieReason u j e 0 = 0) →
          x.regions = [] → ends (.admitJob c) c s 0 0 fun t => t.job id = some j)))
  ∧ (∀ (s : State) (r : Region) (j : Job) (rec : BitVec 1024),
    let c : Cmd := { link := j.link, record := rec }
    s.region r.key = some r → r.place = .loading → r.saved = [] → (s.die r.die).fenced = false → s.job j.id = some j → r.job = j.id →
    j.admitting = some ([r.key], rec) → (∀ l, (s.link l).loading = none) → (s.link j.link).held = [] →
    (s.link j.link).heldBehind = [] → (s.link j.link).nextCq = none →
    completes (.planeLoadDone r.key) s fun t =>
      t.job j.id = some { j with admitting := none } ∧ (t.region r.key).map Region.place = some .eligible
      ∧ (c.quiet = false → (t.link j.link).held = [entryOf c 0 0 s.clk]) ∧ (c.quiet = true → (t.link j.link).held = [])
      ∧ ∀ e ∈ j.decl.start, ∃ h ∈ (t.die e.1).held, h.job = j.id ∧ h.slate = { region := e.2.1, entry := e.2.2 }
        ∧ h.released = true ∧ h.start = true ∧ h.age = s.clk)
  ∧ (∀ (link : Nat) (s : State) (q : Cq) (r : Rec) (rest : List Rec),
    let k := s.link link
    k.cq = some q → k.held = r :: rest → s.mustWait r = false → k.nextCq = none → k.mapping = none → 1 ≤ q.log2n →
    (k.tail - k.head).toNat + r.size ≤ 2 ^ q.log2n → q.base + 32 * 2 ^ q.log2n ≤ 2 ^ 64 → (∀ p ∈ s.planes, p.2.stash = []) →
    completes (.cqEntryWrite link) s fun t =>
      t.link link = { k with held := rest, tail := k.tail + BitVec.ofNat 32 r.size }
      ∧ ∀ (i : Nat) (e : BitVec 256), r.entries[i]? = some e →
        t.num (hostKey (q.base + 32 * ((k.tail.toNat + i) % 2 ^ q.log2n))) 32 = e.toNat)
  ∧ (∀ (link : Nat) (s : State) (q : Cq),
    let k := s.link link
    k.cq = some q → q.msi = true → k.tail ≠ k.msixTail → (k.msixSent = 0 ∨ k.msixAt + 3600 ≤ s.clk) →
    completes (.msixSend link) s fun t =>
      t.link link = { k with msixSent := k.msixSent + 1, msixAt := s.clk, msixTail := k.tail })
  ∧ (∀ (link : Nat) (s : State), (s.link link).nextCq = none →
    completes (.hotReset link) s fun t =>
      let k := s.link link
      let k' := t.link link
      k'.slots = [] ∧ k'.triggers = 0 ∧ k'.cmdhead = 0 ∧ k'.cq = none ∧ k'.tail = 0 ∧ k'.head = 0
      ∧ k'.held = k.held ++ k.heldBehind ∧ (∀ l, l ≠ link → t.link l = s.link l)
      ∧ t = { s with links := t.links, pkg := { s.pkg with trigOrder := s.pkg.trigOrder.filter fun l => l != link } })

/-- R363 to R366: the host writes command slots, CQLOST and CQHEAD, and reads and writes memory through the aperture: an access enters
as a message of class 7 to the home die, performs there, and a read's bytes come with PACK; a write to the slots waits for the link's
earlier writes. An access of more than 4 KiB, or across 4 KiB, does nothing, and the home die of an access is found from the job's
tables: both are the model's (log 37), as is the form of the message (log 24). -/
def Obligations.HostAccesses : Prop :=
  ∀ (link off : Nat) (s : State),
    let k := s.link link
    let alone := fun (t : State) => t = { s with links := t.links } ∧ ∀ l, l ≠ link → t.link l = s.link l
    (∀ bs : List Byte,
      let n := min bs.length (65536 - off)
      -- the byte that the write puts at an offset
      let at_ := fun (a : Nat) => if off ≤ a then bs[a - off]? else none
      (4096 < bs.length → completes (.registerWrite link off bs) s fun t => t = s)
      ∧ (n ≠ 0 → s.writesUnderWay link = true → completes (.registerWrite link off bs) s fun t => t = s)
      ∧ (bs.length ≤ 4096 → s.writesUnderWay link = false → completes (.registerWrite link off bs) s fun t =>
        let k' := t.link link
        (∀ i j, i < 512 → j < 128 → fld (look 0 k'.slots i) (8 * j) 8 =
          ((at_ (128 * i + j)).map BitVec.toNat).getD (fld (look 0 k.slots i) (8 * j) 8))
        ∧ (k'.cqlost = true ↔ k.cqlost = true ∧ ∀ b, at_ 0x10000 = some b → b.getLsbD 4 = false)
        ∧ (∀ j, j < 4 → fld k'.head (8 * j) 8 = ((at_ (0x10018 + j)).map BitVec.toNat).getD (fld k.head (8 * j) 8))
        ∧ (n = 0 → alone t ∧ k' = { k with cqlost := k'.cqlost, head := k'.head })
        ∧ (n ≠ 0 → k'.counted = (k.counted + n) % 128 ∧ k'.triggers = k.triggers + (k.counted + n) / 128
          ∧ t.pkg.trigOrder = s.pkg.trigOrder ++ List.replicate ((k.counted + n) / 128) link)
        ∧ ∀ a, t.byte a = s.byte a))
    ∧ (∀ v : BitVec 32, completes (.cqheadWrite link v) s fun t => alone t ∧ t.link link = { k with head := v })
    ∧ (∀ (job base : Nat) (w : Bool), find k.segs (off / 2 ^ 34) = some (job, base, w) →
      let va := base + off % 2 ^ 34
      let own := s.pkg.endpoint
      let begins := fun (i : Instr) (kind : Nat) (p : Phys) (data : List Byte) =>
        let ep := if p.die < 8 then own else podEp (p.die / 8 - 1)
        s.mayIssue (8 + link) ep (p.die % 8) data.length = true → completes i s fun t =>
          (∀ a, t.byte a = s.byte a) ∧ t.links = s.links ∧ ∃ m : Msg, t.msgs = s.msgs ++ [m] ∧ m.kind = kind ∧ m.cls = 7
            ∧ m.access = link ∧ m.job = job ∧ m.data = data ∧ m.len = data.length ∧ m.raddr = va ∧ m.laddr = p.key
            ∧ m.die = 8 + link ∧ m.dstEp = ep ∧ m.dstDie = p.die % 8 ∧ m.performed = false ∧ m.packed = false
      (∀ n p, 1 ≤ n → off % 4096 + n ≤ 4096 → off + n ≤ 2 ^ 40 → s.placeOf job va false = some p →
        begins (.apertureRead link off n) 7 p (List.replicate n 0))
      ∧ (∀ (bs : List Byte) (p : Phys), 1 ≤ bs.length → off % 4096 + bs.length ≤ 4096 → off + bs.length ≤ 2 ^ 40 →
        (w = true → s.placeOf job va false = some p → begins (.apertureWrite link off bs) 6 p bs)
        ∧ (w = false → completes (.apertureWrite link off bs) s fun t => t = { s with links := t.links })))
    ∧ (∀ n, (find k.segs (off / 2 ^ 34) = none
        ∨ ∃ job base w, find k.segs (off / 2 ^ 34) = some (job, base, w) ∧ s.placeOf job (base + off % 2 ^ 34) false = none) →
      1 ≤ n → off % 4096 + n ≤ 4096 → off + n ≤ 2 ^ 40 →
      completes (.apertureRead link off n) s fun t => (t.link link).lastRead = List.replicate n 0xFF ∧ t.msgs = s.msgs)
    ∧ (∀ (m : Msg) (e : Tlb), s.msgs = [m] → s.mayPerform m = true → m.placed = false → m.data.length = m.len → 1 ≤ m.len →
      m.len ≤ 4096 → (s.slice (m.dstDie * 64)).tlb = [e] →
      (∀ a, m.raddr ≤ a → a < m.raddr + m.len → e.covers (s.asid m.job) a = true) → s.msgWaits m = false →
      let at_ := (physOf e.pte e.level m.raddr).key
      (m.kind = 6 → e.pte.getLsbD 2 = true → (∀ q ∈ s.planes, q.2.stash = []) → (∀ q ∈ s.slices, q.2.wins = []) →
        completes (.messagePerform 0) s fun t => t.msgs = [{ m with performed := true }]
          ∧ ∀ b, t.byte b = if at_ ≤ b ∧ b < at_ + m.len then (m.data[b - at_]?).getD 0 else s.byte b)
      ∧ (m.kind = 7 → s.poison = [] → (∀ d, (s.die d).fenced = false) → completes (.messagePerform 0) s fun t =>
        t.msgs = [{ m with performed := true, data := (List.range m.len).map fun i => s.byte (at_ + i) }]
          ∧ ∀ b, t.byte b = s.byte b))
    ∧ (∀ (m : Msg) (idx : Nat) (f : Frag), s.msgs = [m] → m.kind = 7 → m.access = link → m.dstEp = s.pkg.endpoint →
      s.wire[idx]? = some f → f.ctl = 2 → s.crosses f = true → f.dstEp = s.pkg.endpoint → f.mid = m.mid → m.packed = false →
      m.lostM = false → completes (.pack (.inl idx)) s fun t =>
        t.link link = { k with lastRead := m.data } ∧ t.msgs = [{ m with dacked := true, packed := true, todo := [] }]
        ∧ ∀ l, l ≠ link → t.link l = s.link l)

/-- R371 to R379, R388 to R392, R25: a package reset of each cause; bring-up sets READY; a frame start installs the shadow
table, adapts code rates and applies POWER; power, temperature and voltage events; errors of memory poison, merge, purge
and fence; an error whose UNIT does not fit its code does nothing (R18); a job that is over ends. That CXL, host and pod memory keep
their bytes over a reset, and that the error ACCUE comes as an event of code 0x0202, are the model's (log 37); so are the frame start
at which POWER takes effect on all dies and the windows of PREDFAIL (log 49). -/
def Obligations.PackageEvents : Prop :=
  (∀ (n : Nat) (s : State),
    let resets : List (Instr × Nat × Nat) :=
      [(.linkreset n, 3, n), (.lockstep, 4, 0), (.thermal n, 5, n), (.watchdog, 6, 0), (.supply n, 7, n)]
    (∀ e ∈ resets, completes e.1 s fun t => packageIsReset s t e.2.1 e.2.2 (s.pkg.resets + 1))
    ∧ completes .poweron s (fun t => packageIsReset s t 1 0 1))
  ∧ (∀ s : State,
    completes (.bringUp false) s (fun t => t = s)
    ∧ (s.pkg.ready = false → completes (.bringUp true) s fun t => t = { s with pkg := t.pkg } ∧ t.pkg.ready = true
      ∧ (s.pkg.flash = none → t.pkg = { s.pkg with ready := true })
      ∧ ∀ p, s.pkg.flash = some p →
        (p.good = true → s.pkg.rollback ≤ p.version →
          t.pkg.fwver = BitVec.ofNat 16 p.version ∧ t.pkg.rollback = p.version ∧ t.pkg.patchDigest = p.digest)
        ∧ ((p.good = false ∨ p.version < s.pkg.rollback) → t.pkg = { s.pkg with patchrej := true, ready := true })))
  ∧ (∀ (die : Nat) (s : State), (s.die die).lastFrame ≠ s.clk / 16384 →
    completes (.frameStart die) s fun t =>
      (t.die die).frame = (s.die die).shadow.getD (s.die die).frame ∧ (t.die die).shadow = none
      ∧ (t.die die).lastFrame = s.clk / 16384 ∧ (t.die die).linkb = []
      ∧ t.pkg.pendPower = s.pkg.pendPower.filter (fun e => s.clk / 16384 ≤ e.2.2)
      ∧ (∀ e ∈ t.cells, e.1 / 256 = die → e.2.mmas = 0) ∧ (∀ e ∈ t.slices, e.1 / 64 = die → e.2.memb = [])
      ∧ (∀ l r n, s.pkg.pendPower = [(l, r, n)] → n < s.clk / 16384 →
        let mode := fld r 128 8
        t.pkg.mode = mode ∧ t.pkg.uv = (fld r 136 1 == 1)
        ∧ ∀ d < 8, (t.die d).mmaCap = (let b := fld r (192 + 8 * d) 8
            if b = 0 then (if mode = 0 then 256 else if mode = 1 then 192 else 128) else b))
      ∧ (∀ k c, (s.die die).classes = [(k, c)] → c.adapt = true →
        let c' := t.cls die k
        (c.thresh * c.frameSent < c.frameLost * 65536 → c'.m = (if c.m < c.mmax then c.m + 1 else c.m))
        ∧ (c.frameLost = 0 → c.quiet ≤ c.quietFrames + 1 → c'.m = (if c.mmin < c.m then c.m - 1 else c.m) ∧ c'.quietFrames = 0)
        ∧ c'.frameSent = 0 ∧ c'.frameLost = 0))
  ∧ (∀ (die array : Nat) (s : State),
    let d := s.die die
    let window := 600 * 1800000000
    let full := d.uvWin + window ≤ s.clk
    -- no array has passed 32 in the window of 600 s that runs now, and none that the last full windows left is still to act on
    let quiet := d.arraysLast = [] ∧ ∀ e ∈ d.arrays, e.2 ≤ (if full ∧ d.uvStep = 0 then 63 else 32)
    let moved := fun (t : State) (step hold : Nat) =>
      t.die die = { d with uvStep := step, uvAt := s.clk, uvHold := hold, uvWin := s.clk, arrays := [], arraysLast := [] }
    ((∀ a, s.pkg.overAt = some a → a + 1800000000 ≤ s.clk) → completes (.powerover die) s fun t => t.pkg.overAt = some s.clk)
    ∧ ((∀ a, d.warnAt = some a → a + 1800000000 ≤ s.clk) → completes (.thermwarn die) s fun t =>
      (t.die die).warnAt = some s.clk)
    ∧ (s.pkg.uv = true → d.noUv = false →
      (¬quiet → 0 < d.uvStep → completes (.undervoltStep die) s fun t => moved t (d.uvStep - 1) (s.clk + window))
      ∧ (quiet → d.uvStep < 10 → d.uvAt + 60 * 1800000000 ≤ s.clk → d.uvHold ≤ s.clk →
        completes (.undervoltStep die) s fun t => moved t (d.uvStep + 1) 0)
      ∧ (d.uvStep = 0 →
        (¬full → completes (.predfail die array) s fun t => ((t.die die).noUv = true ↔ 64 ≤ look 0 d.arraysLast array))
        ∧ (full → d.arraysLast = [] → completes (.predfail die array) s fun t =>
          ((t.die die).noUv = true ↔ ∃ e ∈ d.arrays, e.1 = array ∧ 64 ≤ e.2))
        ∧ (full → 64 ≤ look 0 d.arraysLast array → (∀ e ∈ d.arrays, e.2 < 64) →
          completes (.predfail die array) s fun t => (t.die die).noUv = true))))
  ∧ (∀ (home key kind way : Nat) (s : State), home < 512 → kind < 3 →
    completes (.lineUe home key kind way) s fun t => key / 64 ∈ t.poison ∧ ∀ a, t.byte a = s.byte a)
  ∧ (∀ (code : Nat) (unit : BitVec 16) (addr : BitVec 64) (det : BitVec 256) (s : State),
    let fits := unit.toNat % 32 = code / 256 ∧ (5 < unit.toNat % 32 → unit.toNat / 32 % 256 < 64)
    (¬fits → completes (.correctedError code unit addr det) s fun t => t = s)
    ∧ (code ∈ [0x0201, 0x0501, 0x0C01, 0x1101, 0x1201] → fits → (∀ m ∈ s.pkg.merging, ¬(m.1.code = code ∧ m.1.unit = unit)) →
      completes (.correctedError code unit addr det) s fun t =>
        ∃ i, t.pkg.merging = s.pkg.merging ++ [(i, 0, s.clk)] ∧ i.code = code ∧ i.unit = unit ∧ i.cls = 1)
    ∧ (∀ k, code = 0x0202 → fits → det.getLsbD 0 = false → addr.getLsbD 2 = false →
      let p := s.plane (pidOfUnit unit (addr.toNat % 4))
      p.user.open_ = true → s.take p.user.openTid = some k → k.tid = p.user.openTid → k.shadow = false →
      completes (.correctedError code unit addr det) s fun t => ∀ k', t.take k.tid = some k' → k'.failing = true)
    ∧ (∀ i n at_, s.pkg.merging = [(i, n, at_)] → i.code = code → i.unit = unit → n ≠ 0 → at_ + 1800000 ≤ s.clk →
      completes (.correctedMerge code unit) s fun t => t.pkg.merging = [(i, 0, s.clk)]))
  ∧ (∀ (die id : Nat) (s : State) (j : Job), (s.die die).fenced = false → s.jobs = [(id, j)] → j.diemask / 2 ^ die % 2 = 1 →
    completes (.diefence die) s fun t => (t.die die).fenced = true ∧ (t.job id).map Job.stopped = some true)
  ∧ (∀ (id : Nat) (s : State) (j : Job), s.job id = some j → j.id = id → id ≠ 0 → s.jobOver j = true →
    (s.link j.link).held = [] → (s.link j.link).heldBehind = [] → (s.link j.link).nextCq = none →
    completes (.jobend id) s fun t =>
      t.job id = none ∧ (∀ x k, t.take x = some k → k.job ≠ id)
      ∧ ∃ r ∈ (t.link j.link).held, r.entry.extractLsb' 16 16 = 0x1E32#16)
end

