-- ==== Sys2Proof/Laws/State.lean ====
section
/-!
SUPPORT. What each update of State leaves alone: one lemma for each field of State and each update.
-/
namespace Sys2Proof.Machine

/-! ## State.setPlane -/

@[simp] theorem State.setPlane_agenda (s : State) (k : Nat) (x : Plane) : (s.setPlane k x).agenda = s.agenda := rfl
@[simp] theorem State.setPlane_turn (s : State) (k : Nat) (x : Plane) : (s.setPlane k x).turn = s.turn := rfl
@[simp] theorem State.setPlane_cur (s : State) (k : Nat) (x : Plane) : (s.setPlane k x).cur = s.cur := rfl
@[simp] theorem State.setPlane_curCtx (s : State) (k : Nat) (x : Plane) : (s.setPlane k x).curCtx = s.curCtx := rfl
@[simp] theorem State.setPlane_clk (s : State) (k : Nat) (x : Plane) : (s.setPlane k x).clk = s.clk := rfl
@[simp] theorem State.setPlane_free (s : State) (k : Nat) (x : Plane) : (s.setPlane k x).free = s.free := rfl
@[simp] theorem State.setPlane_serial (s : State) (k : Nat) (x : Plane) : (s.setPlane k x).serial = s.serial := rfl
@[simp] theorem State.setPlane_mem (s : State) (k : Nat) (x : Plane) : (s.setPlane k x).mem = s.mem := rfl
@[simp] theorem State.setPlane_poison (s : State) (k : Nat) (x : Plane) : (s.setPlane k x).poison = s.poison := rfl
@[simp] theorem State.setPlane_bank (s : State) (k : Nat) (x : Plane) : (s.setPlane k x).bank = s.bank := rfl
@[simp] theorem State.setPlane_sideband (s : State) (k : Nat) (x : Plane) : (s.setPlane k x).sideband = s.sideband := rfl
@[simp] theorem State.setPlane_cells (s : State) (k : Nat) (x : Plane) : (s.setPlane k x).cells = s.cells := rfl
@[simp] theorem State.setPlane_rings (s : State) (k : Nat) (x : Plane) : (s.setPlane k x).rings = s.rings := rfl
@[simp] theorem State.setPlane_ctxs (s : State) (k : Nat) (x : Plane) : (s.setPlane k x).ctxs = s.ctxs := rfl
@[simp] theorem State.setPlane_cores (s : State) (k : Nat) (x : Plane) : (s.setPlane k x).cores = s.cores := rfl
@[simp] theorem State.setPlane_slices (s : State) (k : Nat) (x : Plane) : (s.setPlane k x).slices = s.slices := rfl
@[simp] theorem State.setPlane_dies (s : State) (k : Nat) (x : Plane) : (s.setPlane k x).dies = s.dies := rfl
@[simp] theorem State.setPlane_links (s : State) (k : Nat) (x : Plane) : (s.setPlane k x).links = s.links := rfl
@[simp] theorem State.setPlane_jobs (s : State) (k : Nat) (x : Plane) : (s.setPlane k x).jobs = s.jobs := rfl
@[simp] theorem State.setPlane_regions (s : State) (k : Nat) (x : Plane) : (s.setPlane k x).regions = s.regions := rfl
@[simp] theorem State.setPlane_takes (s : State) (k : Nat) (x : Plane) : (s.setPlane k x).takes = s.takes := rfl
@[simp] theorem State.setPlane_images (s : State) (k : Nat) (x : Plane) : (s.setPlane k x).images = s.images := rfl
@[simp] theorem State.setPlane_planeImages (s : State) (k : Nat) (x : Plane) : (s.setPlane k x).planeImages = s.planeImages := rfl
@[simp] theorem State.setPlane_patches (s : State) (k : Nat) (x : Plane) : (s.setPlane k x).patches = s.patches := rfl
@[simp] theorem State.setPlane_exits (s : State) (k : Nat) (x : Plane) : (s.setPlane k x).exits = s.exits := rfl
@[simp] theorem State.setPlane_msgs (s : State) (k : Nat) (x : Plane) : (s.setPlane k x).msgs = s.msgs := rfl
@[simp] theorem State.setPlane_wire (s : State) (k : Nat) (x : Plane) : (s.setPlane k x).wire = s.wire := rfl
@[simp] theorem State.setPlane_pkg (s : State) (k : Nat) (x : Plane) : (s.setPlane k x).pkg = s.pkg := rfl

/-! ## State.modPlane -/

@[simp] theorem State.modPlane_agenda (s : State) (k : Nat) (f : Plane → Plane) : (s.modPlane k f).agenda = s.agenda := rfl
@[simp] theorem State.modPlane_turn (s : State) (k : Nat) (f : Plane → Plane) : (s.modPlane k f).turn = s.turn := rfl
@[simp] theorem State.modPlane_cur (s : State) (k : Nat) (f : Plane → Plane) : (s.modPlane k f).cur = s.cur := rfl
@[simp] theorem State.modPlane_curCtx (s : State) (k : Nat) (f : Plane → Plane) : (s.modPlane k f).curCtx = s.curCtx := rfl
@[simp] theorem State.modPlane_clk (s : State) (k : Nat) (f : Plane → Plane) : (s.modPlane k f).clk = s.clk := rfl
@[simp] theorem State.modPlane_free (s : State) (k : Nat) (f : Plane → Plane) : (s.modPlane k f).free = s.free := rfl
@[simp] theorem State.modPlane_serial (s : State) (k : Nat) (f : Plane → Plane) : (s.modPlane k f).serial = s.serial := rfl
@[simp] theorem State.modPlane_mem (s : State) (k : Nat) (f : Plane → Plane) : (s.modPlane k f).mem = s.mem := rfl
@[simp] theorem State.modPlane_poison (s : State) (k : Nat) (f : Plane → Plane) : (s.modPlane k f).poison = s.poison := rfl
@[simp] theorem State.modPlane_bank (s : State) (k : Nat) (f : Plane → Plane) : (s.modPlane k f).bank = s.bank := rfl
@[simp] theorem State.modPlane_sideband (s : State) (k : Nat) (f : Plane → Plane) : (s.modPlane k f).sideband = s.sideband := rfl
@[simp] theorem State.modPlane_cells (s : State) (k : Nat) (f : Plane → Plane) : (s.modPlane k f).cells = s.cells := rfl
@[simp] theorem State.modPlane_rings (s : State) (k : Nat) (f : Plane → Plane) : (s.modPlane k f).rings = s.rings := rfl
@[simp] theorem State.modPlane_ctxs (s : State) (k : Nat) (f : Plane → Plane) : (s.modPlane k f).ctxs = s.ctxs := rfl
@[simp] theorem State.modPlane_cores (s : State) (k : Nat) (f : Plane → Plane) : (s.modPlane k f).cores = s.cores := rfl
@[simp] theorem State.modPlane_slices (s : State) (k : Nat) (f : Plane → Plane) : (s.modPlane k f).slices = s.slices := rfl
@[simp] theorem State.modPlane_dies (s : State) (k : Nat) (f : Plane → Plane) : (s.modPlane k f).dies = s.dies := rfl
@[simp] theorem State.modPlane_links (s : State) (k : Nat) (f : Plane → Plane) : (s.modPlane k f).links = s.links := rfl
@[simp] theorem State.modPlane_jobs (s : State) (k : Nat) (f : Plane → Plane) : (s.modPlane k f).jobs = s.jobs := rfl
@[simp] theorem State.modPlane_regions (s : State) (k : Nat) (f : Plane → Plane) : (s.modPlane k f).regions = s.regions := rfl
@[simp] theorem State.modPlane_takes (s : State) (k : Nat) (f : Plane → Plane) : (s.modPlane k f).takes = s.takes := rfl
@[simp] theorem State.modPlane_images (s : State) (k : Nat) (f : Plane → Plane) : (s.modPlane k f).images = s.images := rfl
@[simp] theorem State.modPlane_planeImages (s : State) (k : Nat) (f : Plane → Plane) : (s.modPlane k f).planeImages = s.planeImages := rfl
@[simp] theorem State.modPlane_patches (s : State) (k : Nat) (f : Plane → Plane) : (s.modPlane k f).patches = s.patches := rfl
@[simp] theorem State.modPlane_exits (s : State) (k : Nat) (f : Plane → Plane) : (s.modPlane k f).exits = s.exits := rfl
@[simp] theorem State.modPlane_msgs (s : State) (k : Nat) (f : Plane → Plane) : (s.modPlane k f).msgs = s.msgs := rfl
@[simp] theorem State.modPlane_wire (s : State) (k : Nat) (f : Plane → Plane) : (s.modPlane k f).wire = s.wire := rfl
@[simp] theorem State.modPlane_pkg (s : State) (k : Nat) (f : Plane → Plane) : (s.modPlane k f).pkg = s.pkg := rfl

/-! ## State.modPl -/

@[simp] theorem State.modPl_agenda (s : State) (f : Plane → Plane) : (s.modPl f).agenda = s.agenda := rfl
@[simp] theorem State.modPl_turn (s : State) (f : Plane → Plane) : (s.modPl f).turn = s.turn := rfl
@[simp] theorem State.modPl_cur (s : State) (f : Plane → Plane) : (s.modPl f).cur = s.cur := rfl
@[simp] theorem State.modPl_curCtx (s : State) (f : Plane → Plane) : (s.modPl f).curCtx = s.curCtx := rfl
@[simp] theorem State.modPl_clk (s : State) (f : Plane → Plane) : (s.modPl f).clk = s.clk := rfl
@[simp] theorem State.modPl_free (s : State) (f : Plane → Plane) : (s.modPl f).free = s.free := rfl
@[simp] theorem State.modPl_serial (s : State) (f : Plane → Plane) : (s.modPl f).serial = s.serial := rfl
@[simp] theorem State.modPl_mem (s : State) (f : Plane → Plane) : (s.modPl f).mem = s.mem := rfl
@[simp] theorem State.modPl_poison (s : State) (f : Plane → Plane) : (s.modPl f).poison = s.poison := rfl
@[simp] theorem State.modPl_bank (s : State) (f : Plane → Plane) : (s.modPl f).bank = s.bank := rfl
@[simp] theorem State.modPl_sideband (s : State) (f : Plane → Plane) : (s.modPl f).sideband = s.sideband := rfl
@[simp] theorem State.modPl_cells (s : State) (f : Plane → Plane) : (s.modPl f).cells = s.cells := rfl
@[simp] theorem State.modPl_rings (s : State) (f : Plane → Plane) : (s.modPl f).rings = s.rings := rfl
@[simp] theorem State.modPl_ctxs (s : State) (f : Plane → Plane) : (s.modPl f).ctxs = s.ctxs := rfl
@[simp] theorem State.modPl_cores (s : State) (f : Plane → Plane) : (s.modPl f).cores = s.cores := rfl
@[simp] theorem State.modPl_slices (s : State) (f : Plane → Plane) : (s.modPl f).slices = s.slices := rfl
@[simp] theorem State.modPl_dies (s : State) (f : Plane → Plane) : (s.modPl f).dies = s.dies := rfl
@[simp] theorem State.modPl_links (s : State) (f : Plane → Plane) : (s.modPl f).links = s.links := rfl
@[simp] theorem State.modPl_jobs (s : State) (f : Plane → Plane) : (s.modPl f).jobs = s.jobs := rfl
@[simp] theorem State.modPl_regions (s : State) (f : Plane → Plane) : (s.modPl f).regions = s.regions := rfl
@[simp] theorem State.modPl_takes (s : State) (f : Plane → Plane) : (s.modPl f).takes = s.takes := rfl
@[simp] theorem State.modPl_images (s : State) (f : Plane → Plane) : (s.modPl f).images = s.images := rfl
@[simp] theorem State.modPl_planeImages (s : State) (f : Plane → Plane) : (s.modPl f).planeImages = s.planeImages := rfl
@[simp] theorem State.modPl_patches (s : State) (f : Plane → Plane) : (s.modPl f).patches = s.patches := rfl
@[simp] theorem State.modPl_exits (s : State) (f : Plane → Plane) : (s.modPl f).exits = s.exits := rfl
@[simp] theorem State.modPl_msgs (s : State) (f : Plane → Plane) : (s.modPl f).msgs = s.msgs := rfl
@[simp] theorem State.modPl_wire (s : State) (f : Plane → Plane) : (s.modPl f).wire = s.wire := rfl
@[simp] theorem State.modPl_pkg (s : State) (f : Plane → Plane) : (s.modPl f).pkg = s.pkg := rfl

/-! ## State.modFiring -/

@[simp] theorem State.modFiring_agenda (s : State) (k : Nat) (f : Firing → Firing) : (s.modFiring k f).agenda = s.agenda := rfl
@[simp] theorem State.modFiring_turn (s : State) (k : Nat) (f : Firing → Firing) : (s.modFiring k f).turn = s.turn := rfl
@[simp] theorem State.modFiring_cur (s : State) (k : Nat) (f : Firing → Firing) : (s.modFiring k f).cur = s.cur := rfl
@[simp] theorem State.modFiring_curCtx (s : State) (k : Nat) (f : Firing → Firing) : (s.modFiring k f).curCtx = s.curCtx := rfl
@[simp] theorem State.modFiring_clk (s : State) (k : Nat) (f : Firing → Firing) : (s.modFiring k f).clk = s.clk := rfl
@[simp] theorem State.modFiring_free (s : State) (k : Nat) (f : Firing → Firing) : (s.modFiring k f).free = s.free := rfl
@[simp] theorem State.modFiring_serial (s : State) (k : Nat) (f : Firing → Firing) : (s.modFiring k f).serial = s.serial := rfl
@[simp] theorem State.modFiring_mem (s : State) (k : Nat) (f : Firing → Firing) : (s.modFiring k f).mem = s.mem := rfl
@[simp] theorem State.modFiring_poison (s : State) (k : Nat) (f : Firing → Firing) : (s.modFiring k f).poison = s.poison := rfl
@[simp] theorem State.modFiring_bank (s : State) (k : Nat) (f : Firing → Firing) : (s.modFiring k f).bank = s.bank := rfl
@[simp] theorem State.modFiring_sideband (s : State) (k : Nat) (f : Firing → Firing) : (s.modFiring k f).sideband = s.sideband := rfl
@[simp] theorem State.modFiring_cells (s : State) (k : Nat) (f : Firing → Firing) : (s.modFiring k f).cells = s.cells := rfl
@[simp] theorem State.modFiring_rings (s : State) (k : Nat) (f : Firing → Firing) : (s.modFiring k f).rings = s.rings := rfl
@[simp] theorem State.modFiring_ctxs (s : State) (k : Nat) (f : Firing → Firing) : (s.modFiring k f).ctxs = s.ctxs := rfl
@[simp] theorem State.modFiring_cores (s : State) (k : Nat) (f : Firing → Firing) : (s.modFiring k f).cores = s.cores := rfl
@[simp] theorem State.modFiring_slices (s : State) (k : Nat) (f : Firing → Firing) : (s.modFiring k f).slices = s.slices := rfl
@[simp] theorem State.modFiring_dies (s : State) (k : Nat) (f : Firing → Firing) : (s.modFiring k f).dies = s.dies := rfl
@[simp] theorem State.modFiring_links (s : State) (k : Nat) (f : Firing → Firing) : (s.modFiring k f).links = s.links := rfl
@[simp] theorem State.modFiring_jobs (s : State) (k : Nat) (f : Firing → Firing) : (s.modFiring k f).jobs = s.jobs := rfl
@[simp] theorem State.modFiring_regions (s : State) (k : Nat) (f : Firing → Firing) : (s.modFiring k f).regions = s.regions := rfl
@[simp] theorem State.modFiring_takes (s : State) (k : Nat) (f : Firing → Firing) : (s.modFiring k f).takes = s.takes := rfl
@[simp] theorem State.modFiring_images (s : State) (k : Nat) (f : Firing → Firing) : (s.modFiring k f).images = s.images := rfl
@[simp] theorem State.modFiring_planeImages (s : State) (k : Nat) (f : Firing → Firing) : (s.modFiring k f).planeImages = s.planeImages := rfl
@[simp] theorem State.modFiring_patches (s : State) (k : Nat) (f : Firing → Firing) : (s.modFiring k f).patches = s.patches := rfl
@[simp] theorem State.modFiring_exits (s : State) (k : Nat) (f : Firing → Firing) : (s.modFiring k f).exits = s.exits := rfl
@[simp] theorem State.modFiring_msgs (s : State) (k : Nat) (f : Firing → Firing) : (s.modFiring k f).msgs = s.msgs := rfl
@[simp] theorem State.modFiring_wire (s : State) (k : Nat) (f : Firing → Firing) : (s.modFiring k f).wire = s.wire := rfl
@[simp] theorem State.modFiring_pkg (s : State) (k : Nat) (f : Firing → Firing) : (s.modFiring k f).pkg = s.pkg := rfl

/-! ## State.modRegs -/

@[simp] theorem State.modRegs_agenda (s : State) (k : Nat) (f : Regs → Regs) : (s.modRegs k f).agenda = s.agenda := rfl
@[simp] theorem State.modRegs_turn (s : State) (k : Nat) (f : Regs → Regs) : (s.modRegs k f).turn = s.turn := rfl
@[simp] theorem State.modRegs_cur (s : State) (k : Nat) (f : Regs → Regs) : (s.modRegs k f).cur = s.cur := rfl
@[simp] theorem State.modRegs_curCtx (s : State) (k : Nat) (f : Regs → Regs) : (s.modRegs k f).curCtx = s.curCtx := rfl
@[simp] theorem State.modRegs_clk (s : State) (k : Nat) (f : Regs → Regs) : (s.modRegs k f).clk = s.clk := rfl
@[simp] theorem State.modRegs_free (s : State) (k : Nat) (f : Regs → Regs) : (s.modRegs k f).free = s.free := rfl
@[simp] theorem State.modRegs_serial (s : State) (k : Nat) (f : Regs → Regs) : (s.modRegs k f).serial = s.serial := rfl
@[simp] theorem State.modRegs_mem (s : State) (k : Nat) (f : Regs → Regs) : (s.modRegs k f).mem = s.mem := rfl
@[simp] theorem State.modRegs_poison (s : State) (k : Nat) (f : Regs → Regs) : (s.modRegs k f).poison = s.poison := rfl
@[simp] theorem State.modRegs_bank (s : State) (k : Nat) (f : Regs → Regs) : (s.modRegs k f).bank = s.bank := rfl
@[simp] theorem State.modRegs_sideband (s : State) (k : Nat) (f : Regs → Regs) : (s.modRegs k f).sideband = s.sideband := rfl
@[simp] theorem State.modRegs_cells (s : State) (k : Nat) (f : Regs → Regs) : (s.modRegs k f).cells = s.cells := rfl
@[simp] theorem State.modRegs_rings (s : State) (k : Nat) (f : Regs → Regs) : (s.modRegs k f).rings = s.rings := rfl
@[simp] theorem State.modRegs_ctxs (s : State) (k : Nat) (f : Regs → Regs) : (s.modRegs k f).ctxs = s.ctxs := rfl
@[simp] theorem State.modRegs_cores (s : State) (k : Nat) (f : Regs → Regs) : (s.modRegs k f).cores = s.cores := rfl
@[simp] theorem State.modRegs_slices (s : State) (k : Nat) (f : Regs → Regs) : (s.modRegs k f).slices = s.slices := rfl
@[simp] theorem State.modRegs_dies (s : State) (k : Nat) (f : Regs → Regs) : (s.modRegs k f).dies = s.dies := rfl
@[simp] theorem State.modRegs_links (s : State) (k : Nat) (f : Regs → Regs) : (s.modRegs k f).links = s.links := rfl
@[simp] theorem State.modRegs_jobs (s : State) (k : Nat) (f : Regs → Regs) : (s.modRegs k f).jobs = s.jobs := rfl
@[simp] theorem State.modRegs_regions (s : State) (k : Nat) (f : Regs → Regs) : (s.modRegs k f).regions = s.regions := rfl
@[simp] theorem State.modRegs_takes (s : State) (k : Nat) (f : Regs → Regs) : (s.modRegs k f).takes = s.takes := rfl
@[simp] theorem State.modRegs_images (s : State) (k : Nat) (f : Regs → Regs) : (s.modRegs k f).images = s.images := rfl
@[simp] theorem State.modRegs_planeImages (s : State) (k : Nat) (f : Regs → Regs) : (s.modRegs k f).planeImages = s.planeImages := rfl
@[simp] theorem State.modRegs_patches (s : State) (k : Nat) (f : Regs → Regs) : (s.modRegs k f).patches = s.patches := rfl
@[simp] theorem State.modRegs_exits (s : State) (k : Nat) (f : Regs → Regs) : (s.modRegs k f).exits = s.exits := rfl
@[simp] theorem State.modRegs_msgs (s : State) (k : Nat) (f : Regs → Regs) : (s.modRegs k f).msgs = s.msgs := rfl
@[simp] theorem State.modRegs_wire (s : State) (k : Nat) (f : Regs → Regs) : (s.modRegs k f).wire = s.wire := rfl
@[simp] theorem State.modRegs_pkg (s : State) (k : Nat) (f : Regs → Regs) : (s.modRegs k f).pkg = s.pkg := rfl

/-! ## State.modCell -/

@[simp] theorem State.modCell_agenda (s : State) (k : Nat) (f : CellState → CellState) : (s.modCell k f).agenda = s.agenda := rfl
@[simp] theorem State.modCell_turn (s : State) (k : Nat) (f : CellState → CellState) : (s.modCell k f).turn = s.turn := rfl
@[simp] theorem State.modCell_cur (s : State) (k : Nat) (f : CellState → CellState) : (s.modCell k f).cur = s.cur := rfl
@[simp] theorem State.modCell_curCtx (s : State) (k : Nat) (f : CellState → CellState) : (s.modCell k f).curCtx = s.curCtx := rfl
@[simp] theorem State.modCell_clk (s : State) (k : Nat) (f : CellState → CellState) : (s.modCell k f).clk = s.clk := rfl
@[simp] theorem State.modCell_free (s : State) (k : Nat) (f : CellState → CellState) : (s.modCell k f).free = s.free := rfl
@[simp] theorem State.modCell_serial (s : State) (k : Nat) (f : CellState → CellState) : (s.modCell k f).serial = s.serial := rfl
@[simp] theorem State.modCell_mem (s : State) (k : Nat) (f : CellState → CellState) : (s.modCell k f).mem = s.mem := rfl
@[simp] theorem State.modCell_poison (s : State) (k : Nat) (f : CellState → CellState) : (s.modCell k f).poison = s.poison := rfl
@[simp] theorem State.modCell_bank (s : State) (k : Nat) (f : CellState → CellState) : (s.modCell k f).bank = s.bank := rfl
@[simp] theorem State.modCell_sideband (s : State) (k : Nat) (f : CellState → CellState) : (s.modCell k f).sideband = s.sideband := rfl
@[simp] theorem State.modCell_planes (s : State) (k : Nat) (f : CellState → CellState) : (s.modCell k f).planes = s.planes := rfl
@[simp] theorem State.modCell_rings (s : State) (k : Nat) (f : CellState → CellState) : (s.modCell k f).rings = s.rings := rfl
@[simp] theorem State.modCell_ctxs (s : State) (k : Nat) (f : CellState → CellState) : (s.modCell k f).ctxs = s.ctxs := rfl
@[simp] theorem State.modCell_cores (s : State) (k : Nat) (f : CellState → CellState) : (s.modCell k f).cores = s.cores := rfl
@[simp] theorem State.modCell_slices (s : State) (k : Nat) (f : CellState → CellState) : (s.modCell k f).slices = s.slices := rfl
@[simp] theorem State.modCell_dies (s : State) (k : Nat) (f : CellState → CellState) : (s.modCell k f).dies = s.dies := rfl
@[simp] theorem State.modCell_links (s : State) (k : Nat) (f : CellState → CellState) : (s.modCell k f).links = s.links := rfl
@[simp] theorem State.modCell_jobs (s : State) (k : Nat) (f : CellState → CellState) : (s.modCell k f).jobs = s.jobs := rfl
@[simp] theorem State.modCell_regions (s : State) (k : Nat) (f : CellState → CellState) : (s.modCell k f).regions = s.regions := rfl
@[simp] theorem State.modCell_takes (s : State) (k : Nat) (f : CellState → CellState) : (s.modCell k f).takes = s.takes := rfl
@[simp] theorem State.modCell_images (s : State) (k : Nat) (f : CellState → CellState) : (s.modCell k f).images = s.images := rfl
@[simp] theorem State.modCell_planeImages (s : State) (k : Nat) (f : CellState → CellState) : (s.modCell k f).planeImages = s.planeImages := rfl
@[simp] theorem State.modCell_patches (s : State) (k : Nat) (f : CellState → CellState) : (s.modCell k f).patches = s.patches := rfl
@[simp] theorem State.modCell_exits (s : State) (k : Nat) (f : CellState → CellState) : (s.modCell k f).exits = s.exits := rfl
@[simp] theorem State.modCell_msgs (s : State) (k : Nat) (f : CellState → CellState) : (s.modCell k f).msgs = s.msgs := rfl
@[simp] theorem State.modCell_wire (s : State) (k : Nat) (f : CellState → CellState) : (s.modCell k f).wire = s.wire := rfl
@[simp] theorem State.modCell_pkg (s : State) (k : Nat) (f : CellState → CellState) : (s.modCell k f).pkg = s.pkg := rfl

/-! ## State.setRing -/

@[simp] theorem State.setRing_agenda (s : State) (k : Nat) (x : Ring) : (s.setRing k x).agenda = s.agenda := rfl
@[simp] theorem State.setRing_turn (s : State) (k : Nat) (x : Ring) : (s.setRing k x).turn = s.turn := rfl
@[simp] theorem State.setRing_cur (s : State) (k : Nat) (x : Ring) : (s.setRing k x).cur = s.cur := rfl
@[simp] theorem State.setRing_curCtx (s : State) (k : Nat) (x : Ring) : (s.setRing k x).curCtx = s.curCtx := rfl
@[simp] theorem State.setRing_clk (s : State) (k : Nat) (x : Ring) : (s.setRing k x).clk = s.clk := rfl
@[simp] theorem State.setRing_free (s : State) (k : Nat) (x : Ring) : (s.setRing k x).free = s.free := rfl
@[simp] theorem State.setRing_serial (s : State) (k : Nat) (x : Ring) : (s.setRing k x).serial = s.serial := rfl
@[simp] theorem State.setRing_mem (s : State) (k : Nat) (x : Ring) : (s.setRing k x).mem = s.mem := rfl
@[simp] theorem State.setRing_poison (s : State) (k : Nat) (x : Ring) : (s.setRing k x).poison = s.poison := rfl
@[simp] theorem State.setRing_bank (s : State) (k : Nat) (x : Ring) : (s.setRing k x).bank = s.bank := rfl
@[simp] theorem State.setRing_sideband (s : State) (k : Nat) (x : Ring) : (s.setRing k x).sideband = s.sideband := rfl
@[simp] theorem State.setRing_planes (s : State) (k : Nat) (x : Ring) : (s.setRing k x).planes = s.planes := rfl
@[simp] theorem State.setRing_cells (s : State) (k : Nat) (x : Ring) : (s.setRing k x).cells = s.cells := rfl
@[simp] theorem State.setRing_ctxs (s : State) (k : Nat) (x : Ring) : (s.setRing k x).ctxs = s.ctxs := rfl
@[simp] theorem State.setRing_cores (s : State) (k : Nat) (x : Ring) : (s.setRing k x).cores = s.cores := rfl
@[simp] theorem State.setRing_slices (s : State) (k : Nat) (x : Ring) : (s.setRing k x).slices = s.slices := rfl
@[simp] theorem State.setRing_dies (s : State) (k : Nat) (x : Ring) : (s.setRing k x).dies = s.dies := rfl
@[simp] theorem State.setRing_links (s : State) (k : Nat) (x : Ring) : (s.setRing k x).links = s.links := rfl
@[simp] theorem State.setRing_jobs (s : State) (k : Nat) (x : Ring) : (s.setRing k x).jobs = s.jobs := rfl
@[simp] theorem State.setRing_regions (s : State) (k : Nat) (x : Ring) : (s.setRing k x).regions = s.regions := rfl
@[simp] theorem State.setRing_takes (s : State) (k : Nat) (x : Ring) : (s.setRing k x).takes = s.takes := rfl
@[simp] theorem State.setRing_images (s : State) (k : Nat) (x : Ring) : (s.setRing k x).images = s.images := rfl
@[simp] theorem State.setRing_planeImages (s : State) (k : Nat) (x : Ring) : (s.setRing k x).planeImages = s.planeImages := rfl
@[simp] theorem State.setRing_patches (s : State) (k : Nat) (x : Ring) : (s.setRing k x).patches = s.patches := rfl
@[simp] theorem State.setRing_exits (s : State) (k : Nat) (x : Ring) : (s.setRing k x).exits = s.exits := rfl
@[simp] theorem State.setRing_msgs (s : State) (k : Nat) (x : Ring) : (s.setRing k x).msgs = s.msgs := rfl
@[simp] theorem State.setRing_wire (s : State) (k : Nat) (x : Ring) : (s.setRing k x).wire = s.wire := rfl
@[simp] theorem State.setRing_pkg (s : State) (k : Nat) (x : Ring) : (s.setRing k x).pkg = s.pkg := rfl

/-! ## State.modCtx -/

@[simp] theorem State.modCtx_agenda (s : State) (k : Nat) (f : Ctx → Ctx) : (s.modCtx k f).agenda = s.agenda := rfl
@[simp] theorem State.modCtx_turn (s : State) (k : Nat) (f : Ctx → Ctx) : (s.modCtx k f).turn = s.turn := rfl
@[simp] theorem State.modCtx_cur (s : State) (k : Nat) (f : Ctx → Ctx) : (s.modCtx k f).cur = s.cur := rfl
@[simp] theorem State.modCtx_curCtx (s : State) (k : Nat) (f : Ctx → Ctx) : (s.modCtx k f).curCtx = s.curCtx := rfl
@[simp] theorem State.modCtx_clk (s : State) (k : Nat) (f : Ctx → Ctx) : (s.modCtx k f).clk = s.clk := rfl
@[simp] theorem State.modCtx_free (s : State) (k : Nat) (f : Ctx → Ctx) : (s.modCtx k f).free = s.free := rfl
@[simp] theorem State.modCtx_serial (s : State) (k : Nat) (f : Ctx → Ctx) : (s.modCtx k f).serial = s.serial := rfl
@[simp] theorem State.modCtx_mem (s : State) (k : Nat) (f : Ctx → Ctx) : (s.modCtx k f).mem = s.mem := rfl
@[simp] theorem State.modCtx_poison (s : State) (k : Nat) (f : Ctx → Ctx) : (s.modCtx k f).poison = s.poison := rfl
@[simp] theorem State.modCtx_bank (s : State) (k : Nat) (f : Ctx → Ctx) : (s.modCtx k f).bank = s.bank := rfl
@[simp] theorem State.modCtx_sideband (s : State) (k : Nat) (f : Ctx → Ctx) : (s.modCtx k f).sideband = s.sideband := rfl
@[simp] theorem State.modCtx_planes (s : State) (k : Nat) (f : Ctx → Ctx) : (s.modCtx k f).planes = s.planes := rfl
@[simp] theorem State.modCtx_cells (s : State) (k : Nat) (f : Ctx → Ctx) : (s.modCtx k f).cells = s.cells := rfl
@[simp] theorem State.modCtx_rings (s : State) (k : Nat) (f : Ctx → Ctx) : (s.modCtx k f).rings = s.rings := rfl
@[simp] theorem State.modCtx_cores (s : State) (k : Nat) (f : Ctx → Ctx) : (s.modCtx k f).cores = s.cores := rfl
@[simp] theorem State.modCtx_slices (s : State) (k : Nat) (f : Ctx → Ctx) : (s.modCtx k f).slices = s.slices := rfl
@[simp] theorem State.modCtx_dies (s : State) (k : Nat) (f : Ctx → Ctx) : (s.modCtx k f).dies = s.dies := rfl
@[simp] theorem State.modCtx_links (s : State) (k : Nat) (f : Ctx → Ctx) : (s.modCtx k f).links = s.links := rfl
@[simp] theorem State.modCtx_jobs (s : State) (k : Nat) (f : Ctx → Ctx) : (s.modCtx k f).jobs = s.jobs := rfl
@[simp] theorem State.modCtx_regions (s : State) (k : Nat) (f : Ctx → Ctx) : (s.modCtx k f).regions = s.regions := rfl
@[simp] theorem State.modCtx_takes (s : State) (k : Nat) (f : Ctx → Ctx) : (s.modCtx k f).takes = s.takes := rfl
@[simp] theorem State.modCtx_images (s : State) (k : Nat) (f : Ctx → Ctx) : (s.modCtx k f).images = s.images := rfl
@[simp] theorem State.modCtx_planeImages (s : State) (k : Nat) (f : Ctx → Ctx) : (s.modCtx k f).planeImages = s.planeImages := rfl
@[simp] theorem State.modCtx_patches (s : State) (k : Nat) (f : Ctx → Ctx) : (s.modCtx k f).patches = s.patches := rfl
@[simp] theorem State.modCtx_exits (s : State) (k : Nat) (f : Ctx → Ctx) : (s.modCtx k f).exits = s.exits := rfl
@[simp] theorem State.modCtx_msgs (s : State) (k : Nat) (f : Ctx → Ctx) : (s.modCtx k f).msgs = s.msgs := rfl
@[simp] theorem State.modCtx_wire (s : State) (k : Nat) (f : Ctx → Ctx) : (s.modCtx k f).wire = s.wire := rfl
@[simp] theorem State.modCtx_pkg (s : State) (k : Nat) (f : Ctx → Ctx) : (s.modCtx k f).pkg = s.pkg := rfl

/-! ## State.modCore -/

@[simp] theorem State.modCore_agenda (s : State) (k : Nat) (f : Core → Core) : (s.modCore k f).agenda = s.agenda := rfl
@[simp] theorem State.modCore_turn (s : State) (k : Nat) (f : Core → Core) : (s.modCore k f).turn = s.turn := rfl
@[simp] theorem State.modCore_cur (s : State) (k : Nat) (f : Core → Core) : (s.modCore k f).cur = s.cur := rfl
@[simp] theorem State.modCore_curCtx (s : State) (k : Nat) (f : Core → Core) : (s.modCore k f).curCtx = s.curCtx := rfl
@[simp] theorem State.modCore_clk (s : State) (k : Nat) (f : Core → Core) : (s.modCore k f).clk = s.clk := rfl
@[simp] theorem State.modCore_free (s : State) (k : Nat) (f : Core → Core) : (s.modCore k f).free = s.free := rfl
@[simp] theorem State.modCore_serial (s : State) (k : Nat) (f : Core → Core) : (s.modCore k f).serial = s.serial := rfl
@[simp] theorem State.modCore_mem (s : State) (k : Nat) (f : Core → Core) : (s.modCore k f).mem = s.mem := rfl
@[simp] theorem State.modCore_poison (s : State) (k : Nat) (f : Core → Core) : (s.modCore k f).poison = s.poison := rfl
@[simp] theorem State.modCore_bank (s : State) (k : Nat) (f : Core → Core) : (s.modCore k f).bank = s.bank := rfl
@[simp] theorem State.modCore_sideband (s : State) (k : Nat) (f : Core → Core) : (s.modCore k f).sideband = s.sideband := rfl
@[simp] theorem State.modCore_planes (s : State) (k : Nat) (f : Core → Core) : (s.modCore k f).planes = s.planes := rfl
@[simp] theorem State.modCore_cells (s : State) (k : Nat) (f : Core → Core) : (s.modCore k f).cells = s.cells := rfl
@[simp] theorem State.modCore_rings (s : State) (k : Nat) (f : Core → Core) : (s.modCore k f).rings = s.rings := rfl
@[simp] theorem State.modCore_ctxs (s : State) (k : Nat) (f : Core → Core) : (s.modCore k f).ctxs = s.ctxs := rfl
@[simp] theorem State.modCore_slices (s : State) (k : Nat) (f : Core → Core) : (s.modCore k f).slices = s.slices := rfl
@[simp] theorem State.modCore_dies (s : State) (k : Nat) (f : Core → Core) : (s.modCore k f).dies = s.dies := rfl
@[simp] theorem State.modCore_links (s : State) (k : Nat) (f : Core → Core) : (s.modCore k f).links = s.links := rfl
@[simp] theorem State.modCore_jobs (s : State) (k : Nat) (f : Core → Core) : (s.modCore k f).jobs = s.jobs := rfl
@[simp] theorem State.modCore_regions (s : State) (k : Nat) (f : Core → Core) : (s.modCore k f).regions = s.regions := rfl
@[simp] theorem State.modCore_takes (s : State) (k : Nat) (f : Core → Core) : (s.modCore k f).takes = s.takes := rfl
@[simp] theorem State.modCore_images (s : State) (k : Nat) (f : Core → Core) : (s.modCore k f).images = s.images := rfl
@[simp] theorem State.modCore_planeImages (s : State) (k : Nat) (f : Core → Core) : (s.modCore k f).planeImages = s.planeImages := rfl
@[simp] theorem State.modCore_patches (s : State) (k : Nat) (f : Core → Core) : (s.modCore k f).patches = s.patches := rfl
@[simp] theorem State.modCore_exits (s : State) (k : Nat) (f : Core → Core) : (s.modCore k f).exits = s.exits := rfl
@[simp] theorem State.modCore_msgs (s : State) (k : Nat) (f : Core → Core) : (s.modCore k f).msgs = s.msgs := rfl
@[simp] theorem State.modCore_wire (s : State) (k : Nat) (f : Core → Core) : (s.modCore k f).wire = s.wire := rfl
@[simp] theorem State.modCore_pkg (s : State) (k : Nat) (f : Core → Core) : (s.modCore k f).pkg = s.pkg := rfl

/-! ## State.modSlice -/

@[simp] theorem State.modSlice_agenda (s : State) (k : Nat) (f : Slice → Slice) : (s.modSlice k f).agenda = s.agenda := rfl
@[simp] theorem State.modSlice_turn (s : State) (k : Nat) (f : Slice → Slice) : (s.modSlice k f).turn = s.turn := rfl
@[simp] theorem State.modSlice_cur (s : State) (k : Nat) (f : Slice → Slice) : (s.modSlice k f).cur = s.cur := rfl
@[simp] theorem State.modSlice_curCtx (s : State) (k : Nat) (f : Slice → Slice) : (s.modSlice k f).curCtx = s.curCtx := rfl
@[simp] theorem State.modSlice_clk (s : State) (k : Nat) (f : Slice → Slice) : (s.modSlice k f).clk = s.clk := rfl
@[simp] theorem State.modSlice_free (s : State) (k : Nat) (f : Slice → Slice) : (s.modSlice k f).free = s.free := rfl
@[simp] theorem State.modSlice_serial (s : State) (k : Nat) (f : Slice → Slice) : (s.modSlice k f).serial = s.serial := rfl
@[simp] theorem State.modSlice_mem (s : State) (k : Nat) (f : Slice → Slice) : (s.modSlice k f).mem = s.mem := rfl
@[simp] theorem State.modSlice_poison (s : State) (k : Nat) (f : Slice → Slice) : (s.modSlice k f).poison = s.poison := rfl
@[simp] theorem State.modSlice_bank (s : State) (k : Nat) (f : Slice → Slice) : (s.modSlice k f).bank = s.bank := rfl
@[simp] theorem State.modSlice_sideband (s : State) (k : Nat) (f : Slice → Slice) : (s.modSlice k f).sideband = s.sideband := rfl
@[simp] theorem State.modSlice_planes (s : State) (k : Nat) (f : Slice → Slice) : (s.modSlice k f).planes = s.planes := rfl
@[simp] theorem State.modSlice_cells (s : State) (k : Nat) (f : Slice → Slice) : (s.modSlice k f).cells = s.cells := rfl
@[simp] theorem State.modSlice_rings (s : State) (k : Nat) (f : Slice → Slice) : (s.modSlice k f).rings = s.rings := rfl
@[simp] theorem State.modSlice_ctxs (s : State) (k : Nat) (f : Slice → Slice) : (s.modSlice k f).ctxs = s.ctxs := rfl
@[simp] theorem State.modSlice_cores (s : State) (k : Nat) (f : Slice → Slice) : (s.modSlice k f).cores = s.cores := rfl
@[simp] theorem State.modSlice_dies (s : State) (k : Nat) (f : Slice → Slice) : (s.modSlice k f).dies = s.dies := rfl
@[simp] theorem State.modSlice_links (s : State) (k : Nat) (f : Slice → Slice) : (s.modSlice k f).links = s.links := rfl
@[simp] theorem State.modSlice_jobs (s : State) (k : Nat) (f : Slice → Slice) : (s.modSlice k f).jobs = s.jobs := rfl
@[simp] theorem State.modSlice_regions (s : State) (k : Nat) (f : Slice → Slice) : (s.modSlice k f).regions = s.regions := rfl
@[simp] theorem State.modSlice_takes (s : State) (k : Nat) (f : Slice → Slice) : (s.modSlice k f).takes = s.takes := rfl
@[simp] theorem State.modSlice_images (s : State) (k : Nat) (f : Slice → Slice) : (s.modSlice k f).images = s.images := rfl
@[simp] theorem State.modSlice_planeImages (s : State) (k : Nat) (f : Slice → Slice) : (s.modSlice k f).planeImages = s.planeImages := rfl
@[simp] theorem State.modSlice_patches (s : State) (k : Nat) (f : Slice → Slice) : (s.modSlice k f).patches = s.patches := rfl
@[simp] theorem State.modSlice_exits (s : State) (k : Nat) (f : Slice → Slice) : (s.modSlice k f).exits = s.exits := rfl
@[simp] theorem State.modSlice_msgs (s : State) (k : Nat) (f : Slice → Slice) : (s.modSlice k f).msgs = s.msgs := rfl
@[simp] theorem State.modSlice_wire (s : State) (k : Nat) (f : Slice → Slice) : (s.modSlice k f).wire = s.wire := rfl
@[simp] theorem State.modSlice_pkg (s : State) (k : Nat) (f : Slice → Slice) : (s.modSlice k f).pkg = s.pkg := rfl

/-! ## State.modStream -/

@[simp] theorem State.modStream_agenda (s : State) (k : Nat) (f : Stream → Stream) : (s.modStream k f).agenda = s.agenda := rfl
@[simp] theorem State.modStream_turn (s : State) (k : Nat) (f : Stream → Stream) : (s.modStream k f).turn = s.turn := rfl
@[simp] theorem State.modStream_cur (s : State) (k : Nat) (f : Stream → Stream) : (s.modStream k f).cur = s.cur := rfl
@[simp] theorem State.modStream_curCtx (s : State) (k : Nat) (f : Stream → Stream) : (s.modStream k f).curCtx = s.curCtx := rfl
@[simp] theorem State.modStream_clk (s : State) (k : Nat) (f : Stream → Stream) : (s.modStream k f).clk = s.clk := rfl
@[simp] theorem State.modStream_free (s : State) (k : Nat) (f : Stream → Stream) : (s.modStream k f).free = s.free := rfl
@[simp] theorem State.modStream_serial (s : State) (k : Nat) (f : Stream → Stream) : (s.modStream k f).serial = s.serial := rfl
@[simp] theorem State.modStream_mem (s : State) (k : Nat) (f : Stream → Stream) : (s.modStream k f).mem = s.mem := rfl
@[simp] theorem State.modStream_poison (s : State) (k : Nat) (f : Stream → Stream) : (s.modStream k f).poison = s.poison := rfl
@[simp] theorem State.modStream_bank (s : State) (k : Nat) (f : Stream → Stream) : (s.modStream k f).bank = s.bank := rfl
@[simp] theorem State.modStream_sideband (s : State) (k : Nat) (f : Stream → Stream) : (s.modStream k f).sideband = s.sideband := rfl
@[simp] theorem State.modStream_planes (s : State) (k : Nat) (f : Stream → Stream) : (s.modStream k f).planes = s.planes := rfl
@[simp] theorem State.modStream_cells (s : State) (k : Nat) (f : Stream → Stream) : (s.modStream k f).cells = s.cells := rfl
@[simp] theorem State.modStream_rings (s : State) (k : Nat) (f : Stream → Stream) : (s.modStream k f).rings = s.rings := rfl
@[simp] theorem State.modStream_ctxs (s : State) (k : Nat) (f : Stream → Stream) : (s.modStream k f).ctxs = s.ctxs := rfl
@[simp] theorem State.modStream_cores (s : State) (k : Nat) (f : Stream → Stream) : (s.modStream k f).cores = s.cores := rfl
@[simp] theorem State.modStream_dies (s : State) (k : Nat) (f : Stream → Stream) : (s.modStream k f).dies = s.dies := rfl
@[simp] theorem State.modStream_links (s : State) (k : Nat) (f : Stream → Stream) : (s.modStream k f).links = s.links := rfl
@[simp] theorem State.modStream_jobs (s : State) (k : Nat) (f : Stream → Stream) : (s.modStream k f).jobs = s.jobs := rfl
@[simp] theorem State.modStream_regions (s : State) (k : Nat) (f : Stream → Stream) : (s.modStream k f).regions = s.regions := rfl
@[simp] theorem State.modStream_takes (s : State) (k : Nat) (f : Stream → Stream) : (s.modStream k f).takes = s.takes := rfl
@[simp] theorem State.modStream_images (s : State) (k : Nat) (f : Stream → Stream) : (s.modStream k f).images = s.images := rfl
@[simp] theorem State.modStream_planeImages (s : State) (k : Nat) (f : Stream → Stream) : (s.modStream k f).planeImages = s.planeImages := rfl
@[simp] theorem State.modStream_patches (s : State) (k : Nat) (f : Stream → Stream) : (s.modStream k f).patches = s.patches := rfl
@[simp] theorem State.modStream_exits (s : State) (k : Nat) (f : Stream → Stream) : (s.modStream k f).exits = s.exits := rfl
@[simp] theorem State.modStream_msgs (s : State) (k : Nat) (f : Stream → Stream) : (s.modStream k f).msgs = s.msgs := rfl
@[simp] theorem State.modStream_wire (s : State) (k : Nat) (f : Stream → Stream) : (s.modStream k f).wire = s.wire := rfl
@[simp] theorem State.modStream_pkg (s : State) (k : Nat) (f : Stream → Stream) : (s.modStream k f).pkg = s.pkg := rfl

/-! ## State.modDie -/

@[simp] theorem State.modDie_agenda (s : State) (k : Nat) (f : Die → Die) : (s.modDie k f).agenda = s.agenda := rfl
@[simp] theorem State.modDie_turn (s : State) (k : Nat) (f : Die → Die) : (s.modDie k f).turn = s.turn := rfl
@[simp] theorem State.modDie_cur (s : State) (k : Nat) (f : Die → Die) : (s.modDie k f).cur = s.cur := rfl
@[simp] theorem State.modDie_curCtx (s : State) (k : Nat) (f : Die → Die) : (s.modDie k f).curCtx = s.curCtx := rfl
@[simp] theorem State.modDie_clk (s : State) (k : Nat) (f : Die → Die) : (s.modDie k f).clk = s.clk := rfl
@[simp] theorem State.modDie_free (s : State) (k : Nat) (f : Die → Die) : (s.modDie k f).free = s.free := rfl
@[simp] theorem State.modDie_serial (s : State) (k : Nat) (f : Die → Die) : (s.modDie k f).serial = s.serial := rfl
@[simp] theorem State.modDie_mem (s : State) (k : Nat) (f : Die → Die) : (s.modDie k f).mem = s.mem := rfl
@[simp] theorem State.modDie_poison (s : State) (k : Nat) (f : Die → Die) : (s.modDie k f).poison = s.poison := rfl
@[simp] theorem State.modDie_bank (s : State) (k : Nat) (f : Die → Die) : (s.modDie k f).bank = s.bank := rfl
@[simp] theorem State.modDie_sideband (s : State) (k : Nat) (f : Die → Die) : (s.modDie k f).sideband = s.sideband := rfl
@[simp] theorem State.modDie_planes (s : State) (k : Nat) (f : Die → Die) : (s.modDie k f).planes = s.planes := rfl
@[simp] theorem State.modDie_cells (s : State) (k : Nat) (f : Die → Die) : (s.modDie k f).cells = s.cells := rfl
@[simp] theorem State.modDie_rings (s : State) (k : Nat) (f : Die → Die) : (s.modDie k f).rings = s.rings := rfl
@[simp] theorem State.modDie_ctxs (s : State) (k : Nat) (f : Die → Die) : (s.modDie k f).ctxs = s.ctxs := rfl
@[simp] theorem State.modDie_cores (s : State) (k : Nat) (f : Die → Die) : (s.modDie k f).cores = s.cores := rfl
@[simp] theorem State.modDie_slices (s : State) (k : Nat) (f : Die → Die) : (s.modDie k f).slices = s.slices := rfl
@[simp] theorem State.modDie_links (s : State) (k : Nat) (f : Die → Die) : (s.modDie k f).links = s.links := rfl
@[simp] theorem State.modDie_jobs (s : State) (k : Nat) (f : Die → Die) : (s.modDie k f).jobs = s.jobs := rfl
@[simp] theorem State.modDie_regions (s : State) (k : Nat) (f : Die → Die) : (s.modDie k f).regions = s.regions := rfl
@[simp] theorem State.modDie_takes (s : State) (k : Nat) (f : Die → Die) : (s.modDie k f).takes = s.takes := rfl
@[simp] theorem State.modDie_images (s : State) (k : Nat) (f : Die → Die) : (s.modDie k f).images = s.images := rfl
@[simp] theorem State.modDie_planeImages (s : State) (k : Nat) (f : Die → Die) : (s.modDie k f).planeImages = s.planeImages := rfl
@[simp] theorem State.modDie_patches (s : State) (k : Nat) (f : Die → Die) : (s.modDie k f).patches = s.patches := rfl
@[simp] theorem State.modDie_exits (s : State) (k : Nat) (f : Die → Die) : (s.modDie k f).exits = s.exits := rfl
@[simp] theorem State.modDie_msgs (s : State) (k : Nat) (f : Die → Die) : (s.modDie k f).msgs = s.msgs := rfl
@[simp] theorem State.modDie_wire (s : State) (k : Nat) (f : Die → Die) : (s.modDie k f).wire = s.wire := rfl
@[simp] theorem State.modDie_pkg (s : State) (k : Nat) (f : Die → Die) : (s.modDie k f).pkg = s.pkg := rfl

/-! ## State.modLink -/

@[simp] theorem State.modLink_agenda (s : State) (k : Nat) (f : Link → Link) : (s.modLink k f).agenda = s.agenda := rfl
@[simp] theorem State.modLink_turn (s : State) (k : Nat) (f : Link → Link) : (s.modLink k f).turn = s.turn := rfl
@[simp] theorem State.modLink_cur (s : State) (k : Nat) (f : Link → Link) : (s.modLink k f).cur = s.cur := rfl
@[simp] theorem State.modLink_curCtx (s : State) (k : Nat) (f : Link → Link) : (s.modLink k f).curCtx = s.curCtx := rfl
@[simp] theorem State.modLink_clk (s : State) (k : Nat) (f : Link → Link) : (s.modLink k f).clk = s.clk := rfl
@[simp] theorem State.modLink_free (s : State) (k : Nat) (f : Link → Link) : (s.modLink k f).free = s.free := rfl
@[simp] theorem State.modLink_serial (s : State) (k : Nat) (f : Link → Link) : (s.modLink k f).serial = s.serial := rfl
@[simp] theorem State.modLink_mem (s : State) (k : Nat) (f : Link → Link) : (s.modLink k f).mem = s.mem := rfl
@[simp] theorem State.modLink_poison (s : State) (k : Nat) (f : Link → Link) : (s.modLink k f).poison = s.poison := rfl
@[simp] theorem State.modLink_bank (s : State) (k : Nat) (f : Link → Link) : (s.modLink k f).bank = s.bank := rfl
@[simp] theorem State.modLink_sideband (s : State) (k : Nat) (f : Link → Link) : (s.modLink k f).sideband = s.sideband := rfl
@[simp] theorem State.modLink_planes (s : State) (k : Nat) (f : Link → Link) : (s.modLink k f).planes = s.planes := rfl
@[simp] theorem State.modLink_cells (s : State) (k : Nat) (f : Link → Link) : (s.modLink k f).cells = s.cells := rfl
@[simp] theorem State.modLink_rings (s : State) (k : Nat) (f : Link → Link) : (s.modLink k f).rings = s.rings := rfl
@[simp] theorem State.modLink_ctxs (s : State) (k : Nat) (f : Link → Link) : (s.modLink k f).ctxs = s.ctxs := rfl
@[simp] theorem State.modLink_cores (s : State) (k : Nat) (f : Link → Link) : (s.modLink k f).cores = s.cores := rfl
@[simp] theorem State.modLink_slices (s : State) (k : Nat) (f : Link → Link) : (s.modLink k f).slices = s.slices := rfl
@[simp] theorem State.modLink_dies (s : State) (k : Nat) (f : Link → Link) : (s.modLink k f).dies = s.dies := rfl
@[simp] theorem State.modLink_jobs (s : State) (k : Nat) (f : Link → Link) : (s.modLink k f).jobs = s.jobs := rfl
@[simp] theorem State.modLink_regions (s : State) (k : Nat) (f : Link → Link) : (s.modLink k f).regions = s.regions := rfl
@[simp] theorem State.modLink_takes (s : State) (k : Nat) (f : Link → Link) : (s.modLink k f).takes = s.takes := rfl
@[simp] theorem State.modLink_images (s : State) (k : Nat) (f : Link → Link) : (s.modLink k f).images = s.images := rfl
@[simp] theorem State.modLink_planeImages (s : State) (k : Nat) (f : Link → Link) : (s.modLink k f).planeImages = s.planeImages := rfl
@[simp] theorem State.modLink_patches (s : State) (k : Nat) (f : Link → Link) : (s.modLink k f).patches = s.patches := rfl
@[simp] theorem State.modLink_exits (s : State) (k : Nat) (f : Link → Link) : (s.modLink k f).exits = s.exits := rfl
@[simp] theorem State.modLink_msgs (s : State) (k : Nat) (f : Link → Link) : (s.modLink k f).msgs = s.msgs := rfl
@[simp] theorem State.modLink_wire (s : State) (k : Nat) (f : Link → Link) : (s.modLink k f).wire = s.wire := rfl
@[simp] theorem State.modLink_pkg (s : State) (k : Nat) (f : Link → Link) : (s.modLink k f).pkg = s.pkg := rfl

/-! ## State.setByte -/

@[simp] theorem State.setByte_agenda (s : State) (k : Nat) (b : Byte) : (s.setByte k b).agenda = s.agenda := rfl
@[simp] theorem State.setByte_turn (s : State) (k : Nat) (b : Byte) : (s.setByte k b).turn = s.turn := rfl
@[simp] theorem State.setByte_cur (s : State) (k : Nat) (b : Byte) : (s.setByte k b).cur = s.cur := rfl
@[simp] theorem State.setByte_curCtx (s : State) (k : Nat) (b : Byte) : (s.setByte k b).curCtx = s.curCtx := rfl
@[simp] theorem State.setByte_clk (s : State) (k : Nat) (b : Byte) : (s.setByte k b).clk = s.clk := rfl
@[simp] theorem State.setByte_free (s : State) (k : Nat) (b : Byte) : (s.setByte k b).free = s.free := rfl
@[simp] theorem State.setByte_serial (s : State) (k : Nat) (b : Byte) : (s.setByte k b).serial = s.serial := rfl
@[simp] theorem State.setByte_poison (s : State) (k : Nat) (b : Byte) : (s.setByte k b).poison = s.poison := rfl
@[simp] theorem State.setByte_bank (s : State) (k : Nat) (b : Byte) : (s.setByte k b).bank = s.bank := rfl
@[simp] theorem State.setByte_sideband (s : State) (k : Nat) (b : Byte) : (s.setByte k b).sideband = s.sideband := rfl
@[simp] theorem State.setByte_planes (s : State) (k : Nat) (b : Byte) : (s.setByte k b).planes = s.planes := rfl
@[simp] theorem State.setByte_cells (s : State) (k : Nat) (b : Byte) : (s.setByte k b).cells = s.cells := rfl
@[simp] theorem State.setByte_rings (s : State) (k : Nat) (b : Byte) : (s.setByte k b).rings = s.rings := rfl
@[simp] theorem State.setByte_ctxs (s : State) (k : Nat) (b : Byte) : (s.setByte k b).ctxs = s.ctxs := rfl
@[simp] theorem State.setByte_cores (s : State) (k : Nat) (b : Byte) : (s.setByte k b).cores = s.cores := rfl
@[simp] theorem State.setByte_slices (s : State) (k : Nat) (b : Byte) : (s.setByte k b).slices = s.slices := rfl
@[simp] theorem State.setByte_dies (s : State) (k : Nat) (b : Byte) : (s.setByte k b).dies = s.dies := rfl
@[simp] theorem State.setByte_links (s : State) (k : Nat) (b : Byte) : (s.setByte k b).links = s.links := rfl
@[simp] theorem State.setByte_jobs (s : State) (k : Nat) (b : Byte) : (s.setByte k b).jobs = s.jobs := rfl
@[simp] theorem State.setByte_regions (s : State) (k : Nat) (b : Byte) : (s.setByte k b).regions = s.regions := rfl
@[simp] theorem State.setByte_takes (s : State) (k : Nat) (b : Byte) : (s.setByte k b).takes = s.takes := rfl
@[simp] theorem State.setByte_images (s : State) (k : Nat) (b : Byte) : (s.setByte k b).images = s.images := rfl
@[simp] theorem State.setByte_planeImages (s : State) (k : Nat) (b : Byte) : (s.setByte k b).planeImages = s.planeImages := rfl
@[simp] theorem State.setByte_patches (s : State) (k : Nat) (b : Byte) : (s.setByte k b).patches = s.patches := rfl
@[simp] theorem State.setByte_exits (s : State) (k : Nat) (b : Byte) : (s.setByte k b).exits = s.exits := rfl
@[simp] theorem State.setByte_msgs (s : State) (k : Nat) (b : Byte) : (s.setByte k b).msgs = s.msgs := rfl
@[simp] theorem State.setByte_wire (s : State) (k : Nat) (b : Byte) : (s.setByte k b).wire = s.wire := rfl
@[simp] theorem State.setByte_pkg (s : State) (k : Nat) (b : Byte) : (s.setByte k b).pkg = s.pkg := rfl

/-! ## State.bump -/

@[simp] theorem State.bump_agenda (s : State) : (s.bump).agenda = s.agenda := rfl
@[simp] theorem State.bump_turn (s : State) : (s.bump).turn = s.turn := rfl
@[simp] theorem State.bump_cur (s : State) : (s.bump).cur = s.cur := rfl
@[simp] theorem State.bump_curCtx (s : State) : (s.bump).curCtx = s.curCtx := rfl
@[simp] theorem State.bump_clk (s : State) : (s.bump).clk = s.clk := rfl
@[simp] theorem State.bump_free (s : State) : (s.bump).free = s.free := rfl
@[simp] theorem State.bump_mem (s : State) : (s.bump).mem = s.mem := rfl
@[simp] theorem State.bump_poison (s : State) : (s.bump).poison = s.poison := rfl
@[simp] theorem State.bump_bank (s : State) : (s.bump).bank = s.bank := rfl
@[simp] theorem State.bump_sideband (s : State) : (s.bump).sideband = s.sideband := rfl
@[simp] theorem State.bump_planes (s : State) : (s.bump).planes = s.planes := rfl
@[simp] theorem State.bump_cells (s : State) : (s.bump).cells = s.cells := rfl
@[simp] theorem State.bump_rings (s : State) : (s.bump).rings = s.rings := rfl
@[simp] theorem State.bump_ctxs (s : State) : (s.bump).ctxs = s.ctxs := rfl
@[simp] theorem State.bump_cores (s : State) : (s.bump).cores = s.cores := rfl
@[simp] theorem State.bump_slices (s : State) : (s.bump).slices = s.slices := rfl
@[simp] theorem State.bump_dies (s : State) : (s.bump).dies = s.dies := rfl
@[simp] theorem State.bump_links (s : State) : (s.bump).links = s.links := rfl
@[simp] theorem State.bump_jobs (s : State) : (s.bump).jobs = s.jobs := rfl
@[simp] theorem State.bump_regions (s : State) : (s.bump).regions = s.regions := rfl
@[simp] theorem State.bump_takes (s : State) : (s.bump).takes = s.takes := rfl
@[simp] theorem State.bump_images (s : State) : (s.bump).images = s.images := rfl
@[simp] theorem State.bump_planeImages (s : State) : (s.bump).planeImages = s.planeImages := rfl
@[simp] theorem State.bump_patches (s : State) : (s.bump).patches = s.patches := rfl
@[simp] theorem State.bump_exits (s : State) : (s.bump).exits = s.exits := rfl
@[simp] theorem State.bump_msgs (s : State) : (s.bump).msgs = s.msgs := rfl
@[simp] theorem State.bump_wire (s : State) : (s.bump).wire = s.wire := rfl
@[simp] theorem State.bump_pkg (s : State) : (s.bump).pkg = s.pkg := rfl

/-! ## State.goto -/

@[simp] theorem State.goto_agenda (s : State) (t : Nat) : (s.goto t).agenda = s.agenda := rfl
@[simp] theorem State.goto_turn (s : State) (t : Nat) : (s.goto t).turn = s.turn := rfl
@[simp] theorem State.goto_cur (s : State) (t : Nat) : (s.goto t).cur = s.cur := rfl
@[simp] theorem State.goto_curCtx (s : State) (t : Nat) : (s.goto t).curCtx = s.curCtx := rfl
@[simp] theorem State.goto_clk (s : State) (t : Nat) : (s.goto t).clk = s.clk := rfl
@[simp] theorem State.goto_free (s : State) (t : Nat) : (s.goto t).free = s.free := rfl
@[simp] theorem State.goto_serial (s : State) (t : Nat) : (s.goto t).serial = s.serial := rfl
@[simp] theorem State.goto_mem (s : State) (t : Nat) : (s.goto t).mem = s.mem := rfl
@[simp] theorem State.goto_poison (s : State) (t : Nat) : (s.goto t).poison = s.poison := rfl
@[simp] theorem State.goto_bank (s : State) (t : Nat) : (s.goto t).bank = s.bank := rfl
@[simp] theorem State.goto_sideband (s : State) (t : Nat) : (s.goto t).sideband = s.sideband := rfl
@[simp] theorem State.goto_cells (s : State) (t : Nat) : (s.goto t).cells = s.cells := rfl
@[simp] theorem State.goto_rings (s : State) (t : Nat) : (s.goto t).rings = s.rings := rfl
@[simp] theorem State.goto_ctxs (s : State) (t : Nat) : (s.goto t).ctxs = s.ctxs := rfl
@[simp] theorem State.goto_cores (s : State) (t : Nat) : (s.goto t).cores = s.cores := rfl
@[simp] theorem State.goto_slices (s : State) (t : Nat) : (s.goto t).slices = s.slices := rfl
@[simp] theorem State.goto_dies (s : State) (t : Nat) : (s.goto t).dies = s.dies := rfl
@[simp] theorem State.goto_links (s : State) (t : Nat) : (s.goto t).links = s.links := rfl
@[simp] theorem State.goto_jobs (s : State) (t : Nat) : (s.goto t).jobs = s.jobs := rfl
@[simp] theorem State.goto_regions (s : State) (t : Nat) : (s.goto t).regions = s.regions := rfl
@[simp] theorem State.goto_takes (s : State) (t : Nat) : (s.goto t).takes = s.takes := rfl
@[simp] theorem State.goto_images (s : State) (t : Nat) : (s.goto t).images = s.images := rfl
@[simp] theorem State.goto_planeImages (s : State) (t : Nat) : (s.goto t).planeImages = s.planeImages := rfl
@[simp] theorem State.goto_patches (s : State) (t : Nat) : (s.goto t).patches = s.patches := rfl
@[simp] theorem State.goto_exits (s : State) (t : Nat) : (s.goto t).exits = s.exits := rfl
@[simp] theorem State.goto_msgs (s : State) (t : Nat) : (s.goto t).msgs = s.msgs := rfl
@[simp] theorem State.goto_wire (s : State) (t : Nat) : (s.goto t).wire = s.wire := rfl
@[simp] theorem State.goto_pkg (s : State) (t : Nat) : (s.goto t).pkg = s.pkg := rfl

/-! ## State.adv -/

@[simp] theorem State.adv_agenda (s : State) : (s.adv).agenda = s.agenda := rfl
@[simp] theorem State.adv_turn (s : State) : (s.adv).turn = s.turn := rfl
@[simp] theorem State.adv_cur (s : State) : (s.adv).cur = s.cur := rfl
@[simp] theorem State.adv_curCtx (s : State) : (s.adv).curCtx = s.curCtx := rfl
@[simp] theorem State.adv_clk (s : State) : (s.adv).clk = s.clk := rfl
@[simp] theorem State.adv_free (s : State) : (s.adv).free = s.free := rfl
@[simp] theorem State.adv_serial (s : State) : (s.adv).serial = s.serial := rfl
@[simp] theorem State.adv_mem (s : State) : (s.adv).mem = s.mem := rfl
@[simp] theorem State.adv_poison (s : State) : (s.adv).poison = s.poison := rfl
@[simp] theorem State.adv_bank (s : State) : (s.adv).bank = s.bank := rfl
@[simp] theorem State.adv_sideband (s : State) : (s.adv).sideband = s.sideband := rfl
@[simp] theorem State.adv_cells (s : State) : (s.adv).cells = s.cells := rfl
@[simp] theorem State.adv_rings (s : State) : (s.adv).rings = s.rings := rfl
@[simp] theorem State.adv_ctxs (s : State) : (s.adv).ctxs = s.ctxs := rfl
@[simp] theorem State.adv_cores (s : State) : (s.adv).cores = s.cores := rfl
@[simp] theorem State.adv_slices (s : State) : (s.adv).slices = s.slices := rfl
@[simp] theorem State.adv_dies (s : State) : (s.adv).dies = s.dies := rfl
@[simp] theorem State.adv_links (s : State) : (s.adv).links = s.links := rfl
@[simp] theorem State.adv_jobs (s : State) : (s.adv).jobs = s.jobs := rfl
@[simp] theorem State.adv_regions (s : State) : (s.adv).regions = s.regions := rfl
@[simp] theorem State.adv_takes (s : State) : (s.adv).takes = s.takes := rfl
@[simp] theorem State.adv_images (s : State) : (s.adv).images = s.images := rfl
@[simp] theorem State.adv_planeImages (s : State) : (s.adv).planeImages = s.planeImages := rfl
@[simp] theorem State.adv_patches (s : State) : (s.adv).patches = s.patches := rfl
@[simp] theorem State.adv_exits (s : State) : (s.adv).exits = s.exits := rfl
@[simp] theorem State.adv_msgs (s : State) : (s.adv).msgs = s.msgs := rfl
@[simp] theorem State.adv_wire (s : State) : (s.adv).wire = s.wire := rfl
@[simp] theorem State.adv_pkg (s : State) : (s.adv).pkg = s.pkg := rfl

/-! ## State.hold -/

@[simp] theorem State.hold_agenda (s : State) (k : WaitKind) (n : Nat) : (s.hold k n).agenda = s.agenda := rfl
@[simp] theorem State.hold_turn (s : State) (k : WaitKind) (n : Nat) : (s.hold k n).turn = s.turn := rfl
@[simp] theorem State.hold_cur (s : State) (k : WaitKind) (n : Nat) : (s.hold k n).cur = s.cur := rfl
@[simp] theorem State.hold_curCtx (s : State) (k : WaitKind) (n : Nat) : (s.hold k n).curCtx = s.curCtx := rfl
@[simp] theorem State.hold_clk (s : State) (k : WaitKind) (n : Nat) : (s.hold k n).clk = s.clk := rfl
@[simp] theorem State.hold_free (s : State) (k : WaitKind) (n : Nat) : (s.hold k n).free = s.free := rfl
@[simp] theorem State.hold_serial (s : State) (k : WaitKind) (n : Nat) : (s.hold k n).serial = s.serial := rfl
@[simp] theorem State.hold_mem (s : State) (k : WaitKind) (n : Nat) : (s.hold k n).mem = s.mem := rfl
@[simp] theorem State.hold_poison (s : State) (k : WaitKind) (n : Nat) : (s.hold k n).poison = s.poison := rfl
@[simp] theorem State.hold_bank (s : State) (k : WaitKind) (n : Nat) : (s.hold k n).bank = s.bank := rfl
@[simp] theorem State.hold_sideband (s : State) (k : WaitKind) (n : Nat) : (s.hold k n).sideband = s.sideband := rfl
@[simp] theorem State.hold_cells (s : State) (k : WaitKind) (n : Nat) : (s.hold k n).cells = s.cells := rfl
@[simp] theorem State.hold_rings (s : State) (k : WaitKind) (n : Nat) : (s.hold k n).rings = s.rings := rfl
@[simp] theorem State.hold_ctxs (s : State) (k : WaitKind) (n : Nat) : (s.hold k n).ctxs = s.ctxs := rfl
@[simp] theorem State.hold_cores (s : State) (k : WaitKind) (n : Nat) : (s.hold k n).cores = s.cores := rfl
@[simp] theorem State.hold_slices (s : State) (k : WaitKind) (n : Nat) : (s.hold k n).slices = s.slices := rfl
@[simp] theorem State.hold_dies (s : State) (k : WaitKind) (n : Nat) : (s.hold k n).dies = s.dies := rfl
@[simp] theorem State.hold_links (s : State) (k : WaitKind) (n : Nat) : (s.hold k n).links = s.links := rfl
@[simp] theorem State.hold_jobs (s : State) (k : WaitKind) (n : Nat) : (s.hold k n).jobs = s.jobs := rfl
@[simp] theorem State.hold_regions (s : State) (k : WaitKind) (n : Nat) : (s.hold k n).regions = s.regions := rfl
@[simp] theorem State.hold_takes (s : State) (k : WaitKind) (n : Nat) : (s.hold k n).takes = s.takes := rfl
@[simp] theorem State.hold_images (s : State) (k : WaitKind) (n : Nat) : (s.hold k n).images = s.images := rfl
@[simp] theorem State.hold_planeImages (s : State) (k : WaitKind) (n : Nat) : (s.hold k n).planeImages = s.planeImages := rfl
@[simp] theorem State.hold_patches (s : State) (k : WaitKind) (n : Nat) : (s.hold k n).patches = s.patches := rfl
@[simp] theorem State.hold_exits (s : State) (k : WaitKind) (n : Nat) : (s.hold k n).exits = s.exits := rfl
@[simp] theorem State.hold_msgs (s : State) (k : WaitKind) (n : Nat) : (s.hold k n).msgs = s.msgs := rfl
@[simp] theorem State.hold_wire (s : State) (k : WaitKind) (n : Nat) : (s.hold k n).wire = s.wire := rfl
@[simp] theorem State.hold_pkg (s : State) (k : WaitKind) (n : Nat) : (s.hold k n).pkg = s.pkg := rfl

/-! ## State.modRing -/

@[simp] theorem State.modRing_agenda (s : State) (k : Nat) (f : Ring → Ring) : (s.modRing k f).agenda = s.agenda := by
  unfold State.modRing; split <;> rfl
@[simp] theorem State.modRing_turn (s : State) (k : Nat) (f : Ring → Ring) : (s.modRing k f).turn = s.turn := by
  unfold State.modRing; split <;> rfl
@[simp] theorem State.modRing_cur (s : State) (k : Nat) (f : Ring → Ring) : (s.modRing k f).cur = s.cur := by
  unfold State.modRing; split <;> rfl
@[simp] theorem State.modRing_curCtx (s : State) (k : Nat) (f : Ring → Ring) : (s.modRing k f).curCtx = s.curCtx := by
  unfold State.modRing; split <;> rfl
@[simp] theorem State.modRing_clk (s : State) (k : Nat) (f : Ring → Ring) : (s.modRing k f).clk = s.clk := by
  unfold State.modRing; split <;> rfl
@[simp] theorem State.modRing_free (s : State) (k : Nat) (f : Ring → Ring) : (s.modRing k f).free = s.free := by
  unfold State.modRing; split <;> rfl
@[simp] theorem State.modRing_serial (s : State) (k : Nat) (f : Ring → Ring) : (s.modRing k f).serial = s.serial := by
  unfold State.modRing; split <;> rfl
@[simp] theorem State.modRing_mem (s : State) (k : Nat) (f : Ring → Ring) : (s.modRing k f).mem = s.mem := by
  unfold State.modRing; split <;> rfl
@[simp] theorem State.modRing_poison (s : State) (k : Nat) (f : Ring → Ring) : (s.modRing k f).poison = s.poison := by
  unfold State.modRing; split <;> rfl
@[simp] theorem State.modRing_bank (s : State) (k : Nat) (f : Ring → Ring) : (s.modRing k f).bank = s.bank := by
  unfold State.modRing; split <;> rfl
@[simp] theorem State.modRing_sideband (s : State) (k : Nat) (f : Ring → Ring) : (s.modRing k f).sideband = s.sideband := by
  unfold State.modRing; split <;> rfl
@[simp] theorem State.modRing_planes (s : State) (k : Nat) (f : Ring → Ring) : (s.modRing k f).planes = s.planes := by
  unfold State.modRing; split <;> rfl
@[simp] theorem State.modRing_cells (s : State) (k : Nat) (f : Ring → Ring) : (s.modRing k f).cells = s.cells := by
  unfold State.modRing; split <;> rfl
@[simp] theorem State.modRing_ctxs (s : State) (k : Nat) (f : Ring → Ring) : (s.modRing k f).ctxs = s.ctxs := by
  unfold State.modRing; split <;> rfl
@[simp] theorem State.modRing_cores (s : State) (k : Nat) (f : Ring → Ring) : (s.modRing k f).cores = s.cores := by
  unfold State.modRing; split <;> rfl
@[simp] theorem State.modRing_slices (s : State) (k : Nat) (f : Ring → Ring) : (s.modRing k f).slices = s.slices := by
  unfold State.modRing; split <;> rfl
@[simp] theorem State.modRing_dies (s : State) (k : Nat) (f : Ring → Ring) : (s.modRing k f).dies = s.dies := by
  unfold State.modRing; split <;> rfl
@[simp] theorem State.modRing_links (s : State) (k : Nat) (f : Ring → Ring) : (s.modRing k f).links = s.links := by
  unfold State.modRing; split <;> rfl
@[simp] theorem State.modRing_jobs (s : State) (k : Nat) (f : Ring → Ring) : (s.modRing k f).jobs = s.jobs := by
  unfold State.modRing; split <;> rfl
@[simp] theorem State.modRing_regions (s : State) (k : Nat) (f : Ring → Ring) : (s.modRing k f).regions = s.regions := by
  unfold State.modRing; split <;> rfl
@[simp] theorem State.modRing_takes (s : State) (k : Nat) (f : Ring → Ring) : (s.modRing k f).takes = s.takes := by
  unfold State.modRing; split <;> rfl
@[simp] theorem State.modRing_images (s : State) (k : Nat) (f : Ring → Ring) : (s.modRing k f).images = s.images := by
  unfold State.modRing; split <;> rfl
@[simp] theorem State.modRing_planeImages (s : State) (k : Nat) (f : Ring → Ring) : (s.modRing k f).planeImages = s.planeImages := by
  unfold State.modRing; split <;> rfl
@[simp] theorem State.modRing_patches (s : State) (k : Nat) (f : Ring → Ring) : (s.modRing k f).patches = s.patches := by
  unfold State.modRing; split <;> rfl
@[simp] theorem State.modRing_exits (s : State) (k : Nat) (f : Ring → Ring) : (s.modRing k f).exits = s.exits := by
  unfold State.modRing; split <;> rfl
@[simp] theorem State.modRing_msgs (s : State) (k : Nat) (f : Ring → Ring) : (s.modRing k f).msgs = s.msgs := by
  unfold State.modRing; split <;> rfl
@[simp] theorem State.modRing_wire (s : State) (k : Nat) (f : Ring → Ring) : (s.modRing k f).wire = s.wire := by
  unfold State.modRing; split <;> rfl
@[simp] theorem State.modRing_pkg (s : State) (k : Nat) (f : Ring → Ring) : (s.modRing k f).pkg = s.pkg := by
  unfold State.modRing; split <;> rfl

/-! ## State.modJob -/

@[simp] theorem State.modJob_agenda (s : State) (k : Nat) (f : Job → Job) : (s.modJob k f).agenda = s.agenda := by
  unfold State.modJob; split <;> rfl
@[simp] theorem State.modJob_turn (s : State) (k : Nat) (f : Job → Job) : (s.modJob k f).turn = s.turn := by
  unfold State.modJob; split <;> rfl
@[simp] theorem State.modJob_cur (s : State) (k : Nat) (f : Job → Job) : (s.modJob k f).cur = s.cur := by
  unfold State.modJob; split <;> rfl
@[simp] theorem State.modJob_curCtx (s : State) (k : Nat) (f : Job → Job) : (s.modJob k f).curCtx = s.curCtx := by
  unfold State.modJob; split <;> rfl
@[simp] theorem State.modJob_clk (s : State) (k : Nat) (f : Job → Job) : (s.modJob k f).clk = s.clk := by
  unfold State.modJob; split <;> rfl
@[simp] theorem State.modJob_free (s : State) (k : Nat) (f : Job → Job) : (s.modJob k f).free = s.free := by
  unfold State.modJob; split <;> rfl
@[simp] theorem State.modJob_serial (s : State) (k : Nat) (f : Job → Job) : (s.modJob k f).serial = s.serial := by
  unfold State.modJob; split <;> rfl
@[simp] theorem State.modJob_mem (s : State) (k : Nat) (f : Job → Job) : (s.modJob k f).mem = s.mem := by
  unfold State.modJob; split <;> rfl
@[simp] theorem State.modJob_poison (s : State) (k : Nat) (f : Job → Job) : (s.modJob k f).poison = s.poison := by
  unfold State.modJob; split <;> rfl
@[simp] theorem State.modJob_bank (s : State) (k : Nat) (f : Job → Job) : (s.modJob k f).bank = s.bank := by
  unfold State.modJob; split <;> rfl
@[simp] theorem State.modJob_sideband (s : State) (k : Nat) (f : Job → Job) : (s.modJob k f).sideband = s.sideband := by
  unfold State.modJob; split <;> rfl
@[simp] theorem State.modJob_planes (s : State) (k : Nat) (f : Job → Job) : (s.modJob k f).planes = s.planes := by
  unfold State.modJob; split <;> rfl
@[simp] theorem State.modJob_cells (s : State) (k : Nat) (f : Job → Job) : (s.modJob k f).cells = s.cells := by
  unfold State.modJob; split <;> rfl
@[simp] theorem State.modJob_rings (s : State) (k : Nat) (f : Job → Job) : (s.modJob k f).rings = s.rings := by
  unfold State.modJob; split <;> rfl
@[simp] theorem State.modJob_ctxs (s : State) (k : Nat) (f : Job → Job) : (s.modJob k f).ctxs = s.ctxs := by
  unfold State.modJob; split <;> rfl
@[simp] theorem State.modJob_cores (s : State) (k : Nat) (f : Job → Job) : (s.modJob k f).cores = s.cores := by
  unfold State.modJob; split <;> rfl
@[simp] theorem State.modJob_slices (s : State) (k : Nat) (f : Job → Job) : (s.modJob k f).slices = s.slices := by
  unfold State.modJob; split <;> rfl
@[simp] theorem State.modJob_dies (s : State) (k : Nat) (f : Job → Job) : (s.modJob k f).dies = s.dies := by
  unfold State.modJob; split <;> rfl
@[simp] theorem State.modJob_links (s : State) (k : Nat) (f : Job → Job) : (s.modJob k f).links = s.links := by
  unfold State.modJob; split <;> rfl
@[simp] theorem State.modJob_regions (s : State) (k : Nat) (f : Job → Job) : (s.modJob k f).regions = s.regions := by
  unfold State.modJob; split <;> rfl
@[simp] theorem State.modJob_takes (s : State) (k : Nat) (f : Job → Job) : (s.modJob k f).takes = s.takes := by
  unfold State.modJob; split <;> rfl
@[simp] theorem State.modJob_images (s : State) (k : Nat) (f : Job → Job) : (s.modJob k f).images = s.images := by
  unfold State.modJob; split <;> rfl
@[simp] theorem State.modJob_planeImages (s : State) (k : Nat) (f : Job → Job) : (s.modJob k f).planeImages = s.planeImages := by
  unfold State.modJob; split <;> rfl
@[simp] theorem State.modJob_patches (s : State) (k : Nat) (f : Job → Job) : (s.modJob k f).patches = s.patches := by
  unfold State.modJob; split <;> rfl
@[simp] theorem State.modJob_exits (s : State) (k : Nat) (f : Job → Job) : (s.modJob k f).exits = s.exits := by
  unfold State.modJob; split <;> rfl
@[simp] theorem State.modJob_msgs (s : State) (k : Nat) (f : Job → Job) : (s.modJob k f).msgs = s.msgs := by
  unfold State.modJob; split <;> rfl
@[simp] theorem State.modJob_wire (s : State) (k : Nat) (f : Job → Job) : (s.modJob k f).wire = s.wire := by
  unfold State.modJob; split <;> rfl
@[simp] theorem State.modJob_pkg (s : State) (k : Nat) (f : Job → Job) : (s.modJob k f).pkg = s.pkg := by
  unfold State.modJob; split <;> rfl

/-! ## State.modRegion -/

@[simp] theorem State.modRegion_agenda (s : State) (k : Nat) (f : Region → Region) : (s.modRegion k f).agenda = s.agenda := by
  unfold State.modRegion; split <;> rfl
@[simp] theorem State.modRegion_turn (s : State) (k : Nat) (f : Region → Region) : (s.modRegion k f).turn = s.turn := by
  unfold State.modRegion; split <;> rfl
@[simp] theorem State.modRegion_cur (s : State) (k : Nat) (f : Region → Region) : (s.modRegion k f).cur = s.cur := by
  unfold State.modRegion; split <;> rfl
@[simp] theorem State.modRegion_curCtx (s : State) (k : Nat) (f : Region → Region) : (s.modRegion k f).curCtx = s.curCtx := by
  unfold State.modRegion; split <;> rfl
@[simp] theorem State.modRegion_clk (s : State) (k : Nat) (f : Region → Region) : (s.modRegion k f).clk = s.clk := by
  unfold State.modRegion; split <;> rfl
@[simp] theorem State.modRegion_free (s : State) (k : Nat) (f : Region → Region) : (s.modRegion k f).free = s.free := by
  unfold State.modRegion; split <;> rfl
@[simp] theorem State.modRegion_serial (s : State) (k : Nat) (f : Region → Region) : (s.modRegion k f).serial = s.serial := by
  unfold State.modRegion; split <;> rfl
@[simp] theorem State.modRegion_mem (s : State) (k : Nat) (f : Region → Region) : (s.modRegion k f).mem = s.mem := by
  unfold State.modRegion; split <;> rfl
@[simp] theorem State.modRegion_poison (s : State) (k : Nat) (f : Region → Region) : (s.modRegion k f).poison = s.poison := by
  unfold State.modRegion; split <;> rfl
@[simp] theorem State.modRegion_bank (s : State) (k : Nat) (f : Region → Region) : (s.modRegion k f).bank = s.bank := by
  unfold State.modRegion; split <;> rfl
@[simp] theorem State.modRegion_sideband (s : State) (k : Nat) (f : Region → Region) : (s.modRegion k f).sideband = s.sideband := by
  unfold State.modRegion; split <;> rfl
@[simp] theorem State.modRegion_planes (s : State) (k : Nat) (f : Region → Region) : (s.modRegion k f).planes = s.planes := by
  unfold State.modRegion; split <;> rfl
@[simp] theorem State.modRegion_cells (s : State) (k : Nat) (f : Region → Region) : (s.modRegion k f).cells = s.cells := by
  unfold State.modRegion; split <;> rfl
@[simp] theorem State.modRegion_rings (s : State) (k : Nat) (f : Region → Region) : (s.modRegion k f).rings = s.rings := by
  unfold State.modRegion; split <;> rfl
@[simp] theorem State.modRegion_ctxs (s : State) (k : Nat) (f : Region → Region) : (s.modRegion k f).ctxs = s.ctxs := by
  unfold State.modRegion; split <;> rfl
@[simp] theorem State.modRegion_cores (s : State) (k : Nat) (f : Region → Region) : (s.modRegion k f).cores = s.cores := by
  unfold State.modRegion; split <;> rfl
@[simp] theorem State.modRegion_slices (s : State) (k : Nat) (f : Region → Region) : (s.modRegion k f).slices = s.slices := by
  unfold State.modRegion; split <;> rfl
@[simp] theorem State.modRegion_dies (s : State) (k : Nat) (f : Region → Region) : (s.modRegion k f).dies = s.dies := by
  unfold State.modRegion; split <;> rfl
@[simp] theorem State.modRegion_links (s : State) (k : Nat) (f : Region → Region) : (s.modRegion k f).links = s.links := by
  unfold State.modRegion; split <;> rfl
@[simp] theorem State.modRegion_jobs (s : State) (k : Nat) (f : Region → Region) : (s.modRegion k f).jobs = s.jobs := by
  unfold State.modRegion; split <;> rfl
@[simp] theorem State.modRegion_takes (s : State) (k : Nat) (f : Region → Region) : (s.modRegion k f).takes = s.takes := by
  unfold State.modRegion; split <;> rfl
@[simp] theorem State.modRegion_images (s : State) (k : Nat) (f : Region → Region) : (s.modRegion k f).images = s.images := by
  unfold State.modRegion; split <;> rfl
@[simp] theorem State.modRegion_planeImages (s : State) (k : Nat) (f : Region → Region) : (s.modRegion k f).planeImages = s.planeImages := by
  unfold State.modRegion; split <;> rfl
@[simp] theorem State.modRegion_patches (s : State) (k : Nat) (f : Region → Region) : (s.modRegion k f).patches = s.patches := by
  unfold State.modRegion; split <;> rfl
@[simp] theorem State.modRegion_exits (s : State) (k : Nat) (f : Region → Region) : (s.modRegion k f).exits = s.exits := by
  unfold State.modRegion; split <;> rfl
@[simp] theorem State.modRegion_msgs (s : State) (k : Nat) (f : Region → Region) : (s.modRegion k f).msgs = s.msgs := by
  unfold State.modRegion; split <;> rfl
@[simp] theorem State.modRegion_wire (s : State) (k : Nat) (f : Region → Region) : (s.modRegion k f).wire = s.wire := by
  unfold State.modRegion; split <;> rfl
@[simp] theorem State.modRegion_pkg (s : State) (k : Nat) (f : Region → Region) : (s.modRegion k f).pkg = s.pkg := by
  unfold State.modRegion; split <;> rfl

/-! ## State.modTake -/

@[simp] theorem State.modTake_agenda (s : State) (k : Nat) (f : Take → Take) : (s.modTake k f).agenda = s.agenda := by
  unfold State.modTake; split <;> rfl
@[simp] theorem State.modTake_turn (s : State) (k : Nat) (f : Take → Take) : (s.modTake k f).turn = s.turn := by
  unfold State.modTake; split <;> rfl
@[simp] theorem State.modTake_cur (s : State) (k : Nat) (f : Take → Take) : (s.modTake k f).cur = s.cur := by
  unfold State.modTake; split <;> rfl
@[simp] theorem State.modTake_curCtx (s : State) (k : Nat) (f : Take → Take) : (s.modTake k f).curCtx = s.curCtx := by
  unfold State.modTake; split <;> rfl
@[simp] theorem State.modTake_clk (s : State) (k : Nat) (f : Take → Take) : (s.modTake k f).clk = s.clk := by
  unfold State.modTake; split <;> rfl
@[simp] theorem State.modTake_free (s : State) (k : Nat) (f : Take → Take) : (s.modTake k f).free = s.free := by
  unfold State.modTake; split <;> rfl
@[simp] theorem State.modTake_serial (s : State) (k : Nat) (f : Take → Take) : (s.modTake k f).serial = s.serial := by
  unfold State.modTake; split <;> rfl
@[simp] theorem State.modTake_mem (s : State) (k : Nat) (f : Take → Take) : (s.modTake k f).mem = s.mem := by
  unfold State.modTake; split <;> rfl
@[simp] theorem State.modTake_poison (s : State) (k : Nat) (f : Take → Take) : (s.modTake k f).poison = s.poison := by
  unfold State.modTake; split <;> rfl
@[simp] theorem State.modTake_bank (s : State) (k : Nat) (f : Take → Take) : (s.modTake k f).bank = s.bank := by
  unfold State.modTake; split <;> rfl
@[simp] theorem State.modTake_sideband (s : State) (k : Nat) (f : Take → Take) : (s.modTake k f).sideband = s.sideband := by
  unfold State.modTake; split <;> rfl
@[simp] theorem State.modTake_planes (s : State) (k : Nat) (f : Take → Take) : (s.modTake k f).planes = s.planes := by
  unfold State.modTake; split <;> rfl
@[simp] theorem State.modTake_cells (s : State) (k : Nat) (f : Take → Take) : (s.modTake k f).cells = s.cells := by
  unfold State.modTake; split <;> rfl
@[simp] theorem State.modTake_rings (s : State) (k : Nat) (f : Take → Take) : (s.modTake k f).rings = s.rings := by
  unfold State.modTake; split <;> rfl
@[simp] theorem State.modTake_ctxs (s : State) (k : Nat) (f : Take → Take) : (s.modTake k f).ctxs = s.ctxs := by
  unfold State.modTake; split <;> rfl
@[simp] theorem State.modTake_cores (s : State) (k : Nat) (f : Take → Take) : (s.modTake k f).cores = s.cores := by
  unfold State.modTake; split <;> rfl
@[simp] theorem State.modTake_slices (s : State) (k : Nat) (f : Take → Take) : (s.modTake k f).slices = s.slices := by
  unfold State.modTake; split <;> rfl
@[simp] theorem State.modTake_dies (s : State) (k : Nat) (f : Take → Take) : (s.modTake k f).dies = s.dies := by
  unfold State.modTake; split <;> rfl
@[simp] theorem State.modTake_links (s : State) (k : Nat) (f : Take → Take) : (s.modTake k f).links = s.links := by
  unfold State.modTake; split <;> rfl
@[simp] theorem State.modTake_jobs (s : State) (k : Nat) (f : Take → Take) : (s.modTake k f).jobs = s.jobs := by
  unfold State.modTake; split <;> rfl
@[simp] theorem State.modTake_regions (s : State) (k : Nat) (f : Take → Take) : (s.modTake k f).regions = s.regions := by
  unfold State.modTake; split <;> rfl
@[simp] theorem State.modTake_images (s : State) (k : Nat) (f : Take → Take) : (s.modTake k f).images = s.images := by
  unfold State.modTake; split <;> rfl
@[simp] theorem State.modTake_planeImages (s : State) (k : Nat) (f : Take → Take) : (s.modTake k f).planeImages = s.planeImages := by
  unfold State.modTake; split <;> rfl
@[simp] theorem State.modTake_patches (s : State) (k : Nat) (f : Take → Take) : (s.modTake k f).patches = s.patches := by
  unfold State.modTake; split <;> rfl
@[simp] theorem State.modTake_exits (s : State) (k : Nat) (f : Take → Take) : (s.modTake k f).exits = s.exits := by
  unfold State.modTake; split <;> rfl
@[simp] theorem State.modTake_msgs (s : State) (k : Nat) (f : Take → Take) : (s.modTake k f).msgs = s.msgs := by
  unfold State.modTake; split <;> rfl
@[simp] theorem State.modTake_wire (s : State) (k : Nat) (f : Take → Take) : (s.modTake k f).wire = s.wire := by
  unfold State.modTake; split <;> rfl
@[simp] theorem State.modTake_pkg (s : State) (k : Nat) (f : Take → Take) : (s.modTake k f).pkg = s.pkg := by
  unfold State.modTake; split <;> rfl

end Sys2Proof.Machine
end

