-- ==== Sys2Proof/Laws/Table.lean ====
section
/-!
SUPPORT. Laws of tables: what a read finds after a write, and that writes keep the canonical form.
-/
namespace Sys2Proof.Machine

variable {α : Type}

/-- A read at the number written finds the value. -/
@[simp] theorem find_ins_self (m : Tab α) (k : Nat) (v : α) : find (ins m k v) k = some v := by
  induction m with
  | nil => simp [ins, find]
  | cons e r ih =>
    obtain ⟨k', v'⟩ := e
    unfold ins
    split
    · simp [find]
    · split
      · simp [find]
      · next h => simp [find, h, ih]

/-- A read at another number finds what it found before. -/
theorem find_ins_ne (m : Tab α) {k j : Nat} (v : α) (h : j ≠ k) : find (ins m k v) j = find m j := by
  induction m with
  | nil => simp [ins, find, h]
  | cons e r ih =>
    obtain ⟨k', v'⟩ := e
    unfold ins
    split
    · simp [find, h]
    · split
      · next h' => subst h'; simp [find, h]
      · simp only [find, ih]

@[simp] theorem look_ins_self (d : α) (m : Tab α) (k : Nat) (v : α) : look d (ins m k v) k = v := by simp [look]

theorem look_ins_ne (d : α) (m : Tab α) {k j : Nat} (v : α) (h : j ≠ k) : look d (ins m k v) j = look d m j := by
  simp [look, find_ins_ne m v h]

/-- A read at any number after a write. -/
theorem look_ins (d : α) (m : Tab α) (k j : Nat) (v : α) : look d (ins m k v) j = if j = k then v else look d m j := by
  split
  · next h => subst h; simp
  · next h => exact look_ins_ne d m v h

/-- Nothing is listed at a number after its removal. -/
@[simp] theorem find_del_self (m : Tab α) (k : Nat) : find (del m k) k = none := by
  induction m with
  | nil => rfl
  | cons e r ih =>
    obtain ⟨k', v'⟩ := e
    by_cases h : k' = k
    · subst h; simpa [del] using ih
    · have h2 : ¬ k = k' := fun x => h x.symm
      simpa [del, h, find, h2] using ih

theorem find_del_ne (m : Tab α) {k j : Nat} (h : j ≠ k) : find (del m k) j = find m j := by
  induction m with
  | nil => rfl
  | cons e r ih =>
    obtain ⟨k', v'⟩ := e
    by_cases hk : k' = k
    · subst hk
      have : find (del ((k', v') :: r) k') j = find (del r k') j := by simp [del]
      rw [this, ih]; simp [find, h]
    · have : del ((k', v') :: r) k = (k', v') :: del r k := by simp [del, hk]
      rw [this]; simp only [find, ih]

/-- A read at the number written, in a table whose unlisted entries read as `d`. -/
@[simp] theorem look_put_self [DecidableEq α] (d : α) (m : Tab α) (k : Nat) (v : α) : look d (put d m k v) k = v := by
  unfold put
  split
  · next h => simp [look, h]
  · simp

theorem look_put_ne [DecidableEq α] (d : α) (m : Tab α) {k j : Nat} (v : α) (h : j ≠ k) :
    look d (put d m k v) j = look d m j := by
  unfold put
  split
  · simp [look, find_del_ne m h]
  · exact look_ins_ne d m v h

theorem look_put [DecidableEq α] (d : α) (m : Tab α) (k j : Nat) (v : α) :
    look d (put d m k v) j = if j = k then v else look d m j := by
  split
  · next h => subst h; simp
  · next h => exact look_put_ne d m v h

/-- In a table with rising keys every listed key is above a bound that the first is above. -/
theorem rising_cons {k : Nat} {v : α} {m : Tab α} :
    rising ((k, v) :: m) = true ↔ (∀ e ∈ m, k < e.1) ∧ rising m = true := by
  induction m generalizing k v with
  | nil => simp [rising]
  | cons e r ih =>
    obtain ⟨k', v'⟩ := e
    constructor
    · intro h
      have h1 : k < k' ∧ rising ((k', v') :: r) = true := by simpa [rising] using h
      obtain ⟨h2, h3⟩ := ih.mp h1.2
      refine ⟨?_, h1.2⟩
      intro e he
      rcases List.mem_cons.mp he with rfl | he
      · exact h1.1
      · exact Nat.lt_trans h1.1 (h2 e he)
    · rintro ⟨h1, h2⟩
      have : k < k' := h1 (k', v') (List.mem_cons_self ..)
      simpa [rising, this] using h2

theorem mem_ins {m : Tab α} {k : Nat} {v : α} {e : Nat × α} (h : e ∈ ins m k v) : e = (k, v) ∨ e ∈ m := by
  induction m with
  | nil => simpa [ins] using h
  | cons a r ih =>
    obtain ⟨k', v'⟩ := a
    unfold ins at h
    split at h
    · rcases List.mem_cons.mp h with h | h
      · exact .inl h
      · exact .inr h
    · split at h
      · rcases List.mem_cons.mp h with h | h
        · exact .inl h
        · exact .inr (List.mem_cons_of_mem _ h)
      · rcases List.mem_cons.mp h with h | h
        · exact .inr (h ▸ List.mem_cons_self ..)
        · rcases ih h with h | h
          · exact .inl h
          · exact .inr (List.mem_cons_of_mem _ h)

/-- A write keeps rising keys. -/
theorem rising_ins {m : Tab α} (k : Nat) (v : α) (h : rising m = true) : rising (ins m k v) = true := by
  induction m with
  | nil => rfl
  | cons a r ih =>
    obtain ⟨k', v'⟩ := a
    obtain ⟨h1, h2⟩ := rising_cons.mp h
    unfold ins
    split
    · next hk =>
      refine rising_cons.mpr ⟨?_, h⟩
      intro e he
      rcases List.mem_cons.mp he with rfl | he
      · exact hk
      · exact Nat.lt_trans hk (h1 e he)
    · split
      · next hk => subst hk; exact rising_cons.mpr ⟨h1, h2⟩
      · next h3 h4 =>
        refine rising_cons.mpr ⟨?_, ih h2⟩
        intro e he
        rcases mem_ins he with rfl | he
        · show k' < k; omega
        · exact h1 e he

/-- Dropping entries keeps rising keys. -/
theorem rising_filter {m : Tab α} (p : Nat × α → Bool) (h : rising m = true) : rising (m.filter p) = true := by
  induction m with
  | nil => rfl
  | cons a r ih =>
    obtain ⟨k', v'⟩ := a
    obtain ⟨h1, h2⟩ := rising_cons.mp h
    rw [List.filter_cons]
    split
    · exact rising_cons.mpr ⟨fun e he => h1 e (List.mem_filter.mp he).1, ih h2⟩
    · exact ih h2

/-- Dropping entries keeps the canonical form. -/
theorem canon_filter [DecidableEq α] {d : α} {m : Tab α} (p : Nat × α → Bool) (h : canon d m = true) :
    canon d (m.filter p) = true := by
  simp only [canon, Bool.and_eq_true, List.all_eq_true] at h ⊢
  exact ⟨rising_filter p h.1, fun e he => h.2 e (List.mem_filter.mp he).1⟩

/-- A write keeps the canonical form. -/
theorem canon_put [DecidableEq α] {d : α} {m : Tab α} (k : Nat) (v : α) (h : canon d m = true) :
    canon d (put d m k v) = true := by
  unfold put
  split
  · exact canon_filter _ h
  · next hv =>
    simp only [canon, Bool.and_eq_true, List.all_eq_true] at h ⊢
    refine ⟨rising_ins k v h.1, fun e he => ?_⟩
    rcases mem_ins he with rfl | he
    · simpa using hv
    · exact h.2 e he

end Sys2Proof.Machine
end

