-- ==== Sys2Proof/Laws/Parts.lean ====
section
/-!
SUPPORT. What a read of one part of the state finds after an update of one part.
-/
namespace Sys2Proof.Machine

@[simp] theorem State.plane_modPlane_self (s : State) (k : Nat) (f : Plane → Plane) : (s.modPlane k f).plane k = f (s.plane k) := by
  simp [State.plane, State.modPlane, State.setPlane]
theorem State.plane_modPlane_ne (s : State) {k j : Nat} (f : Plane → Plane) (h : j ≠ k) : (s.modPlane k f).plane j = s.plane j := by
  simp [State.plane, State.modPlane, look_ins_ne _ _ _ h, State.setPlane]
theorem State.plane_modPlane (s : State) (k j : Nat) (f : Plane → Plane) :
    (s.modPlane k f).plane j = if j = k then f (s.plane k) else s.plane j := by
  split
  · next h => subst h; simp
  · next h => exact State.plane_modPlane_ne s f h
@[simp] theorem State.cell_modPlane (s : State) (k j : Nat) (f : Plane → Plane) : (s.modPlane k f).cell j = s.cell j := rfl
@[simp] theorem State.ctx_modPlane (s : State) (k j : Nat) (f : Plane → Plane) : (s.modPlane k f).ctx j = s.ctx j := rfl
@[simp] theorem State.core_modPlane (s : State) (k j : Nat) (f : Plane → Plane) : (s.modPlane k f).core j = s.core j := rfl
@[simp] theorem State.slice_modPlane (s : State) (k j : Nat) (f : Plane → Plane) : (s.modPlane k f).slice j = s.slice j := rfl
@[simp] theorem State.die_modPlane (s : State) (k j : Nat) (f : Plane → Plane) : (s.modPlane k f).die j = s.die j := rfl
@[simp] theorem State.link_modPlane (s : State) (k j : Nat) (f : Plane → Plane) : (s.modPlane k f).link j = s.link j := rfl

@[simp] theorem State.cell_modCell_self (s : State) (k : Nat) (f : CellState → CellState) : (s.modCell k f).cell k = f (s.cell k) := by
  simp [State.cell, State.modCell]
theorem State.cell_modCell_ne (s : State) {k j : Nat} (f : CellState → CellState) (h : j ≠ k) : (s.modCell k f).cell j = s.cell j := by
  simp [State.cell, State.modCell, look_ins_ne _ _ _ h]
theorem State.cell_modCell (s : State) (k j : Nat) (f : CellState → CellState) :
    (s.modCell k f).cell j = if j = k then f (s.cell k) else s.cell j := by
  split
  · next h => subst h; simp
  · next h => exact State.cell_modCell_ne s f h
@[simp] theorem State.plane_modCell (s : State) (k j : Nat) (f : CellState → CellState) : (s.modCell k f).plane j = s.plane j := rfl
@[simp] theorem State.ctx_modCell (s : State) (k j : Nat) (f : CellState → CellState) : (s.modCell k f).ctx j = s.ctx j := rfl
@[simp] theorem State.core_modCell (s : State) (k j : Nat) (f : CellState → CellState) : (s.modCell k f).core j = s.core j := rfl
@[simp] theorem State.slice_modCell (s : State) (k j : Nat) (f : CellState → CellState) : (s.modCell k f).slice j = s.slice j := rfl
@[simp] theorem State.die_modCell (s : State) (k j : Nat) (f : CellState → CellState) : (s.modCell k f).die j = s.die j := rfl
@[simp] theorem State.link_modCell (s : State) (k j : Nat) (f : CellState → CellState) : (s.modCell k f).link j = s.link j := rfl

@[simp] theorem State.ctx_modCtx_self (s : State) (k : Nat) (f : Ctx → Ctx) : (s.modCtx k f).ctx k = f (s.ctx k) := by
  simp [State.ctx, State.modCtx]
theorem State.ctx_modCtx_ne (s : State) {k j : Nat} (f : Ctx → Ctx) (h : j ≠ k) : (s.modCtx k f).ctx j = s.ctx j := by
  simp [State.ctx, State.modCtx, look_ins_ne _ _ _ h]
theorem State.ctx_modCtx (s : State) (k j : Nat) (f : Ctx → Ctx) :
    (s.modCtx k f).ctx j = if j = k then f (s.ctx k) else s.ctx j := by
  split
  · next h => subst h; simp
  · next h => exact State.ctx_modCtx_ne s f h
@[simp] theorem State.plane_modCtx (s : State) (k j : Nat) (f : Ctx → Ctx) : (s.modCtx k f).plane j = s.plane j := rfl
@[simp] theorem State.cell_modCtx (s : State) (k j : Nat) (f : Ctx → Ctx) : (s.modCtx k f).cell j = s.cell j := rfl
@[simp] theorem State.core_modCtx (s : State) (k j : Nat) (f : Ctx → Ctx) : (s.modCtx k f).core j = s.core j := rfl
@[simp] theorem State.slice_modCtx (s : State) (k j : Nat) (f : Ctx → Ctx) : (s.modCtx k f).slice j = s.slice j := rfl
@[simp] theorem State.die_modCtx (s : State) (k j : Nat) (f : Ctx → Ctx) : (s.modCtx k f).die j = s.die j := rfl
@[simp] theorem State.link_modCtx (s : State) (k j : Nat) (f : Ctx → Ctx) : (s.modCtx k f).link j = s.link j := rfl

@[simp] theorem State.core_modCore_self (s : State) (k : Nat) (f : Core → Core) : (s.modCore k f).core k = f (s.core k) := by
  simp [State.core, State.modCore]
theorem State.core_modCore_ne (s : State) {k j : Nat} (f : Core → Core) (h : j ≠ k) : (s.modCore k f).core j = s.core j := by
  simp [State.core, State.modCore, look_ins_ne _ _ _ h]
theorem State.core_modCore (s : State) (k j : Nat) (f : Core → Core) :
    (s.modCore k f).core j = if j = k then f (s.core k) else s.core j := by
  split
  · next h => subst h; simp
  · next h => exact State.core_modCore_ne s f h
@[simp] theorem State.plane_modCore (s : State) (k j : Nat) (f : Core → Core) : (s.modCore k f).plane j = s.plane j := rfl
@[simp] theorem State.cell_modCore (s : State) (k j : Nat) (f : Core → Core) : (s.modCore k f).cell j = s.cell j := rfl
@[simp] theorem State.ctx_modCore (s : State) (k j : Nat) (f : Core → Core) : (s.modCore k f).ctx j = s.ctx j := rfl
@[simp] theorem State.slice_modCore (s : State) (k j : Nat) (f : Core → Core) : (s.modCore k f).slice j = s.slice j := rfl
@[simp] theorem State.die_modCore (s : State) (k j : Nat) (f : Core → Core) : (s.modCore k f).die j = s.die j := rfl
@[simp] theorem State.link_modCore (s : State) (k j : Nat) (f : Core → Core) : (s.modCore k f).link j = s.link j := rfl

@[simp] theorem State.slice_modSlice_self (s : State) (k : Nat) (f : Slice → Slice) : (s.modSlice k f).slice k = f (s.slice k) := by
  simp [State.slice, State.modSlice]
theorem State.slice_modSlice_ne (s : State) {k j : Nat} (f : Slice → Slice) (h : j ≠ k) : (s.modSlice k f).slice j = s.slice j := by
  simp [State.slice, State.modSlice, look_ins_ne _ _ _ h]
theorem State.slice_modSlice (s : State) (k j : Nat) (f : Slice → Slice) :
    (s.modSlice k f).slice j = if j = k then f (s.slice k) else s.slice j := by
  split
  · next h => subst h; simp
  · next h => exact State.slice_modSlice_ne s f h
@[simp] theorem State.plane_modSlice (s : State) (k j : Nat) (f : Slice → Slice) : (s.modSlice k f).plane j = s.plane j := rfl
@[simp] theorem State.cell_modSlice (s : State) (k j : Nat) (f : Slice → Slice) : (s.modSlice k f).cell j = s.cell j := rfl
@[simp] theorem State.ctx_modSlice (s : State) (k j : Nat) (f : Slice → Slice) : (s.modSlice k f).ctx j = s.ctx j := rfl
@[simp] theorem State.core_modSlice (s : State) (k j : Nat) (f : Slice → Slice) : (s.modSlice k f).core j = s.core j := rfl
@[simp] theorem State.die_modSlice (s : State) (k j : Nat) (f : Slice → Slice) : (s.modSlice k f).die j = s.die j := rfl
@[simp] theorem State.link_modSlice (s : State) (k j : Nat) (f : Slice → Slice) : (s.modSlice k f).link j = s.link j := rfl

@[simp] theorem State.die_modDie_self (s : State) (k : Nat) (f : Die → Die) : (s.modDie k f).die k = f (s.die k) := by
  simp [State.die, State.modDie]
theorem State.die_modDie_ne (s : State) {k j : Nat} (f : Die → Die) (h : j ≠ k) : (s.modDie k f).die j = s.die j := by
  simp [State.die, State.modDie, look_ins_ne _ _ _ h]
theorem State.die_modDie (s : State) (k j : Nat) (f : Die → Die) :
    (s.modDie k f).die j = if j = k then f (s.die k) else s.die j := by
  split
  · next h => subst h; simp
  · next h => exact State.die_modDie_ne s f h
@[simp] theorem State.plane_modDie (s : State) (k j : Nat) (f : Die → Die) : (s.modDie k f).plane j = s.plane j := rfl
@[simp] theorem State.cell_modDie (s : State) (k j : Nat) (f : Die → Die) : (s.modDie k f).cell j = s.cell j := rfl
@[simp] theorem State.ctx_modDie (s : State) (k j : Nat) (f : Die → Die) : (s.modDie k f).ctx j = s.ctx j := rfl
@[simp] theorem State.core_modDie (s : State) (k j : Nat) (f : Die → Die) : (s.modDie k f).core j = s.core j := rfl
@[simp] theorem State.slice_modDie (s : State) (k j : Nat) (f : Die → Die) : (s.modDie k f).slice j = s.slice j := rfl
@[simp] theorem State.link_modDie (s : State) (k j : Nat) (f : Die → Die) : (s.modDie k f).link j = s.link j := rfl

@[simp] theorem State.link_modLink_self (s : State) (k : Nat) (f : Link → Link) : (s.modLink k f).link k = f (s.link k) := by
  simp [State.link, State.modLink]
theorem State.link_modLink_ne (s : State) {k j : Nat} (f : Link → Link) (h : j ≠ k) : (s.modLink k f).link j = s.link j := by
  simp [State.link, State.modLink, look_ins_ne _ _ _ h]
theorem State.link_modLink (s : State) (k j : Nat) (f : Link → Link) :
    (s.modLink k f).link j = if j = k then f (s.link k) else s.link j := by
  split
  · next h => subst h; simp
  · next h => exact State.link_modLink_ne s f h
@[simp] theorem State.plane_modLink (s : State) (k j : Nat) (f : Link → Link) : (s.modLink k f).plane j = s.plane j := rfl
@[simp] theorem State.cell_modLink (s : State) (k j : Nat) (f : Link → Link) : (s.modLink k f).cell j = s.cell j := rfl
@[simp] theorem State.ctx_modLink (s : State) (k j : Nat) (f : Link → Link) : (s.modLink k f).ctx j = s.ctx j := rfl
@[simp] theorem State.core_modLink (s : State) (k j : Nat) (f : Link → Link) : (s.modLink k f).core j = s.core j := rfl
@[simp] theorem State.slice_modLink (s : State) (k j : Nat) (f : Link → Link) : (s.modLink k f).slice j = s.slice j := rfl
@[simp] theorem State.die_modLink (s : State) (k j : Nat) (f : Link → Link) : (s.modLink k f).die j = s.die j := rfl

@[simp] theorem State.ring_modRing_self (s : State) (k : Nat) (f : Ring → Ring) : (s.modRing k f).ring k = (s.ring k).map f := by
  unfold State.modRing; split <;> simp_all [State.ring, State.setRing]
theorem State.ring_modRing_ne (s : State) {k j : Nat} (f : Ring → Ring) (h : j ≠ k) : (s.modRing k f).ring j = s.ring j := by
  unfold State.modRing; split <;> simp [State.ring, find_ins_ne _ _ h, State.setRing]
@[simp] theorem State.plane_modRing (s : State) (k j : Nat) (f : Ring → Ring) : (s.modRing k f).plane j = s.plane j := by
  simp [State.plane]
@[simp] theorem State.cell_modRing (s : State) (k j : Nat) (f : Ring → Ring) : (s.modRing k f).cell j = s.cell j := by
  simp [State.cell]
@[simp] theorem State.ctx_modRing (s : State) (k j : Nat) (f : Ring → Ring) : (s.modRing k f).ctx j = s.ctx j := by
  simp [State.ctx]
@[simp] theorem State.core_modRing (s : State) (k j : Nat) (f : Ring → Ring) : (s.modRing k f).core j = s.core j := by
  simp [State.core]
@[simp] theorem State.slice_modRing (s : State) (k j : Nat) (f : Ring → Ring) : (s.modRing k f).slice j = s.slice j := by
  simp [State.slice]
@[simp] theorem State.die_modRing (s : State) (k j : Nat) (f : Ring → Ring) : (s.modRing k f).die j = s.die j := by
  simp [State.die]
@[simp] theorem State.link_modRing (s : State) (k j : Nat) (f : Ring → Ring) : (s.modRing k f).link j = s.link j := by
  simp [State.link]
@[simp] theorem State.job_modRing (s : State) (k j : Nat) (f : Ring → Ring) : (s.modRing k f).job j = s.job j := by
  simp [State.job]
@[simp] theorem State.region_modRing (s : State) (k j : Nat) (f : Ring → Ring) : (s.modRing k f).region j = s.region j := by
  simp [State.region]
@[simp] theorem State.take_modRing (s : State) (k j : Nat) (f : Ring → Ring) : (s.modRing k f).take j = s.take j := by
  simp [State.take]
@[simp] theorem State.ring_modPlane (s : State) (k j : Nat) (f : Plane → Plane) : (s.modPlane k f).ring j = s.ring j := rfl
@[simp] theorem State.ring_modCell (s : State) (k j : Nat) (f : CellState → CellState) : (s.modCell k f).ring j = s.ring j := rfl
@[simp] theorem State.ring_modCtx (s : State) (k j : Nat) (f : Ctx → Ctx) : (s.modCtx k f).ring j = s.ring j := rfl
@[simp] theorem State.ring_modCore (s : State) (k j : Nat) (f : Core → Core) : (s.modCore k f).ring j = s.ring j := rfl
@[simp] theorem State.ring_modSlice (s : State) (k j : Nat) (f : Slice → Slice) : (s.modSlice k f).ring j = s.ring j := rfl
@[simp] theorem State.ring_modDie (s : State) (k j : Nat) (f : Die → Die) : (s.modDie k f).ring j = s.ring j := rfl
@[simp] theorem State.ring_modLink (s : State) (k j : Nat) (f : Link → Link) : (s.modLink k f).ring j = s.ring j := rfl

@[simp] theorem State.job_modJob_self (s : State) (k : Nat) (f : Job → Job) : (s.modJob k f).job k = (s.job k).map f := by
  unfold State.modJob; split <;> simp_all [State.job]
theorem State.job_modJob_ne (s : State) {k j : Nat} (f : Job → Job) (h : j ≠ k) : (s.modJob k f).job j = s.job j := by
  unfold State.modJob; split <;> simp [State.job, find_ins_ne _ _ h]
@[simp] theorem State.plane_modJob (s : State) (k j : Nat) (f : Job → Job) : (s.modJob k f).plane j = s.plane j := by
  simp [State.plane]
@[simp] theorem State.cell_modJob (s : State) (k j : Nat) (f : Job → Job) : (s.modJob k f).cell j = s.cell j := by
  simp [State.cell]
@[simp] theorem State.ctx_modJob (s : State) (k j : Nat) (f : Job → Job) : (s.modJob k f).ctx j = s.ctx j := by
  simp [State.ctx]
@[simp] theorem State.core_modJob (s : State) (k j : Nat) (f : Job → Job) : (s.modJob k f).core j = s.core j := by
  simp [State.core]
@[simp] theorem State.slice_modJob (s : State) (k j : Nat) (f : Job → Job) : (s.modJob k f).slice j = s.slice j := by
  simp [State.slice]
@[simp] theorem State.die_modJob (s : State) (k j : Nat) (f : Job → Job) : (s.modJob k f).die j = s.die j := by
  simp [State.die]
@[simp] theorem State.link_modJob (s : State) (k j : Nat) (f : Job → Job) : (s.modJob k f).link j = s.link j := by
  simp [State.link]
@[simp] theorem State.ring_modJob (s : State) (k j : Nat) (f : Job → Job) : (s.modJob k f).ring j = s.ring j := by
  simp [State.ring]
@[simp] theorem State.region_modJob (s : State) (k j : Nat) (f : Job → Job) : (s.modJob k f).region j = s.region j := by
  simp [State.region]
@[simp] theorem State.take_modJob (s : State) (k j : Nat) (f : Job → Job) : (s.modJob k f).take j = s.take j := by
  simp [State.take]
@[simp] theorem State.job_modPlane (s : State) (k j : Nat) (f : Plane → Plane) : (s.modPlane k f).job j = s.job j := rfl
@[simp] theorem State.job_modCell (s : State) (k j : Nat) (f : CellState → CellState) : (s.modCell k f).job j = s.job j := rfl
@[simp] theorem State.job_modCtx (s : State) (k j : Nat) (f : Ctx → Ctx) : (s.modCtx k f).job j = s.job j := rfl
@[simp] theorem State.job_modCore (s : State) (k j : Nat) (f : Core → Core) : (s.modCore k f).job j = s.job j := rfl
@[simp] theorem State.job_modSlice (s : State) (k j : Nat) (f : Slice → Slice) : (s.modSlice k f).job j = s.job j := rfl
@[simp] theorem State.job_modDie (s : State) (k j : Nat) (f : Die → Die) : (s.modDie k f).job j = s.job j := rfl
@[simp] theorem State.job_modLink (s : State) (k j : Nat) (f : Link → Link) : (s.modLink k f).job j = s.job j := rfl

@[simp] theorem State.region_modRegion_self (s : State) (k : Nat) (f : Region → Region) : (s.modRegion k f).region k = (s.region k).map f := by
  unfold State.modRegion; split <;> simp_all [State.region]
theorem State.region_modRegion_ne (s : State) {k j : Nat} (f : Region → Region) (h : j ≠ k) : (s.modRegion k f).region j = s.region j := by
  unfold State.modRegion; split <;> simp [State.region, find_ins_ne _ _ h]
@[simp] theorem State.plane_modRegion (s : State) (k j : Nat) (f : Region → Region) : (s.modRegion k f).plane j = s.plane j := by
  simp [State.plane]
@[simp] theorem State.cell_modRegion (s : State) (k j : Nat) (f : Region → Region) : (s.modRegion k f).cell j = s.cell j := by
  simp [State.cell]
@[simp] theorem State.ctx_modRegion (s : State) (k j : Nat) (f : Region → Region) : (s.modRegion k f).ctx j = s.ctx j := by
  simp [State.ctx]
@[simp] theorem State.core_modRegion (s : State) (k j : Nat) (f : Region → Region) : (s.modRegion k f).core j = s.core j := by
  simp [State.core]
@[simp] theorem State.slice_modRegion (s : State) (k j : Nat) (f : Region → Region) : (s.modRegion k f).slice j = s.slice j := by
  simp [State.slice]
@[simp] theorem State.die_modRegion (s : State) (k j : Nat) (f : Region → Region) : (s.modRegion k f).die j = s.die j := by
  simp [State.die]
@[simp] theorem State.link_modRegion (s : State) (k j : Nat) (f : Region → Region) : (s.modRegion k f).link j = s.link j := by
  simp [State.link]
@[simp] theorem State.ring_modRegion (s : State) (k j : Nat) (f : Region → Region) : (s.modRegion k f).ring j = s.ring j := by
  simp [State.ring]
@[simp] theorem State.job_modRegion (s : State) (k j : Nat) (f : Region → Region) : (s.modRegion k f).job j = s.job j := by
  simp [State.job]
@[simp] theorem State.take_modRegion (s : State) (k j : Nat) (f : Region → Region) : (s.modRegion k f).take j = s.take j := by
  simp [State.take]
@[simp] theorem State.region_modPlane (s : State) (k j : Nat) (f : Plane → Plane) : (s.modPlane k f).region j = s.region j := rfl
@[simp] theorem State.region_modCell (s : State) (k j : Nat) (f : CellState → CellState) : (s.modCell k f).region j = s.region j := rfl
@[simp] theorem State.region_modCtx (s : State) (k j : Nat) (f : Ctx → Ctx) : (s.modCtx k f).region j = s.region j := rfl
@[simp] theorem State.region_modCore (s : State) (k j : Nat) (f : Core → Core) : (s.modCore k f).region j = s.region j := rfl
@[simp] theorem State.region_modSlice (s : State) (k j : Nat) (f : Slice → Slice) : (s.modSlice k f).region j = s.region j := rfl
@[simp] theorem State.region_modDie (s : State) (k j : Nat) (f : Die → Die) : (s.modDie k f).region j = s.region j := rfl
@[simp] theorem State.region_modLink (s : State) (k j : Nat) (f : Link → Link) : (s.modLink k f).region j = s.region j := rfl

@[simp] theorem State.take_modTake_self (s : State) (k : Nat) (f : Take → Take) : (s.modTake k f).take k = (s.take k).map f := by
  unfold State.modTake; split <;> simp_all [State.take]
theorem State.take_modTake_ne (s : State) {k j : Nat} (f : Take → Take) (h : j ≠ k) : (s.modTake k f).take j = s.take j := by
  unfold State.modTake; split <;> simp [State.take, find_ins_ne _ _ h]
@[simp] theorem State.plane_modTake (s : State) (k j : Nat) (f : Take → Take) : (s.modTake k f).plane j = s.plane j := by
  simp [State.plane]
@[simp] theorem State.cell_modTake (s : State) (k j : Nat) (f : Take → Take) : (s.modTake k f).cell j = s.cell j := by
  simp [State.cell]
@[simp] theorem State.ctx_modTake (s : State) (k j : Nat) (f : Take → Take) : (s.modTake k f).ctx j = s.ctx j := by
  simp [State.ctx]
@[simp] theorem State.core_modTake (s : State) (k j : Nat) (f : Take → Take) : (s.modTake k f).core j = s.core j := by
  simp [State.core]
@[simp] theorem State.slice_modTake (s : State) (k j : Nat) (f : Take → Take) : (s.modTake k f).slice j = s.slice j := by
  simp [State.slice]
@[simp] theorem State.die_modTake (s : State) (k j : Nat) (f : Take → Take) : (s.modTake k f).die j = s.die j := by
  simp [State.die]
@[simp] theorem State.link_modTake (s : State) (k j : Nat) (f : Take → Take) : (s.modTake k f).link j = s.link j := by
  simp [State.link]
@[simp] theorem State.ring_modTake (s : State) (k j : Nat) (f : Take → Take) : (s.modTake k f).ring j = s.ring j := by
  simp [State.ring]
@[simp] theorem State.job_modTake (s : State) (k j : Nat) (f : Take → Take) : (s.modTake k f).job j = s.job j := by
  simp [State.job]
@[simp] theorem State.region_modTake (s : State) (k j : Nat) (f : Take → Take) : (s.modTake k f).region j = s.region j := by
  simp [State.region]
@[simp] theorem State.take_modPlane (s : State) (k j : Nat) (f : Plane → Plane) : (s.modPlane k f).take j = s.take j := rfl
@[simp] theorem State.take_modCell (s : State) (k j : Nat) (f : CellState → CellState) : (s.modCell k f).take j = s.take j := rfl
@[simp] theorem State.take_modCtx (s : State) (k j : Nat) (f : Ctx → Ctx) : (s.modCtx k f).take j = s.take j := rfl
@[simp] theorem State.take_modCore (s : State) (k j : Nat) (f : Core → Core) : (s.modCore k f).take j = s.take j := rfl
@[simp] theorem State.take_modSlice (s : State) (k j : Nat) (f : Slice → Slice) : (s.modSlice k f).take j = s.take j := rfl
@[simp] theorem State.take_modDie (s : State) (k j : Nat) (f : Die → Die) : (s.modDie k f).take j = s.take j := rfl
@[simp] theorem State.take_modLink (s : State) (k j : Nat) (f : Link → Link) : (s.modLink k f).take j = s.take j := rfl

/-! ## The current plane -/

@[simp] theorem State.pl_modPl (s : State) (f : Plane → Plane) : (s.modPl f).pl = f s.pl := by
  simp [State.pl, State.modPl]

theorem State.plane_modPl_ne (s : State) (f : Plane → Plane) {q : Nat} (h : q ≠ s.cur) : (s.modPl f).plane q = s.plane q :=
  State.plane_modPlane_ne s f h

@[simp] theorem State.cell_modPl (s : State) (f : Plane → Plane) (c : Nat) : (s.modPl f).cell c = s.cell c := rfl

@[simp] theorem State.pl_modCell (s : State) (k : Nat) (f : CellState → CellState) : (s.modCell k f).pl = s.pl := rfl

/-- A fold keeps what every one of its steps keeps. -/
theorem State.fold_inv {α : Type} {P : State → Prop} (f : State → α → State) (hf : ∀ s x, P s → P (f s x)) (l : List α) :
    ∀ s : State, P s → P (s.fold l f) := by
  induction l with
  | nil => exact fun _ h => h
  | cons a r ih => exact fun s h => ih (f s a) (hf s a h)

/-- A fold keeps a value that every one of its steps keeps. -/
theorem State.fold_eq {α β : Type} (g : State → β) (f : State → α → State) (hf : ∀ s x, g (f s x) = g s) (l : List α)
    (s : State) : g (s.fold l f) = g s :=
  State.fold_inv (P := fun t => g t = g s) f (fun t x h => (hf t x).trans h) l s rfl

end Sys2Proof.Machine
end

