-- ==== Sys2Proof/Laws/Memory.lean ====
section
/-!
SUPPORT. Reading and writing memory: a byte written reads back, every other byte stays, and each operation that
writes memory keeps its canonical form.
-/
namespace Sys2Proof.Machine

theorem memWf_of_mem {s t : State} (h : t.mem = s.mem) (hs : s.memWf) : t.memWf := by
  unfold State.memWf at *; rw [h]; exact hs

theorem reset_memWf : State.reset.memWf := by decide

/-! ## One byte, and a run of bytes -/

@[simp] theorem State.byte_setByte_self (s : State) (k : Nat) (b : Byte) : (s.setByte k b).byte k = b :=
  look_put_self ..

theorem State.byte_setByte_ne (s : State) {k j : Nat} (b : Byte) (h : j ≠ k) : (s.setByte k b).byte j = s.byte j :=
  look_put_ne _ _ _ h

theorem State.memWf_setByte (s : State) (k : Nat) (b : Byte) (h : s.memWf) : (s.setByte k b).memWf :=
  canon_put k b h

theorem State.memWf_setBytes (bs : List Byte) : ∀ (s : State) (k : Nat), s.memWf → (s.setBytes k bs).memWf := by
  induction bs with
  | nil => exact fun _ _ h => h
  | cons b r ih => exact fun s k h => ih _ _ (s.memWf_setByte k b h)

/-- A byte outside the run stays. -/
theorem State.byte_setBytes_out (bs : List Byte) : ∀ (s : State) (k j : Nat), j < k ∨ k + bs.length ≤ j →
    (s.setBytes k bs).byte j = s.byte j := by
  induction bs with
  | nil => exact fun _ _ _ _ => rfl
  | cons b r ih =>
    intro s k j h
    rw [List.length_cons] at h
    rw [State.setBytes, ih _ _ _ (by omega), State.byte_setByte_ne _ _ (by omega)]

/-- A byte of the run reads as written. -/
theorem State.byte_setBytes_in (bs : List Byte) : ∀ (s : State) (k i : Nat) (h : i < bs.length),
    (s.setBytes k bs).byte (k + i) = bs[i] := by
  induction bs with
  | nil => intro s k i h; exact absurd h (Nat.not_lt_zero _)
  | cons b r ih =>
    intro s k i h
    rw [State.setBytes]
    cases i with
    | zero => rw [State.byte_setBytes_out _ _ _ _ (by omega)]; exact State.byte_setByte_self ..
    | succ i =>
      rw [show k + (i + 1) = k + 1 + i by omega, ih _ _ _ (by simpa using h)]; rfl

@[simp] theorem State.setBytes_planes (bs : List Byte) : ∀ (s : State) (k : Nat), (s.setBytes k bs).planes = s.planes := by
  induction bs with
  | nil => exact fun _ _ => rfl
  | cons b r ih => exact fun s k => ih _ _

/-! ## Operations that leave memory alone -/

@[simp] theorem State.clearPoison_mem (s : State) (key n : Nat) : (s.clearPoison key n).mem = s.mem := by
  unfold State.clearPoison; split <;> rfl
@[simp] theorem State.refreshOwn_mem (s : State) (w : Wr) : (s.refreshOwn w).mem = s.mem := by
  unfold State.refreshOwn; split <;> rfl
@[simp] theorem State.dropCopies_mem (s : State) (line writer : Nat) : (s.dropCopies line writer).1.mem = s.mem := by
  unfold State.dropCopies; simp only []; split <;> rfl
@[simp] theorem State.setWin_mem (s : State) (w : Nat) (x : Win) : (s.setWin w x).mem = s.mem := rfl
@[simp] theorem State.wakeWin_mem (s : State) (w : Nat) : (s.wakeWin w).mem = s.mem := rfl
@[simp] theorem State.dropCounts_mem (s : State) (w : Nat) : (s.dropCounts w).mem = s.mem := rfl
@[simp] theorem State.trigger_mem (s : State) (w k : Nat) : (s.trigger w k).mem = s.mem := rfl
@[simp] theorem State.logWrite_mem (s : State) (pid file n : Nat) (v : Vec) : (s.logWrite pid file n v).mem = s.mem := rfl
@[simp] theorem State.setS_mem (s : State) (pid n : Nat) (v : Word) : (s.setS pid n v).mem = s.mem := by
  unfold State.setS; split <;> rfl
/-- A late register write leaves memory alone where its write to the plane does. -/
theorem State.lateWrite_mem (s : State) (pid tid fid : Nat) (f : State → State) (g : Regs → Regs) (h : (f s).mem = s.mem) :
    (s.lateWrite pid tid fid f g).mem = s.mem := by
  unfold State.lateWrite
  dsimp only
  cases s.take tid <;> dsimp only <;> split
  · simp at *
  · split
    · rfl
    · exact h
  · simp
  · split
    · rfl
    · exact h
@[simp] theorem State.winLate_mem (s : State) (w n : Nat) (x : Win) (d : Disarm) : (s.winLate w n x d).mem = s.mem := by
  unfold State.winLate
  dsimp only
  split
  · rw [State.trigger_mem]; exact State.lateWrite_mem _ _ _ _ _ _ (State.setS_mem ..)
  · exact State.lateWrite_mem _ _ _ _ _ _ (State.setS_mem ..)
@[simp] theorem State.winAdd_mem (s : State) (w n : Nat) : (s.winAdd w n).mem = s.mem := by
  unfold State.winAdd
  dsimp only
  split
  · rfl
  · split
    · simp
    · split
      · rfl
      · rw [State.trigger_mem]
        split <;> simp
@[simp] theorem State.charge_mem (s : State) (home job n : Nat) : (s.charge home job n).mem = s.mem := by
  unfold State.charge; split <;> rfl
@[simp] theorem State.countHits_mem (s : State) (home : Nat) (tids : List Nat) (hits : List (Nat × Nat)) :
    (s.countHits home tids hits).mem = s.mem := by
  unfold State.countHits
  split
  · rfl
  · rw [State.fold_eq State.mem _ (fun t x => by simp), State.fold_eq State.mem _ (fun t x => by split <;> simp)]

/-! ## Writes that perform -/

theorem State.memWf_applyWrite (s : State) (w : Wr) (h : s.memWf) : (s.applyWrite w).memWf :=
  memWf_of_mem (by simp [State.applyWrite])
    (State.memWf_setBytes w.data _ w.key (memWf_of_mem (s.charge_mem w.home w.job w.data.length) h))

theorem State.memWf_applyDirty (s : State) (pid : Nat) (l : StashLine) (h : s.memWf) : (s.applyDirty pid l).memWf := by
  unfold State.applyDirty
  dsimp only
  split
  · exact h
  · refine memWf_of_mem (State.countHits_mem ..) ?_
    have := State.fold_inv (P := State.memWf) (fun s b => s.setByte (l.key + b.1) b.2)
      (fun s b h => s.memWf_setByte _ _ h) l.dirtyBytes
      (s.charge (dieOf pid * 64 + homeSlice (l.key % 2 ^ 64)) l.job l.dirtyBytes.length) (memWf_of_mem (s.charge_mem ..) h)
    split
    · exact memWf_of_mem (State.clearPoison_mem ..) this
    · exact this

theorem State.memWf_dropCopies (s : State) (line writer : Nat) (h : s.memWf) : (s.dropCopies line writer).1.memWf :=
  memWf_of_mem (State.dropCopies_mem ..) h

/-- A write that performs keeps the canonical form. -/
theorem State.memWf_performWrite (s : State) (w : Wr) (h : s.memWf) : (s.performWrite w).memWf := by
  unfold State.performWrite
  dsimp only
  have h1 := State.memWf_applyWrite _ w (State.memWf_dropCopies s (lineOf w.key) w.writer h)
  split
  · exact h1
  · refine State.fold_inv (P := State.memWf) _ (fun s g h => s.memWf_applyDirty _ _ h) _ _ ?_
    exact State.fold_inv (P := State.memWf) _ (fun s g h => s.memWf_applyDirty _ _ h) _ _ (State.memWf_dropCopies _ _ _ h1)

/-- A package reset clears bonded DRAM and keeps the canonical form (R373). -/
theorem State.memWf_packageReset (s : State) (cause detail : Nat) (h : s.memWf) : (s.packageReset cause detail).memWf :=
  canon_filter _ h

end Sys2Proof.Machine
end

