-- ==== Sys2Proof/Laws/Registers.lean ====
section
/-!
SUPPORT. What a register write does to the registers, and that a write followed by the next place is all that a
register-only instruction does (R52, R55, R326).
-/
namespace Sys2Proof.Machine

@[simp] theorem Regs.rS_zero (r : Regs) : r.rS 0 = 0 := rfl
@[simp] theorem Regs.rP_zero (r : Regs) : r.rP 0 = 1 := rfl
@[simp] theorem Regs.rM_zero (r : Regs) : r.rM 0 = BitVec.allOnes 64 := rfl

theorem Regs.rS_wS (r : Regs) (n m : Nat) (v : Word) : (r.wS n v).rS m = if m = n ∧ n ≠ 0 then v else r.rS m := by
  unfold Regs.wS Regs.rS
  by_cases hn : n = 0 <;> by_cases hm : m = 0 <;> simp_all [look_put]
  intro h; omega

theorem Regs.rP_wP (r : Regs) (n m : Nat) (v : BitVec 1) : (r.wP n v).rP m = if m = n ∧ n ≠ 0 then v else r.rP m := by
  unfold Regs.wP Regs.rP
  by_cases hn : n = 0 <;> by_cases hm : m = 0 <;> simp_all [look_put]
  intro h; omega

theorem Regs.rM_wM (r : Regs) (n m : Nat) (v : Word) : (r.wM n v).rM m = if m = n ∧ n ≠ 0 then v else r.rM m := by
  unfold Regs.wM Regs.rM
  by_cases hn : n = 0 <;> by_cases hm : m = 0 <;> simp_all [look_put]
  intro h; omega

theorem Regs.rV_wV (r : Regs) (n m : Nat) (v : Vec) : (r.wV n v).rV m = if m = n then v else r.rV m := by
  simp [Regs.wV, Regs.rV, look_put]

/-- A write to one file leaves the others alone. -/
@[simp] theorem Regs.rP_wS (r : Regs) (n m : Nat) (v : Word) : (r.wS n v).rP m = r.rP m := by unfold Regs.wS; split <;> rfl
@[simp] theorem Regs.rV_wS (r : Regs) (n m : Nat) (v : Word) : (r.wS n v).rV m = r.rV m := by unfold Regs.wS; split <;> rfl
@[simp] theorem Regs.rM_wS (r : Regs) (n m : Nat) (v : Word) : (r.wS n v).rM m = r.rM m := by unfold Regs.wS; split <;> rfl
@[simp] theorem Regs.rS_wP (r : Regs) (n m : Nat) (v : BitVec 1) : (r.wP n v).rS m = r.rS m := by unfold Regs.wP; split <;> rfl
@[simp] theorem Regs.rV_wP (r : Regs) (n m : Nat) (v : BitVec 1) : (r.wP n v).rV m = r.rV m := by unfold Regs.wP; split <;> rfl
@[simp] theorem Regs.rM_wP (r : Regs) (n m : Nat) (v : BitVec 1) : (r.wP n v).rM m = r.rM m := by unfold Regs.wP; split <;> rfl
@[simp] theorem Regs.rS_wM (r : Regs) (n m : Nat) (v : Word) : (r.wM n v).rS m = r.rS m := by unfold Regs.wM; split <;> rfl
@[simp] theorem Regs.rP_wM (r : Regs) (n m : Nat) (v : Word) : (r.wM n v).rP m = r.rP m := by unfold Regs.wM; split <;> rfl
@[simp] theorem Regs.rV_wM (r : Regs) (n m : Nat) (v : Word) : (r.wM n v).rV m = r.rV m := by unfold Regs.wM; split <;> rfl
@[simp] theorem Regs.rS_wV (r : Regs) (n m : Nat) (v : Vec) : (r.wV n v).rS m = r.rS m := rfl
@[simp] theorem Regs.rP_wV (r : Regs) (n m : Nat) (v : Vec) : (r.wV n v).rP m = r.rP m := rfl
@[simp] theorem Regs.rM_wV (r : Regs) (n m : Nat) (v : Vec) : (r.wV n v).rM m = r.rM m := rfl

/-- What writing registers and the LFSR of the current plane does to everything else. -/
def wrote (s t : State) : Prop :=
  t = { s with planes := t.planes, cells := t.cells }
  ∧ (∀ q, q ≠ s.cur → t.plane q = s.plane q)
  ∧ t.pl = { s.pl with regs := t.pl.regs, lfsr := t.pl.lfsr }
  ∧ (∀ c, t.cell c = { s.cell c with log := (t.cell c).log })

theorem wrote_refl (s : State) : wrote s s := ⟨rfl, fun _ _ => rfl, rfl, fun _ => rfl⟩

theorem wrote_trans {s t u : State} (h : wrote s t) (k : wrote t u) : wrote s u := by
  obtain ⟨h1, h2, h3, h4⟩ := h
  obtain ⟨k1, k2, k3, k4⟩ := k
  have hc : t.cur = s.cur := by rw [h1]
  refine ⟨?_, ?_, ?_, ?_⟩
  · rw [k1, h1]
  · intro q hq; rw [k2 q (by rw [hc]; exact hq), h2 q hq]
  · rw [k3, h3]
  · intro c; rw [k4 c, h4 c]

/-- The write of one register of the current plane, logged. -/
theorem wrote_log (s : State) (f : Regs → Regs) (file n : Nat) (v : Vec) :
    wrote s ((s.modRegs s.cur f).logWrite s.cur file n v) := by
  refine ⟨rfl, fun q hq => ?_, ?_, fun c => ?_⟩
  · show (s.modRegs s.cur f).plane q = s.plane q
    exact State.plane_modPlane_ne s _ hq
  · show (s.modRegs s.cur f).pl = { s.pl with regs := (s.modRegs s.cur f).pl.regs, lfsr := (s.modRegs s.cur f).pl.lfsr }
    simp [State.modRegs, State.pl]
  · unfold State.logWrite
    rw [State.cell_modCell]
    split
    · next h => subst h; rfl
    · rfl

theorem regs_log (s : State) (f : Regs → Regs) (file n : Nat) (v : Vec) :
    ((s.modRegs s.cur f).logWrite s.cur file n v).pl.regs = f s.pl.regs := by
  show (s.modRegs s.cur f).pl.regs = f s.pl.regs
  simp [State.modRegs, State.pl]

theorem regs_wS (s : State) (n : Nat) (v : Word) : (s.wS n v).pl.regs = s.pl.regs.wS n v := by
  unfold State.wS State.setS
  split
  · next h => simp_all [Regs.wS]
  · exact regs_log ..

theorem regs_wP (s : State) (n : Nat) (v : BitVec 1) : (s.wP n v).pl.regs = s.pl.regs.wP n v := by
  unfold State.wP State.setP
  split
  · next h => simp_all [Regs.wP]
  · exact regs_log ..

theorem regs_wM (s : State) (n : Nat) (v : Word) : (s.wM n v).pl.regs = s.pl.regs.wM n v := by
  unfold State.wM State.setM
  split
  · next h => simp_all [Regs.wM]
  · exact regs_log ..

theorem regs_wV (s : State) (n : Nat) (v : Vec) : (s.wV n v).pl.regs = s.pl.regs.wV n v := regs_log ..

/-- No register write touches the LFSR. -/
theorem lfsr_log (s : State) (f : Regs → Regs) (file n : Nat) (v : Vec) :
    ((s.modRegs s.cur f).logWrite s.cur file n v).pl.lfsr = s.pl.lfsr := by
  show (s.modRegs s.cur f).pl.lfsr = s.pl.lfsr
  simp [State.modRegs, State.pl]

@[simp] theorem lfsr_wS (s : State) (n : Nat) (v : Word) : (s.wS n v).pl.lfsr = s.pl.lfsr := by
  unfold State.wS State.setS; split
  · rfl
  · exact lfsr_log ..

@[simp] theorem lfsr_wP (s : State) (n : Nat) (v : BitVec 1) : (s.wP n v).pl.lfsr = s.pl.lfsr := by
  unfold State.wP State.setP; split
  · rfl
  · exact lfsr_log ..

@[simp] theorem lfsr_wM (s : State) (n : Nat) (v : Word) : (s.wM n v).pl.lfsr = s.pl.lfsr := by
  unfold State.wM State.setM; split
  · rfl
  · exact lfsr_log ..

@[simp] theorem lfsr_wV (s : State) (n : Nat) (v : Vec) : (s.wV n v).pl.lfsr = s.pl.lfsr := lfsr_log ..

theorem wrote_wS (s : State) (n : Nat) (v : Word) : wrote s (s.wS n v) := by
  unfold State.wS State.setS; split
  · exact wrote_refl s
  · exact wrote_log ..

theorem wrote_wP (s : State) (n : Nat) (v : BitVec 1) : wrote s (s.wP n v) := by
  unfold State.wP State.setP; split
  · exact wrote_refl s
  · exact wrote_log ..

theorem wrote_wM (s : State) (n : Nat) (v : Word) : wrote s (s.wM n v) := by
  unfold State.wM State.setM; split
  · exact wrote_refl s
  · exact wrote_log ..

theorem wrote_wV (s : State) (n : Nat) (v : Vec) : wrote s (s.wV n v) := wrote_log ..

/-- The write of the LFSR of the current plane. -/
theorem wrote_lfsr (s : State) (l : BitVec 32) : wrote s (s.modPl fun p => { p with lfsr := l }) :=
  ⟨rfl, fun _ hq => State.plane_modPl_ne s _ hq, by simp, fun _ => rfl⟩

/-- After writes of the registers named and of the LFSR, the next place is all else that changes. -/
theorem ranOn_of_wrote {s t : State} {rs ps vs ms : List Nat} (pc : Nat) (lf : Bool) (h : wrote s t)
    (hl : lf = false → t.pl.lfsr = s.pl.lfsr)
    (hS : ∀ n, n ∉ rs → t.rS n = s.rS n) (hP : ∀ n, n ∉ ps → t.rP n = s.rP n)
    (hV : ∀ n, n ∉ vs → t.rV n = s.rV n) (hM : ∀ n, n ∉ ms → t.rM n = s.rM n) :
    ranOn s (t.goto pc) pc rs ps vs ms lf := by
  obtain ⟨h1, h2, h3, h4⟩ := h
  have hc : t.cur = s.cur := by rw [h1]
  have hm : t.mem = s.mem := by rw [h1]
  have hpl : (t.goto pc).pl =
      { t.pl with firing := { t.pl.firing with lastPc := t.pl.firing.pc, pc := pc, wait := .none } } := by
    simp [State.goto, State.modFiring, State.pl]
  have hr : (t.goto pc).pl.regs = t.pl.regs := by rw [hpl]
  refine ⟨?_, ?_, ?_, ?_, ?_, ?_, ?_, ?_, ?_, ?_⟩
  · rw [show t.goto pc = { t with planes := (t.goto pc).planes } from rfl, h1]
  · intro a; show look 0 t.mem a = look 0 s.mem a; rw [hm]
  · intro q hq
    rw [show (t.goto pc).plane q = t.plane q from State.plane_modPlane_ne _ _ (by rw [hc]; exact hq), h2 q hq]
  · rw [hpl, h3]; simp [State.pc]
  · intro hlf; rw [hpl]; exact hl hlf
  · intro c; exact h4 c
  · intro n hn; show Regs.rS _ n = _; rw [hr]; exact hS n hn
  · intro n hn; show Regs.rP _ n = _; rw [hr]; exact hP n hn
  · intro n hn; show Regs.rV _ n = _; rw [hr]; exact hV n hn
  · intro n hn; show Regs.rM _ n = _; rw [hr]; exact hM n hn

/-- Going on changes the place alone. -/
theorem ranOn_goto (s : State) (pc : Nat) : ranOn s (s.goto pc) pc [] [] [] [] false :=
  ranOn_of_wrote pc false (wrote_refl s) (fun _ => rfl) (fun _ _ => rfl) (fun _ _ => rfl) (fun _ _ => rfl) (fun _ _ => rfl)

/-- A stage instruction: with a false guard it goes on, with a true one its body is its effect (R42). -/
theorem guarded_stage {i : Instr} {s : State} {g : BitVec 3} {gn : BitVec 1} {body : State → State} {P : State → Prop}
    (h : exec i s = stage g gn s body) (hP : s.rP g.toNat ^^^ gn = 1 → P (body s)) : guarded i s g gn P := by
  refine ⟨fun hg => ⟨s.adv, ?_, ranOn_goto ..⟩, fun hg => ⟨body s, ?_, hP hg⟩⟩ <;> simp [h, stage, State.guard, hg]

/-- A stage instruction that writes one S register and goes on. -/
theorem writesS_stageS {i : Instr} {s : State} {g : BitVec 3} {gn : BitVec 1} {d : BitVec 5} {v : State → Word}
    (h : exec i s = stageS g gn s d v) : writesS i s g gn d (v s) := by
  refine guarded_stage h fun _ => ?_
  have hw := wrote_wS s d.toNat (v s)
  have hr := regs_wS s d.toNat (v s)
  have hp : (s.wS d.toNat (v s)).pc = s.pc := by show Firing.pc _ = _; rw [hw.2.2.1]; rfl
  have hran : ranOn s ((s.wS d.toNat (v s)).goto (s.pc + 1)) (s.pc + 1) [d.toNat] [] [] [] false := by
    refine ranOn_of_wrote _ _ hw ?_ ?_ ?_ ?_ ?_
    · intro _; simp
    all_goals intro n hn; simp only [State.rS, State.rP, State.rV, State.rM, hr]
    · rw [Regs.rS_wS, if_neg]; simp at hn; tauto
    all_goals simp
  have ha : ((s.wS d.toNat (v s)).adv) = (s.wS d.toNat (v s)).goto (s.pc + 1) := by
    unfold State.adv; exact congrArg _ (congrArg (· + 1) hp)
  rw [ha]
  refine ⟨?_, hran⟩
  have : ((s.wS d.toNat (v s)).goto (s.pc + 1)).pl.regs = (s.wS d.toNat (v s)).pl.regs := by
    simp [State.goto, State.modFiring, State.pl]
  simp only [State.rS, this, hr, Regs.rS_wS]
  by_cases hd : d = 0
  · subst hd; simp
  · have : d.toNat ≠ 0 := fun h => hd (by apply BitVec.eq_of_toNat_eq; simpa using h)
    simp only [this, ne_eq, not_false_eq_true, and_self, if_true, hd, if_false]

end Sys2Proof.Machine
end

