-- ==== Sys2Proof/Laws/Traffic.lean ====
section
/-!
SUPPORT. What the traffic of messages and of accesses leaves alone: the charge of a budget, a change of a message, a fragment at a
port, the issue of a message, and the accesses that leave their die (R272, R291, R295, R298).
-/
namespace Sys2Proof.Machine

/-! ## State.charge -/

@[simp] theorem State.charge_agenda (s : State) (home job n : Nat) : (s.charge home job n).agenda = s.agenda := by
  unfold State.charge; split <;> rfl
@[simp] theorem State.charge_turn (s : State) (home job n : Nat) : (s.charge home job n).turn = s.turn := by
  unfold State.charge; split <;> rfl
@[simp] theorem State.charge_cur (s : State) (home job n : Nat) : (s.charge home job n).cur = s.cur := by
  unfold State.charge; split <;> rfl
@[simp] theorem State.charge_curCtx (s : State) (home job n : Nat) : (s.charge home job n).curCtx = s.curCtx := by
  unfold State.charge; split <;> rfl
@[simp] theorem State.charge_clk (s : State) (home job n : Nat) : (s.charge home job n).clk = s.clk := by
  unfold State.charge; split <;> rfl
@[simp] theorem State.charge_free (s : State) (home job n : Nat) : (s.charge home job n).free = s.free := by
  unfold State.charge; split <;> rfl
@[simp] theorem State.charge_serial (s : State) (home job n : Nat) : (s.charge home job n).serial = s.serial := by
  unfold State.charge; split <;> rfl
@[simp] theorem State.charge_poison (s : State) (home job n : Nat) : (s.charge home job n).poison = s.poison := by
  unfold State.charge; split <;> rfl
@[simp] theorem State.charge_bank (s : State) (home job n : Nat) : (s.charge home job n).bank = s.bank := by
  unfold State.charge; split <;> rfl
@[simp] theorem State.charge_sideband (s : State) (home job n : Nat) : (s.charge home job n).sideband = s.sideband := by
  unfold State.charge; split <;> rfl
@[simp] theorem State.charge_planes (s : State) (home job n : Nat) : (s.charge home job n).planes = s.planes := by
  unfold State.charge; split <;> rfl
@[simp] theorem State.charge_cells (s : State) (home job n : Nat) : (s.charge home job n).cells = s.cells := by
  unfold State.charge; split <;> rfl
@[simp] theorem State.charge_rings (s : State) (home job n : Nat) : (s.charge home job n).rings = s.rings := by
  unfold State.charge; split <;> rfl
@[simp] theorem State.charge_ctxs (s : State) (home job n : Nat) : (s.charge home job n).ctxs = s.ctxs := by
  unfold State.charge; split <;> rfl
@[simp] theorem State.charge_cores (s : State) (home job n : Nat) : (s.charge home job n).cores = s.cores := by
  unfold State.charge; split <;> rfl
@[simp] theorem State.charge_dies (s : State) (home job n : Nat) : (s.charge home job n).dies = s.dies := by
  unfold State.charge; split <;> rfl
@[simp] theorem State.charge_links (s : State) (home job n : Nat) : (s.charge home job n).links = s.links := by
  unfold State.charge; split <;> rfl
@[simp] theorem State.charge_jobs (s : State) (home job n : Nat) : (s.charge home job n).jobs = s.jobs := by
  unfold State.charge; split <;> rfl
@[simp] theorem State.charge_regions (s : State) (home job n : Nat) : (s.charge home job n).regions = s.regions := by
  unfold State.charge; split <;> rfl
@[simp] theorem State.charge_takes (s : State) (home job n : Nat) : (s.charge home job n).takes = s.takes := by
  unfold State.charge; split <;> rfl
@[simp] theorem State.charge_images (s : State) (home job n : Nat) : (s.charge home job n).images = s.images := by
  unfold State.charge; split <;> rfl
@[simp] theorem State.charge_planeImages (s : State) (home job n : Nat) : (s.charge home job n).planeImages = s.planeImages := by
  unfold State.charge; split <;> rfl
@[simp] theorem State.charge_patches (s : State) (home job n : Nat) : (s.charge home job n).patches = s.patches := by
  unfold State.charge; split <;> rfl
@[simp] theorem State.charge_exits (s : State) (home job n : Nat) : (s.charge home job n).exits = s.exits := by
  unfold State.charge; split <;> rfl
@[simp] theorem State.charge_msgs (s : State) (home job n : Nat) : (s.charge home job n).msgs = s.msgs := by
  unfold State.charge; split <;> rfl
@[simp] theorem State.charge_wire (s : State) (home job n : Nat) : (s.charge home job n).wire = s.wire := by
  unfold State.charge; split <;> rfl
@[simp] theorem State.charge_pkg (s : State) (home job n : Nat) : (s.charge home job n).pkg = s.pkg := by
  unfold State.charge; split <;> rfl

/-! ## State.modMsg -/

@[simp] theorem State.modMsg_agenda (s : State) (mid : Nat) (f : Msg → Msg) : (s.modMsg mid f).agenda = s.agenda := rfl
@[simp] theorem State.modMsg_turn (s : State) (mid : Nat) (f : Msg → Msg) : (s.modMsg mid f).turn = s.turn := rfl
@[simp] theorem State.modMsg_cur (s : State) (mid : Nat) (f : Msg → Msg) : (s.modMsg mid f).cur = s.cur := rfl
@[simp] theorem State.modMsg_curCtx (s : State) (mid : Nat) (f : Msg → Msg) : (s.modMsg mid f).curCtx = s.curCtx := rfl
@[simp] theorem State.modMsg_clk (s : State) (mid : Nat) (f : Msg → Msg) : (s.modMsg mid f).clk = s.clk := rfl
@[simp] theorem State.modMsg_free (s : State) (mid : Nat) (f : Msg → Msg) : (s.modMsg mid f).free = s.free := rfl
@[simp] theorem State.modMsg_serial (s : State) (mid : Nat) (f : Msg → Msg) : (s.modMsg mid f).serial = s.serial := rfl
@[simp] theorem State.modMsg_mem (s : State) (mid : Nat) (f : Msg → Msg) : (s.modMsg mid f).mem = s.mem := rfl
@[simp] theorem State.modMsg_poison (s : State) (mid : Nat) (f : Msg → Msg) : (s.modMsg mid f).poison = s.poison := rfl
@[simp] theorem State.modMsg_bank (s : State) (mid : Nat) (f : Msg → Msg) : (s.modMsg mid f).bank = s.bank := rfl
@[simp] theorem State.modMsg_sideband (s : State) (mid : Nat) (f : Msg → Msg) : (s.modMsg mid f).sideband = s.sideband := rfl
@[simp] theorem State.modMsg_planes (s : State) (mid : Nat) (f : Msg → Msg) : (s.modMsg mid f).planes = s.planes := rfl
@[simp] theorem State.modMsg_cells (s : State) (mid : Nat) (f : Msg → Msg) : (s.modMsg mid f).cells = s.cells := rfl
@[simp] theorem State.modMsg_rings (s : State) (mid : Nat) (f : Msg → Msg) : (s.modMsg mid f).rings = s.rings := rfl
@[simp] theorem State.modMsg_ctxs (s : State) (mid : Nat) (f : Msg → Msg) : (s.modMsg mid f).ctxs = s.ctxs := rfl
@[simp] theorem State.modMsg_cores (s : State) (mid : Nat) (f : Msg → Msg) : (s.modMsg mid f).cores = s.cores := rfl
@[simp] theorem State.modMsg_slices (s : State) (mid : Nat) (f : Msg → Msg) : (s.modMsg mid f).slices = s.slices := rfl
@[simp] theorem State.modMsg_dies (s : State) (mid : Nat) (f : Msg → Msg) : (s.modMsg mid f).dies = s.dies := rfl
@[simp] theorem State.modMsg_links (s : State) (mid : Nat) (f : Msg → Msg) : (s.modMsg mid f).links = s.links := rfl
@[simp] theorem State.modMsg_jobs (s : State) (mid : Nat) (f : Msg → Msg) : (s.modMsg mid f).jobs = s.jobs := rfl
@[simp] theorem State.modMsg_regions (s : State) (mid : Nat) (f : Msg → Msg) : (s.modMsg mid f).regions = s.regions := rfl
@[simp] theorem State.modMsg_takes (s : State) (mid : Nat) (f : Msg → Msg) : (s.modMsg mid f).takes = s.takes := rfl
@[simp] theorem State.modMsg_images (s : State) (mid : Nat) (f : Msg → Msg) : (s.modMsg mid f).images = s.images := rfl
@[simp] theorem State.modMsg_planeImages (s : State) (mid : Nat) (f : Msg → Msg) : (s.modMsg mid f).planeImages = s.planeImages := rfl
@[simp] theorem State.modMsg_patches (s : State) (mid : Nat) (f : Msg → Msg) : (s.modMsg mid f).patches = s.patches := rfl
@[simp] theorem State.modMsg_exits (s : State) (mid : Nat) (f : Msg → Msg) : (s.modMsg mid f).exits = s.exits := rfl
@[simp] theorem State.modMsg_wire (s : State) (mid : Nat) (f : Msg → Msg) : (s.modMsg mid f).wire = s.wire := rfl
@[simp] theorem State.modMsg_pkg (s : State) (mid : Nat) (f : Msg → Msg) : (s.modMsg mid f).pkg = s.pkg := rfl

/-! ## State.putSrc -/

@[simp] theorem State.putSrc_agenda (s : State) (d : Nat) (e : SrcEntry) : (s.putSrc d e).agenda = s.agenda := rfl
@[simp] theorem State.putSrc_turn (s : State) (d : Nat) (e : SrcEntry) : (s.putSrc d e).turn = s.turn := rfl
@[simp] theorem State.putSrc_cur (s : State) (d : Nat) (e : SrcEntry) : (s.putSrc d e).cur = s.cur := rfl
@[simp] theorem State.putSrc_curCtx (s : State) (d : Nat) (e : SrcEntry) : (s.putSrc d e).curCtx = s.curCtx := rfl
@[simp] theorem State.putSrc_clk (s : State) (d : Nat) (e : SrcEntry) : (s.putSrc d e).clk = s.clk := rfl
@[simp] theorem State.putSrc_free (s : State) (d : Nat) (e : SrcEntry) : (s.putSrc d e).free = s.free := rfl
@[simp] theorem State.putSrc_serial (s : State) (d : Nat) (e : SrcEntry) : (s.putSrc d e).serial = s.serial := rfl
@[simp] theorem State.putSrc_mem (s : State) (d : Nat) (e : SrcEntry) : (s.putSrc d e).mem = s.mem := rfl
@[simp] theorem State.putSrc_poison (s : State) (d : Nat) (e : SrcEntry) : (s.putSrc d e).poison = s.poison := rfl
@[simp] theorem State.putSrc_bank (s : State) (d : Nat) (e : SrcEntry) : (s.putSrc d e).bank = s.bank := rfl
@[simp] theorem State.putSrc_sideband (s : State) (d : Nat) (e : SrcEntry) : (s.putSrc d e).sideband = s.sideband := rfl
@[simp] theorem State.putSrc_planes (s : State) (d : Nat) (e : SrcEntry) : (s.putSrc d e).planes = s.planes := rfl
@[simp] theorem State.putSrc_cells (s : State) (d : Nat) (e : SrcEntry) : (s.putSrc d e).cells = s.cells := rfl
@[simp] theorem State.putSrc_rings (s : State) (d : Nat) (e : SrcEntry) : (s.putSrc d e).rings = s.rings := rfl
@[simp] theorem State.putSrc_ctxs (s : State) (d : Nat) (e : SrcEntry) : (s.putSrc d e).ctxs = s.ctxs := rfl
@[simp] theorem State.putSrc_cores (s : State) (d : Nat) (e : SrcEntry) : (s.putSrc d e).cores = s.cores := rfl
@[simp] theorem State.putSrc_slices (s : State) (d : Nat) (e : SrcEntry) : (s.putSrc d e).slices = s.slices := rfl
@[simp] theorem State.putSrc_links (s : State) (d : Nat) (e : SrcEntry) : (s.putSrc d e).links = s.links := rfl
@[simp] theorem State.putSrc_jobs (s : State) (d : Nat) (e : SrcEntry) : (s.putSrc d e).jobs = s.jobs := rfl
@[simp] theorem State.putSrc_regions (s : State) (d : Nat) (e : SrcEntry) : (s.putSrc d e).regions = s.regions := rfl
@[simp] theorem State.putSrc_takes (s : State) (d : Nat) (e : SrcEntry) : (s.putSrc d e).takes = s.takes := rfl
@[simp] theorem State.putSrc_images (s : State) (d : Nat) (e : SrcEntry) : (s.putSrc d e).images = s.images := rfl
@[simp] theorem State.putSrc_planeImages (s : State) (d : Nat) (e : SrcEntry) : (s.putSrc d e).planeImages = s.planeImages := rfl
@[simp] theorem State.putSrc_patches (s : State) (d : Nat) (e : SrcEntry) : (s.putSrc d e).patches = s.patches := rfl
@[simp] theorem State.putSrc_exits (s : State) (d : Nat) (e : SrcEntry) : (s.putSrc d e).exits = s.exits := rfl
@[simp] theorem State.putSrc_msgs (s : State) (d : Nat) (e : SrcEntry) : (s.putSrc d e).msgs = s.msgs := rfl
@[simp] theorem State.putSrc_wire (s : State) (d : Nat) (e : SrcEntry) : (s.putSrc d e).wire = s.wire := rfl
@[simp] theorem State.putSrc_pkg (s : State) (d : Nat) (e : SrcEntry) : (s.putSrc d e).pkg = s.pkg := rfl

/-! ## State.setPortLast -/

@[simp] theorem State.setPortLast_agenda (s : State) (p : Port) : (s.setPortLast p).agenda = s.agenda := by
  cases p <;> rfl
@[simp] theorem State.setPortLast_turn (s : State) (p : Port) : (s.setPortLast p).turn = s.turn := by
  cases p <;> rfl
@[simp] theorem State.setPortLast_cur (s : State) (p : Port) : (s.setPortLast p).cur = s.cur := by
  cases p <;> rfl
@[simp] theorem State.setPortLast_curCtx (s : State) (p : Port) : (s.setPortLast p).curCtx = s.curCtx := by
  cases p <;> rfl
@[simp] theorem State.setPortLast_clk (s : State) (p : Port) : (s.setPortLast p).clk = s.clk := by
  cases p <;> rfl
@[simp] theorem State.setPortLast_free (s : State) (p : Port) : (s.setPortLast p).free = s.free := by
  cases p <;> rfl
@[simp] theorem State.setPortLast_serial (s : State) (p : Port) : (s.setPortLast p).serial = s.serial := by
  cases p <;> rfl
@[simp] theorem State.setPortLast_mem (s : State) (p : Port) : (s.setPortLast p).mem = s.mem := by
  cases p <;> rfl
@[simp] theorem State.setPortLast_poison (s : State) (p : Port) : (s.setPortLast p).poison = s.poison := by
  cases p <;> rfl
@[simp] theorem State.setPortLast_bank (s : State) (p : Port) : (s.setPortLast p).bank = s.bank := by
  cases p <;> rfl
@[simp] theorem State.setPortLast_sideband (s : State) (p : Port) : (s.setPortLast p).sideband = s.sideband := by
  cases p <;> rfl
@[simp] theorem State.setPortLast_planes (s : State) (p : Port) : (s.setPortLast p).planes = s.planes := by
  cases p <;> rfl
@[simp] theorem State.setPortLast_cells (s : State) (p : Port) : (s.setPortLast p).cells = s.cells := by
  cases p <;> rfl
@[simp] theorem State.setPortLast_rings (s : State) (p : Port) : (s.setPortLast p).rings = s.rings := by
  cases p <;> rfl
@[simp] theorem State.setPortLast_ctxs (s : State) (p : Port) : (s.setPortLast p).ctxs = s.ctxs := by
  cases p <;> rfl
@[simp] theorem State.setPortLast_cores (s : State) (p : Port) : (s.setPortLast p).cores = s.cores := by
  cases p <;> rfl
@[simp] theorem State.setPortLast_slices (s : State) (p : Port) : (s.setPortLast p).slices = s.slices := by
  cases p <;> rfl
@[simp] theorem State.setPortLast_links (s : State) (p : Port) : (s.setPortLast p).links = s.links := by
  cases p <;> rfl
@[simp] theorem State.setPortLast_jobs (s : State) (p : Port) : (s.setPortLast p).jobs = s.jobs := by
  cases p <;> rfl
@[simp] theorem State.setPortLast_regions (s : State) (p : Port) : (s.setPortLast p).regions = s.regions := by
  cases p <;> rfl
@[simp] theorem State.setPortLast_takes (s : State) (p : Port) : (s.setPortLast p).takes = s.takes := by
  cases p <;> rfl
@[simp] theorem State.setPortLast_images (s : State) (p : Port) : (s.setPortLast p).images = s.images := by
  cases p <;> rfl
@[simp] theorem State.setPortLast_planeImages (s : State) (p : Port) : (s.setPortLast p).planeImages = s.planeImages := by
  cases p <;> rfl
@[simp] theorem State.setPortLast_patches (s : State) (p : Port) : (s.setPortLast p).patches = s.patches := by
  cases p <;> rfl
@[simp] theorem State.setPortLast_exits (s : State) (p : Port) : (s.setPortLast p).exits = s.exits := by
  cases p <;> rfl
@[simp] theorem State.setPortLast_msgs (s : State) (p : Port) : (s.setPortLast p).msgs = s.msgs := by
  cases p <;> rfl
@[simp] theorem State.setPortLast_wire (s : State) (p : Port) : (s.setPortLast p).wire = s.wire := by
  cases p <;> rfl

/-! ## State.nowWaits -/

@[simp] theorem State.nowWaits_agenda (s : State) (f : Frag) : (s.nowWaits f).agenda = s.agenda := by
  unfold State.nowWaits
  split
  · rfl
  · split <;> simp
@[simp] theorem State.nowWaits_turn (s : State) (f : Frag) : (s.nowWaits f).turn = s.turn := by
  unfold State.nowWaits
  split
  · rfl
  · split <;> simp
@[simp] theorem State.nowWaits_cur (s : State) (f : Frag) : (s.nowWaits f).cur = s.cur := by
  unfold State.nowWaits
  split
  · rfl
  · split <;> simp
@[simp] theorem State.nowWaits_curCtx (s : State) (f : Frag) : (s.nowWaits f).curCtx = s.curCtx := by
  unfold State.nowWaits
  split
  · rfl
  · split <;> simp
@[simp] theorem State.nowWaits_clk (s : State) (f : Frag) : (s.nowWaits f).clk = s.clk := by
  unfold State.nowWaits
  split
  · rfl
  · split <;> simp
@[simp] theorem State.nowWaits_free (s : State) (f : Frag) : (s.nowWaits f).free = s.free := by
  unfold State.nowWaits
  split
  · rfl
  · split <;> simp
@[simp] theorem State.nowWaits_serial (s : State) (f : Frag) : (s.nowWaits f).serial = s.serial := by
  unfold State.nowWaits
  split
  · rfl
  · split <;> simp
@[simp] theorem State.nowWaits_mem (s : State) (f : Frag) : (s.nowWaits f).mem = s.mem := by
  unfold State.nowWaits
  split
  · rfl
  · split <;> simp
@[simp] theorem State.nowWaits_poison (s : State) (f : Frag) : (s.nowWaits f).poison = s.poison := by
  unfold State.nowWaits
  split
  · rfl
  · split <;> simp
@[simp] theorem State.nowWaits_bank (s : State) (f : Frag) : (s.nowWaits f).bank = s.bank := by
  unfold State.nowWaits
  split
  · rfl
  · split <;> simp
@[simp] theorem State.nowWaits_sideband (s : State) (f : Frag) : (s.nowWaits f).sideband = s.sideband := by
  unfold State.nowWaits
  split
  · rfl
  · split <;> simp
@[simp] theorem State.nowWaits_planes (s : State) (f : Frag) : (s.nowWaits f).planes = s.planes := by
  unfold State.nowWaits
  split
  · rfl
  · split <;> simp
@[simp] theorem State.nowWaits_cells (s : State) (f : Frag) : (s.nowWaits f).cells = s.cells := by
  unfold State.nowWaits
  split
  · rfl
  · split <;> simp
@[simp] theorem State.nowWaits_rings (s : State) (f : Frag) : (s.nowWaits f).rings = s.rings := by
  unfold State.nowWaits
  split
  · rfl
  · split <;> simp
@[simp] theorem State.nowWaits_ctxs (s : State) (f : Frag) : (s.nowWaits f).ctxs = s.ctxs := by
  unfold State.nowWaits
  split
  · rfl
  · split <;> simp
@[simp] theorem State.nowWaits_cores (s : State) (f : Frag) : (s.nowWaits f).cores = s.cores := by
  unfold State.nowWaits
  split
  · rfl
  · split <;> simp
@[simp] theorem State.nowWaits_slices (s : State) (f : Frag) : (s.nowWaits f).slices = s.slices := by
  unfold State.nowWaits
  split
  · rfl
  · split <;> simp
@[simp] theorem State.nowWaits_links (s : State) (f : Frag) : (s.nowWaits f).links = s.links := by
  unfold State.nowWaits
  split
  · rfl
  · split <;> simp
@[simp] theorem State.nowWaits_jobs (s : State) (f : Frag) : (s.nowWaits f).jobs = s.jobs := by
  unfold State.nowWaits
  split
  · rfl
  · split <;> simp
@[simp] theorem State.nowWaits_regions (s : State) (f : Frag) : (s.nowWaits f).regions = s.regions := by
  unfold State.nowWaits
  split
  · rfl
  · split <;> simp
@[simp] theorem State.nowWaits_takes (s : State) (f : Frag) : (s.nowWaits f).takes = s.takes := by
  unfold State.nowWaits
  split
  · rfl
  · split <;> simp
@[simp] theorem State.nowWaits_images (s : State) (f : Frag) : (s.nowWaits f).images = s.images := by
  unfold State.nowWaits
  split
  · rfl
  · split <;> simp
@[simp] theorem State.nowWaits_planeImages (s : State) (f : Frag) : (s.nowWaits f).planeImages = s.planeImages := by
  unfold State.nowWaits
  split
  · rfl
  · split <;> simp
@[simp] theorem State.nowWaits_patches (s : State) (f : Frag) : (s.nowWaits f).patches = s.patches := by
  unfold State.nowWaits
  split
  · rfl
  · split <;> simp
@[simp] theorem State.nowWaits_exits (s : State) (f : Frag) : (s.nowWaits f).exits = s.exits := by
  unfold State.nowWaits
  split
  · rfl
  · split <;> simp
@[simp] theorem State.nowWaits_msgs (s : State) (f : Frag) : (s.nowWaits f).msgs = s.msgs := by
  unfold State.nowWaits
  split
  · rfl
  · split <;> simp
@[simp] theorem State.nowWaits_wire (s : State) (f : Frag) : (s.nowWaits f).wire = s.wire := by
  unfold State.nowWaits
  split
  · rfl
  · split <;> simp

/-! ## State.putFrag -/

@[simp] theorem State.putFrag_agenda (s : State) (f : Frag) : (s.putFrag f).agenda = s.agenda := by
  simp [State.putFrag]
@[simp] theorem State.putFrag_turn (s : State) (f : Frag) : (s.putFrag f).turn = s.turn := by
  simp [State.putFrag]
@[simp] theorem State.putFrag_cur (s : State) (f : Frag) : (s.putFrag f).cur = s.cur := by
  simp [State.putFrag]
@[simp] theorem State.putFrag_curCtx (s : State) (f : Frag) : (s.putFrag f).curCtx = s.curCtx := by
  simp [State.putFrag]
@[simp] theorem State.putFrag_clk (s : State) (f : Frag) : (s.putFrag f).clk = s.clk := by
  simp [State.putFrag]
@[simp] theorem State.putFrag_free (s : State) (f : Frag) : (s.putFrag f).free = s.free := by
  simp [State.putFrag]
@[simp] theorem State.putFrag_serial (s : State) (f : Frag) : (s.putFrag f).serial = s.serial := by
  simp [State.putFrag]
@[simp] theorem State.putFrag_mem (s : State) (f : Frag) : (s.putFrag f).mem = s.mem := by
  simp [State.putFrag]
@[simp] theorem State.putFrag_poison (s : State) (f : Frag) : (s.putFrag f).poison = s.poison := by
  simp [State.putFrag]
@[simp] theorem State.putFrag_bank (s : State) (f : Frag) : (s.putFrag f).bank = s.bank := by
  simp [State.putFrag]
@[simp] theorem State.putFrag_sideband (s : State) (f : Frag) : (s.putFrag f).sideband = s.sideband := by
  simp [State.putFrag]
@[simp] theorem State.putFrag_planes (s : State) (f : Frag) : (s.putFrag f).planes = s.planes := by
  simp [State.putFrag]
@[simp] theorem State.putFrag_cells (s : State) (f : Frag) : (s.putFrag f).cells = s.cells := by
  simp [State.putFrag]
@[simp] theorem State.putFrag_rings (s : State) (f : Frag) : (s.putFrag f).rings = s.rings := by
  simp [State.putFrag]
@[simp] theorem State.putFrag_ctxs (s : State) (f : Frag) : (s.putFrag f).ctxs = s.ctxs := by
  simp [State.putFrag]
@[simp] theorem State.putFrag_cores (s : State) (f : Frag) : (s.putFrag f).cores = s.cores := by
  simp [State.putFrag]
@[simp] theorem State.putFrag_slices (s : State) (f : Frag) : (s.putFrag f).slices = s.slices := by
  simp [State.putFrag]
@[simp] theorem State.putFrag_links (s : State) (f : Frag) : (s.putFrag f).links = s.links := by
  simp [State.putFrag]
@[simp] theorem State.putFrag_jobs (s : State) (f : Frag) : (s.putFrag f).jobs = s.jobs := by
  simp [State.putFrag]
@[simp] theorem State.putFrag_regions (s : State) (f : Frag) : (s.putFrag f).regions = s.regions := by
  simp [State.putFrag]
@[simp] theorem State.putFrag_takes (s : State) (f : Frag) : (s.putFrag f).takes = s.takes := by
  simp [State.putFrag]
@[simp] theorem State.putFrag_images (s : State) (f : Frag) : (s.putFrag f).images = s.images := by
  simp [State.putFrag]
@[simp] theorem State.putFrag_planeImages (s : State) (f : Frag) : (s.putFrag f).planeImages = s.planeImages := by
  simp [State.putFrag]
@[simp] theorem State.putFrag_patches (s : State) (f : Frag) : (s.putFrag f).patches = s.patches := by
  simp [State.putFrag]
@[simp] theorem State.putFrag_exits (s : State) (f : Frag) : (s.putFrag f).exits = s.exits := by
  simp [State.putFrag]
@[simp] theorem State.putFrag_msgs (s : State) (f : Frag) : (s.putFrag f).msgs = s.msgs := by
  simp [State.putFrag]

/-! ## State.launch -/

@[simp] theorem State.launch_agenda (s : State) (m : Msg) : (s.launch m).agenda = s.agenda := rfl
@[simp] theorem State.launch_turn (s : State) (m : Msg) : (s.launch m).turn = s.turn := rfl
@[simp] theorem State.launch_cur (s : State) (m : Msg) : (s.launch m).cur = s.cur := rfl
@[simp] theorem State.launch_curCtx (s : State) (m : Msg) : (s.launch m).curCtx = s.curCtx := rfl
@[simp] theorem State.launch_clk (s : State) (m : Msg) : (s.launch m).clk = s.clk := rfl
@[simp] theorem State.launch_free (s : State) (m : Msg) : (s.launch m).free = s.free := rfl
@[simp] theorem State.launch_mem (s : State) (m : Msg) : (s.launch m).mem = s.mem := rfl
@[simp] theorem State.launch_poison (s : State) (m : Msg) : (s.launch m).poison = s.poison := rfl
@[simp] theorem State.launch_bank (s : State) (m : Msg) : (s.launch m).bank = s.bank := rfl
@[simp] theorem State.launch_sideband (s : State) (m : Msg) : (s.launch m).sideband = s.sideband := rfl
@[simp] theorem State.launch_planes (s : State) (m : Msg) : (s.launch m).planes = s.planes := rfl
@[simp] theorem State.launch_cells (s : State) (m : Msg) : (s.launch m).cells = s.cells := rfl
@[simp] theorem State.launch_rings (s : State) (m : Msg) : (s.launch m).rings = s.rings := rfl
@[simp] theorem State.launch_ctxs (s : State) (m : Msg) : (s.launch m).ctxs = s.ctxs := rfl
@[simp] theorem State.launch_cores (s : State) (m : Msg) : (s.launch m).cores = s.cores := rfl
@[simp] theorem State.launch_slices (s : State) (m : Msg) : (s.launch m).slices = s.slices := rfl
@[simp] theorem State.launch_links (s : State) (m : Msg) : (s.launch m).links = s.links := rfl
@[simp] theorem State.launch_jobs (s : State) (m : Msg) : (s.launch m).jobs = s.jobs := rfl
@[simp] theorem State.launch_regions (s : State) (m : Msg) : (s.launch m).regions = s.regions := rfl
@[simp] theorem State.launch_takes (s : State) (m : Msg) : (s.launch m).takes = s.takes := rfl
@[simp] theorem State.launch_images (s : State) (m : Msg) : (s.launch m).images = s.images := rfl
@[simp] theorem State.launch_planeImages (s : State) (m : Msg) : (s.launch m).planeImages = s.planeImages := rfl
@[simp] theorem State.launch_patches (s : State) (m : Msg) : (s.launch m).patches = s.patches := rfl
@[simp] theorem State.launch_exits (s : State) (m : Msg) : (s.launch m).exits = s.exits := rfl
@[simp] theorem State.launch_wire (s : State) (m : Msg) : (s.launch m).wire = s.wire := rfl
@[simp] theorem State.launch_pkg (s : State) (m : Msg) : (s.launch m).pkg = s.pkg := rfl

/-! ## State.sendAccess -/

@[simp] theorem State.sendAccess_agenda (s : State) (pid : Nat) (o : MemOp) : (s.sendAccess pid o).agenda = s.agenda := by
  unfold State.sendAccess; split <;> simp
@[simp] theorem State.sendAccess_turn (s : State) (pid : Nat) (o : MemOp) : (s.sendAccess pid o).turn = s.turn := by
  unfold State.sendAccess; split <;> simp
@[simp] theorem State.sendAccess_cur (s : State) (pid : Nat) (o : MemOp) : (s.sendAccess pid o).cur = s.cur := by
  unfold State.sendAccess; split <;> simp
@[simp] theorem State.sendAccess_curCtx (s : State) (pid : Nat) (o : MemOp) : (s.sendAccess pid o).curCtx = s.curCtx := by
  unfold State.sendAccess; split <;> simp
@[simp] theorem State.sendAccess_clk (s : State) (pid : Nat) (o : MemOp) : (s.sendAccess pid o).clk = s.clk := by
  unfold State.sendAccess; split <;> simp
@[simp] theorem State.sendAccess_free (s : State) (pid : Nat) (o : MemOp) : (s.sendAccess pid o).free = s.free := by
  unfold State.sendAccess; split <;> simp
@[simp] theorem State.sendAccess_mem (s : State) (pid : Nat) (o : MemOp) : (s.sendAccess pid o).mem = s.mem := by
  unfold State.sendAccess; split <;> simp
@[simp] theorem State.sendAccess_poison (s : State) (pid : Nat) (o : MemOp) : (s.sendAccess pid o).poison = s.poison := by
  unfold State.sendAccess; split <;> simp
@[simp] theorem State.sendAccess_bank (s : State) (pid : Nat) (o : MemOp) : (s.sendAccess pid o).bank = s.bank := by
  unfold State.sendAccess; split <;> simp
@[simp] theorem State.sendAccess_sideband (s : State) (pid : Nat) (o : MemOp) : (s.sendAccess pid o).sideband = s.sideband := by
  unfold State.sendAccess; split <;> simp
@[simp] theorem State.sendAccess_planes (s : State) (pid : Nat) (o : MemOp) : (s.sendAccess pid o).planes = s.planes := by
  unfold State.sendAccess; split <;> simp
@[simp] theorem State.sendAccess_cells (s : State) (pid : Nat) (o : MemOp) : (s.sendAccess pid o).cells = s.cells := by
  unfold State.sendAccess; split <;> simp
@[simp] theorem State.sendAccess_rings (s : State) (pid : Nat) (o : MemOp) : (s.sendAccess pid o).rings = s.rings := by
  unfold State.sendAccess; split <;> simp
@[simp] theorem State.sendAccess_ctxs (s : State) (pid : Nat) (o : MemOp) : (s.sendAccess pid o).ctxs = s.ctxs := by
  unfold State.sendAccess; split <;> simp
@[simp] theorem State.sendAccess_cores (s : State) (pid : Nat) (o : MemOp) : (s.sendAccess pid o).cores = s.cores := by
  unfold State.sendAccess; split <;> simp
@[simp] theorem State.sendAccess_slices (s : State) (pid : Nat) (o : MemOp) : (s.sendAccess pid o).slices = s.slices := by
  unfold State.sendAccess; split <;> simp
@[simp] theorem State.sendAccess_links (s : State) (pid : Nat) (o : MemOp) : (s.sendAccess pid o).links = s.links := by
  unfold State.sendAccess; split <;> simp
@[simp] theorem State.sendAccess_jobs (s : State) (pid : Nat) (o : MemOp) : (s.sendAccess pid o).jobs = s.jobs := by
  unfold State.sendAccess; split <;> simp
@[simp] theorem State.sendAccess_regions (s : State) (pid : Nat) (o : MemOp) : (s.sendAccess pid o).regions = s.regions := by
  unfold State.sendAccess; split <;> simp
@[simp] theorem State.sendAccess_takes (s : State) (pid : Nat) (o : MemOp) : (s.sendAccess pid o).takes = s.takes := by
  unfold State.sendAccess; split <;> simp
@[simp] theorem State.sendAccess_images (s : State) (pid : Nat) (o : MemOp) : (s.sendAccess pid o).images = s.images := by
  unfold State.sendAccess; split <;> simp
@[simp] theorem State.sendAccess_planeImages (s : State) (pid : Nat) (o : MemOp) : (s.sendAccess pid o).planeImages = s.planeImages := by
  unfold State.sendAccess; split <;> simp
@[simp] theorem State.sendAccess_patches (s : State) (pid : Nat) (o : MemOp) : (s.sendAccess pid o).patches = s.patches := by
  unfold State.sendAccess; split <;> simp
@[simp] theorem State.sendAccess_exits (s : State) (pid : Nat) (o : MemOp) : (s.sendAccess pid o).exits = s.exits := by
  unfold State.sendAccess; split <;> simp
@[simp] theorem State.sendAccess_wire (s : State) (pid : Nat) (o : MemOp) : (s.sendAccess pid o).wire = s.wire := by
  unfold State.sendAccess; split <;> simp
@[simp] theorem State.sendAccess_pkg (s : State) (pid : Nat) (o : MemOp) : (s.sendAccess pid o).pkg = s.pkg := by
  unfold State.sendAccess; split <;> simp

/-! ## State.sendCtl -/

@[simp] theorem State.sendCtl_agenda (s : State) (m : Msg) (die ep ed ctl : Nat) (list : List Nat) (report : List (Nat × Nat)) (arg : Nat) : (s.sendCtl m die ep ed ctl list report arg).agenda = s.agenda := by
  unfold State.sendCtl
  dsimp only
  rw [State.fold_eq State.agenda _ (fun t x => by split <;> simp [State.turnPort, apply_ite])]
  rfl
@[simp] theorem State.sendCtl_turn (s : State) (m : Msg) (die ep ed ctl : Nat) (list : List Nat) (report : List (Nat × Nat)) (arg : Nat) : (s.sendCtl m die ep ed ctl list report arg).turn = s.turn := by
  unfold State.sendCtl
  dsimp only
  rw [State.fold_eq State.turn _ (fun t x => by split <;> simp [State.turnPort, apply_ite])]
  rfl
@[simp] theorem State.sendCtl_cur (s : State) (m : Msg) (die ep ed ctl : Nat) (list : List Nat) (report : List (Nat × Nat)) (arg : Nat) : (s.sendCtl m die ep ed ctl list report arg).cur = s.cur := by
  unfold State.sendCtl
  dsimp only
  rw [State.fold_eq State.cur _ (fun t x => by split <;> simp [State.turnPort, apply_ite])]
  rfl
@[simp] theorem State.sendCtl_curCtx (s : State) (m : Msg) (die ep ed ctl : Nat) (list : List Nat) (report : List (Nat × Nat)) (arg : Nat) : (s.sendCtl m die ep ed ctl list report arg).curCtx = s.curCtx := by
  unfold State.sendCtl
  dsimp only
  rw [State.fold_eq State.curCtx _ (fun t x => by split <;> simp [State.turnPort, apply_ite])]
  rfl
@[simp] theorem State.sendCtl_clk (s : State) (m : Msg) (die ep ed ctl : Nat) (list : List Nat) (report : List (Nat × Nat)) (arg : Nat) : (s.sendCtl m die ep ed ctl list report arg).clk = s.clk := by
  unfold State.sendCtl
  dsimp only
  rw [State.fold_eq State.clk _ (fun t x => by split <;> simp [State.turnPort, apply_ite])]
  rfl
@[simp] theorem State.sendCtl_free (s : State) (m : Msg) (die ep ed ctl : Nat) (list : List Nat) (report : List (Nat × Nat)) (arg : Nat) : (s.sendCtl m die ep ed ctl list report arg).free = s.free := by
  unfold State.sendCtl
  dsimp only
  rw [State.fold_eq State.free _ (fun t x => by split <;> simp [State.turnPort, apply_ite])]
  rfl
@[simp] theorem State.sendCtl_mem (s : State) (m : Msg) (die ep ed ctl : Nat) (list : List Nat) (report : List (Nat × Nat)) (arg : Nat) : (s.sendCtl m die ep ed ctl list report arg).mem = s.mem := by
  unfold State.sendCtl
  dsimp only
  rw [State.fold_eq State.mem _ (fun t x => by split <;> simp [State.turnPort, apply_ite])]
  rfl
@[simp] theorem State.sendCtl_poison (s : State) (m : Msg) (die ep ed ctl : Nat) (list : List Nat) (report : List (Nat × Nat)) (arg : Nat) : (s.sendCtl m die ep ed ctl list report arg).poison = s.poison := by
  unfold State.sendCtl
  dsimp only
  rw [State.fold_eq State.poison _ (fun t x => by split <;> simp [State.turnPort, apply_ite])]
  rfl
@[simp] theorem State.sendCtl_bank (s : State) (m : Msg) (die ep ed ctl : Nat) (list : List Nat) (report : List (Nat × Nat)) (arg : Nat) : (s.sendCtl m die ep ed ctl list report arg).bank = s.bank := by
  unfold State.sendCtl
  dsimp only
  rw [State.fold_eq State.bank _ (fun t x => by split <;> simp [State.turnPort, apply_ite])]
  rfl
@[simp] theorem State.sendCtl_sideband (s : State) (m : Msg) (die ep ed ctl : Nat) (list : List Nat) (report : List (Nat × Nat)) (arg : Nat) : (s.sendCtl m die ep ed ctl list report arg).sideband = s.sideband := by
  unfold State.sendCtl
  dsimp only
  rw [State.fold_eq State.sideband _ (fun t x => by split <;> simp [State.turnPort, apply_ite])]
  rfl
@[simp] theorem State.sendCtl_planes (s : State) (m : Msg) (die ep ed ctl : Nat) (list : List Nat) (report : List (Nat × Nat)) (arg : Nat) : (s.sendCtl m die ep ed ctl list report arg).planes = s.planes := by
  unfold State.sendCtl
  dsimp only
  rw [State.fold_eq State.planes _ (fun t x => by split <;> simp [State.turnPort, apply_ite])]
  rfl
@[simp] theorem State.sendCtl_cells (s : State) (m : Msg) (die ep ed ctl : Nat) (list : List Nat) (report : List (Nat × Nat)) (arg : Nat) : (s.sendCtl m die ep ed ctl list report arg).cells = s.cells := by
  unfold State.sendCtl
  dsimp only
  rw [State.fold_eq State.cells _ (fun t x => by split <;> simp [State.turnPort, apply_ite])]
  rfl
@[simp] theorem State.sendCtl_rings (s : State) (m : Msg) (die ep ed ctl : Nat) (list : List Nat) (report : List (Nat × Nat)) (arg : Nat) : (s.sendCtl m die ep ed ctl list report arg).rings = s.rings := by
  unfold State.sendCtl
  dsimp only
  rw [State.fold_eq State.rings _ (fun t x => by split <;> simp [State.turnPort, apply_ite])]
  rfl
@[simp] theorem State.sendCtl_ctxs (s : State) (m : Msg) (die ep ed ctl : Nat) (list : List Nat) (report : List (Nat × Nat)) (arg : Nat) : (s.sendCtl m die ep ed ctl list report arg).ctxs = s.ctxs := by
  unfold State.sendCtl
  dsimp only
  rw [State.fold_eq State.ctxs _ (fun t x => by split <;> simp [State.turnPort, apply_ite])]
  rfl
@[simp] theorem State.sendCtl_cores (s : State) (m : Msg) (die ep ed ctl : Nat) (list : List Nat) (report : List (Nat × Nat)) (arg : Nat) : (s.sendCtl m die ep ed ctl list report arg).cores = s.cores := by
  unfold State.sendCtl
  dsimp only
  rw [State.fold_eq State.cores _ (fun t x => by split <;> simp [State.turnPort, apply_ite])]
  rfl
@[simp] theorem State.sendCtl_slices (s : State) (m : Msg) (die ep ed ctl : Nat) (list : List Nat) (report : List (Nat × Nat)) (arg : Nat) : (s.sendCtl m die ep ed ctl list report arg).slices = s.slices := by
  unfold State.sendCtl
  dsimp only
  rw [State.fold_eq State.slices _ (fun t x => by split <;> simp [State.turnPort, apply_ite])]
  rfl
@[simp] theorem State.sendCtl_links (s : State) (m : Msg) (die ep ed ctl : Nat) (list : List Nat) (report : List (Nat × Nat)) (arg : Nat) : (s.sendCtl m die ep ed ctl list report arg).links = s.links := by
  unfold State.sendCtl
  dsimp only
  rw [State.fold_eq State.links _ (fun t x => by split <;> simp [State.turnPort, apply_ite])]
  rfl
@[simp] theorem State.sendCtl_jobs (s : State) (m : Msg) (die ep ed ctl : Nat) (list : List Nat) (report : List (Nat × Nat)) (arg : Nat) : (s.sendCtl m die ep ed ctl list report arg).jobs = s.jobs := by
  unfold State.sendCtl
  dsimp only
  rw [State.fold_eq State.jobs _ (fun t x => by split <;> simp [State.turnPort, apply_ite])]
  rfl
@[simp] theorem State.sendCtl_regions (s : State) (m : Msg) (die ep ed ctl : Nat) (list : List Nat) (report : List (Nat × Nat)) (arg : Nat) : (s.sendCtl m die ep ed ctl list report arg).regions = s.regions := by
  unfold State.sendCtl
  dsimp only
  rw [State.fold_eq State.regions _ (fun t x => by split <;> simp [State.turnPort, apply_ite])]
  rfl
@[simp] theorem State.sendCtl_takes (s : State) (m : Msg) (die ep ed ctl : Nat) (list : List Nat) (report : List (Nat × Nat)) (arg : Nat) : (s.sendCtl m die ep ed ctl list report arg).takes = s.takes := by
  unfold State.sendCtl
  dsimp only
  rw [State.fold_eq State.takes _ (fun t x => by split <;> simp [State.turnPort, apply_ite])]
  rfl
@[simp] theorem State.sendCtl_images (s : State) (m : Msg) (die ep ed ctl : Nat) (list : List Nat) (report : List (Nat × Nat)) (arg : Nat) : (s.sendCtl m die ep ed ctl list report arg).images = s.images := by
  unfold State.sendCtl
  dsimp only
  rw [State.fold_eq State.images _ (fun t x => by split <;> simp [State.turnPort, apply_ite])]
  rfl
@[simp] theorem State.sendCtl_planeImages (s : State) (m : Msg) (die ep ed ctl : Nat) (list : List Nat) (report : List (Nat × Nat)) (arg : Nat) : (s.sendCtl m die ep ed ctl list report arg).planeImages = s.planeImages := by
  unfold State.sendCtl
  dsimp only
  rw [State.fold_eq State.planeImages _ (fun t x => by split <;> simp [State.turnPort, apply_ite])]
  rfl
@[simp] theorem State.sendCtl_patches (s : State) (m : Msg) (die ep ed ctl : Nat) (list : List Nat) (report : List (Nat × Nat)) (arg : Nat) : (s.sendCtl m die ep ed ctl list report arg).patches = s.patches := by
  unfold State.sendCtl
  dsimp only
  rw [State.fold_eq State.patches _ (fun t x => by split <;> simp [State.turnPort, apply_ite])]
  rfl
@[simp] theorem State.sendCtl_exits (s : State) (m : Msg) (die ep ed ctl : Nat) (list : List Nat) (report : List (Nat × Nat)) (arg : Nat) : (s.sendCtl m die ep ed ctl list report arg).exits = s.exits := by
  unfold State.sendCtl
  dsimp only
  rw [State.fold_eq State.exits _ (fun t x => by split <;> simp [State.turnPort, apply_ite])]
  rfl
@[simp] theorem State.sendCtl_msgs (s : State) (m : Msg) (die ep ed ctl : Nat) (list : List Nat) (report : List (Nat × Nat)) (arg : Nat) : (s.sendCtl m die ep ed ctl list report arg).msgs = s.msgs := by
  unfold State.sendCtl
  dsimp only
  rw [State.fold_eq State.msgs _ (fun t x => by split <;> simp [State.turnPort, apply_ite])]
  rfl

/-! ## State.acknowledge -/

@[simp] theorem State.acknowledge_agenda (s : State) (m : Msg) (ctl : Nat) (list : List Nat) : (s.acknowledge m ctl list).agenda = s.agenda := by
  unfold State.acknowledge State.settleOwed
  cases s.srcEntry m <;> simp
@[simp] theorem State.acknowledge_turn (s : State) (m : Msg) (ctl : Nat) (list : List Nat) : (s.acknowledge m ctl list).turn = s.turn := by
  unfold State.acknowledge State.settleOwed
  cases s.srcEntry m <;> simp
@[simp] theorem State.acknowledge_cur (s : State) (m : Msg) (ctl : Nat) (list : List Nat) : (s.acknowledge m ctl list).cur = s.cur := by
  unfold State.acknowledge State.settleOwed
  cases s.srcEntry m <;> simp
@[simp] theorem State.acknowledge_curCtx (s : State) (m : Msg) (ctl : Nat) (list : List Nat) : (s.acknowledge m ctl list).curCtx = s.curCtx := by
  unfold State.acknowledge State.settleOwed
  cases s.srcEntry m <;> simp
@[simp] theorem State.acknowledge_clk (s : State) (m : Msg) (ctl : Nat) (list : List Nat) : (s.acknowledge m ctl list).clk = s.clk := by
  unfold State.acknowledge State.settleOwed
  cases s.srcEntry m <;> simp
@[simp] theorem State.acknowledge_free (s : State) (m : Msg) (ctl : Nat) (list : List Nat) : (s.acknowledge m ctl list).free = s.free := by
  unfold State.acknowledge State.settleOwed
  cases s.srcEntry m <;> simp
@[simp] theorem State.acknowledge_mem (s : State) (m : Msg) (ctl : Nat) (list : List Nat) : (s.acknowledge m ctl list).mem = s.mem := by
  unfold State.acknowledge State.settleOwed
  cases s.srcEntry m <;> simp
@[simp] theorem State.acknowledge_poison (s : State) (m : Msg) (ctl : Nat) (list : List Nat) : (s.acknowledge m ctl list).poison = s.poison := by
  unfold State.acknowledge State.settleOwed
  cases s.srcEntry m <;> simp
@[simp] theorem State.acknowledge_bank (s : State) (m : Msg) (ctl : Nat) (list : List Nat) : (s.acknowledge m ctl list).bank = s.bank := by
  unfold State.acknowledge State.settleOwed
  cases s.srcEntry m <;> simp
@[simp] theorem State.acknowledge_sideband (s : State) (m : Msg) (ctl : Nat) (list : List Nat) : (s.acknowledge m ctl list).sideband = s.sideband := by
  unfold State.acknowledge State.settleOwed
  cases s.srcEntry m <;> simp
@[simp] theorem State.acknowledge_planes (s : State) (m : Msg) (ctl : Nat) (list : List Nat) : (s.acknowledge m ctl list).planes = s.planes := by
  unfold State.acknowledge State.settleOwed
  cases s.srcEntry m <;> simp
@[simp] theorem State.acknowledge_cells (s : State) (m : Msg) (ctl : Nat) (list : List Nat) : (s.acknowledge m ctl list).cells = s.cells := by
  unfold State.acknowledge State.settleOwed
  cases s.srcEntry m <;> simp
@[simp] theorem State.acknowledge_rings (s : State) (m : Msg) (ctl : Nat) (list : List Nat) : (s.acknowledge m ctl list).rings = s.rings := by
  unfold State.acknowledge State.settleOwed
  cases s.srcEntry m <;> simp
@[simp] theorem State.acknowledge_ctxs (s : State) (m : Msg) (ctl : Nat) (list : List Nat) : (s.acknowledge m ctl list).ctxs = s.ctxs := by
  unfold State.acknowledge State.settleOwed
  cases s.srcEntry m <;> simp
@[simp] theorem State.acknowledge_cores (s : State) (m : Msg) (ctl : Nat) (list : List Nat) : (s.acknowledge m ctl list).cores = s.cores := by
  unfold State.acknowledge State.settleOwed
  cases s.srcEntry m <;> simp
@[simp] theorem State.acknowledge_slices (s : State) (m : Msg) (ctl : Nat) (list : List Nat) : (s.acknowledge m ctl list).slices = s.slices := by
  unfold State.acknowledge State.settleOwed
  cases s.srcEntry m <;> simp
@[simp] theorem State.acknowledge_links (s : State) (m : Msg) (ctl : Nat) (list : List Nat) : (s.acknowledge m ctl list).links = s.links := by
  unfold State.acknowledge State.settleOwed
  cases s.srcEntry m <;> simp
@[simp] theorem State.acknowledge_jobs (s : State) (m : Msg) (ctl : Nat) (list : List Nat) : (s.acknowledge m ctl list).jobs = s.jobs := by
  unfold State.acknowledge State.settleOwed
  cases s.srcEntry m <;> simp
@[simp] theorem State.acknowledge_regions (s : State) (m : Msg) (ctl : Nat) (list : List Nat) : (s.acknowledge m ctl list).regions = s.regions := by
  unfold State.acknowledge State.settleOwed
  cases s.srcEntry m <;> simp
@[simp] theorem State.acknowledge_takes (s : State) (m : Msg) (ctl : Nat) (list : List Nat) : (s.acknowledge m ctl list).takes = s.takes := by
  unfold State.acknowledge State.settleOwed
  cases s.srcEntry m <;> simp
@[simp] theorem State.acknowledge_images (s : State) (m : Msg) (ctl : Nat) (list : List Nat) : (s.acknowledge m ctl list).images = s.images := by
  unfold State.acknowledge State.settleOwed
  cases s.srcEntry m <;> simp
@[simp] theorem State.acknowledge_planeImages (s : State) (m : Msg) (ctl : Nat) (list : List Nat) : (s.acknowledge m ctl list).planeImages = s.planeImages := by
  unfold State.acknowledge State.settleOwed
  cases s.srcEntry m <;> simp
@[simp] theorem State.acknowledge_patches (s : State) (m : Msg) (ctl : Nat) (list : List Nat) : (s.acknowledge m ctl list).patches = s.patches := by
  unfold State.acknowledge State.settleOwed
  cases s.srcEntry m <;> simp
@[simp] theorem State.acknowledge_exits (s : State) (m : Msg) (ctl : Nat) (list : List Nat) : (s.acknowledge m ctl list).exits = s.exits := by
  unfold State.acknowledge State.settleOwed
  cases s.srcEntry m <;> simp
@[simp] theorem State.acknowledge_msgs (s : State) (m : Msg) (ctl : Nat) (list : List Nat) : (s.acknowledge m ctl list).msgs = s.msgs := by
  unfold State.acknowledge State.settleOwed
  cases s.srcEntry m <;> simp

/-! ## State.performed -/

@[simp] theorem State.performed_agenda (s : State) (m : Msg) : (s.performed m).agenda = s.agenda := by
  simp [State.performed]
@[simp] theorem State.performed_turn (s : State) (m : Msg) : (s.performed m).turn = s.turn := by
  simp [State.performed]
@[simp] theorem State.performed_cur (s : State) (m : Msg) : (s.performed m).cur = s.cur := by
  simp [State.performed]
@[simp] theorem State.performed_curCtx (s : State) (m : Msg) : (s.performed m).curCtx = s.curCtx := by
  simp [State.performed]
@[simp] theorem State.performed_clk (s : State) (m : Msg) : (s.performed m).clk = s.clk := by
  simp [State.performed]
@[simp] theorem State.performed_free (s : State) (m : Msg) : (s.performed m).free = s.free := by
  simp [State.performed]
@[simp] theorem State.performed_mem (s : State) (m : Msg) : (s.performed m).mem = s.mem := by
  simp [State.performed]
@[simp] theorem State.performed_poison (s : State) (m : Msg) : (s.performed m).poison = s.poison := by
  simp [State.performed]
@[simp] theorem State.performed_bank (s : State) (m : Msg) : (s.performed m).bank = s.bank := by
  simp [State.performed]
@[simp] theorem State.performed_sideband (s : State) (m : Msg) : (s.performed m).sideband = s.sideband := by
  simp [State.performed]
@[simp] theorem State.performed_planes (s : State) (m : Msg) : (s.performed m).planes = s.planes := by
  simp [State.performed]
@[simp] theorem State.performed_cells (s : State) (m : Msg) : (s.performed m).cells = s.cells := by
  simp [State.performed]
@[simp] theorem State.performed_rings (s : State) (m : Msg) : (s.performed m).rings = s.rings := by
  simp [State.performed]
@[simp] theorem State.performed_ctxs (s : State) (m : Msg) : (s.performed m).ctxs = s.ctxs := by
  simp [State.performed]
@[simp] theorem State.performed_cores (s : State) (m : Msg) : (s.performed m).cores = s.cores := by
  simp [State.performed]
@[simp] theorem State.performed_slices (s : State) (m : Msg) : (s.performed m).slices = s.slices := by
  simp [State.performed]
@[simp] theorem State.performed_links (s : State) (m : Msg) : (s.performed m).links = s.links := by
  simp [State.performed]
@[simp] theorem State.performed_jobs (s : State) (m : Msg) : (s.performed m).jobs = s.jobs := by
  simp [State.performed]
@[simp] theorem State.performed_regions (s : State) (m : Msg) : (s.performed m).regions = s.regions := by
  simp [State.performed]
@[simp] theorem State.performed_takes (s : State) (m : Msg) : (s.performed m).takes = s.takes := by
  simp [State.performed]
@[simp] theorem State.performed_images (s : State) (m : Msg) : (s.performed m).images = s.images := by
  simp [State.performed]
@[simp] theorem State.performed_planeImages (s : State) (m : Msg) : (s.performed m).planeImages = s.planeImages := by
  simp [State.performed]
@[simp] theorem State.performed_patches (s : State) (m : Msg) : (s.performed m).patches = s.patches := by
  simp [State.performed]
@[simp] theorem State.performed_exits (s : State) (m : Msg) : (s.performed m).exits = s.exits := by
  simp [State.performed]

/-! ## State.accessDone -/

@[simp] theorem State.accessDone_agenda (s : State) (pid : Nat) (o : MemOp) : (s.accessDone pid o).agenda = s.agenda := by
  unfold State.accessDone; split <;> simp
@[simp] theorem State.accessDone_turn (s : State) (pid : Nat) (o : MemOp) : (s.accessDone pid o).turn = s.turn := by
  unfold State.accessDone; split <;> simp
@[simp] theorem State.accessDone_cur (s : State) (pid : Nat) (o : MemOp) : (s.accessDone pid o).cur = s.cur := by
  unfold State.accessDone; split <;> simp
@[simp] theorem State.accessDone_curCtx (s : State) (pid : Nat) (o : MemOp) : (s.accessDone pid o).curCtx = s.curCtx := by
  unfold State.accessDone; split <;> simp
@[simp] theorem State.accessDone_clk (s : State) (pid : Nat) (o : MemOp) : (s.accessDone pid o).clk = s.clk := by
  unfold State.accessDone; split <;> simp
@[simp] theorem State.accessDone_free (s : State) (pid : Nat) (o : MemOp) : (s.accessDone pid o).free = s.free := by
  unfold State.accessDone; split <;> simp
@[simp] theorem State.accessDone_mem (s : State) (pid : Nat) (o : MemOp) : (s.accessDone pid o).mem = s.mem := by
  unfold State.accessDone; split <;> simp
@[simp] theorem State.accessDone_poison (s : State) (pid : Nat) (o : MemOp) : (s.accessDone pid o).poison = s.poison := by
  unfold State.accessDone; split <;> simp
@[simp] theorem State.accessDone_bank (s : State) (pid : Nat) (o : MemOp) : (s.accessDone pid o).bank = s.bank := by
  unfold State.accessDone; split <;> simp
@[simp] theorem State.accessDone_sideband (s : State) (pid : Nat) (o : MemOp) : (s.accessDone pid o).sideband = s.sideband := by
  unfold State.accessDone; split <;> simp
@[simp] theorem State.accessDone_planes (s : State) (pid : Nat) (o : MemOp) : (s.accessDone pid o).planes = s.planes := by
  unfold State.accessDone; split <;> simp
@[simp] theorem State.accessDone_cells (s : State) (pid : Nat) (o : MemOp) : (s.accessDone pid o).cells = s.cells := by
  unfold State.accessDone; split <;> simp
@[simp] theorem State.accessDone_rings (s : State) (pid : Nat) (o : MemOp) : (s.accessDone pid o).rings = s.rings := by
  unfold State.accessDone; split <;> simp
@[simp] theorem State.accessDone_ctxs (s : State) (pid : Nat) (o : MemOp) : (s.accessDone pid o).ctxs = s.ctxs := by
  unfold State.accessDone; split <;> simp
@[simp] theorem State.accessDone_cores (s : State) (pid : Nat) (o : MemOp) : (s.accessDone pid o).cores = s.cores := by
  unfold State.accessDone; split <;> simp
@[simp] theorem State.accessDone_slices (s : State) (pid : Nat) (o : MemOp) : (s.accessDone pid o).slices = s.slices := by
  unfold State.accessDone; split <;> simp
@[simp] theorem State.accessDone_links (s : State) (pid : Nat) (o : MemOp) : (s.accessDone pid o).links = s.links := by
  unfold State.accessDone; split <;> simp
@[simp] theorem State.accessDone_jobs (s : State) (pid : Nat) (o : MemOp) : (s.accessDone pid o).jobs = s.jobs := by
  unfold State.accessDone; split <;> simp
@[simp] theorem State.accessDone_regions (s : State) (pid : Nat) (o : MemOp) : (s.accessDone pid o).regions = s.regions := by
  unfold State.accessDone; split <;> simp
@[simp] theorem State.accessDone_takes (s : State) (pid : Nat) (o : MemOp) : (s.accessDone pid o).takes = s.takes := by
  unfold State.accessDone; split <;> simp
@[simp] theorem State.accessDone_images (s : State) (pid : Nat) (o : MemOp) : (s.accessDone pid o).images = s.images := by
  unfold State.accessDone; split <;> simp
@[simp] theorem State.accessDone_planeImages (s : State) (pid : Nat) (o : MemOp) : (s.accessDone pid o).planeImages = s.planeImages := by
  unfold State.accessDone; split <;> simp
@[simp] theorem State.accessDone_patches (s : State) (pid : Nat) (o : MemOp) : (s.accessDone pid o).patches = s.patches := by
  unfold State.accessDone; split <;> simp
@[simp] theorem State.accessDone_exits (s : State) (pid : Nat) (o : MemOp) : (s.accessDone pid o).exits = s.exits := by
  unfold State.accessDone; split <;> simp

/-! ## What they can do -/

/-- A charge adds to the job's bucket at a slice of the package, and to nothing else of it. -/
theorem State.charge_memb (s : State) {home job n : Nat} (h : job ≠ 0) (hp : home < 512) :
    look 0 ((s.charge home job n).slice home).memb job = look 0 (s.slice home).memb job + n := by
  simp [State.charge, h, Nat.not_le.mpr hp]

/-- A memory operation whose home is on its own die sends nothing. -/
theorem State.sendAccess_near (s : State) {pid : Nat} {o : MemOp} (h : o.leavesDie pid = false) : s.sendAccess pid o = s := by
  simp [State.sendAccess, h]

/-- Any other becomes one message. -/
theorem State.sendAccess_far (s : State) {pid : Nat} {o : MemOp} (h : o.leavesDie pid = true) :
    s.sendAccess pid o = s.launch (s.accessMsg pid o) := by
  simp [State.sendAccess, h]

/-- A message that is issued is the last one, with the next identifier of its destination, in the package's name. -/
theorem State.launch_msgs (s : State) (m : Msg) :
    ∃ x : Msg, (s.launch m).msgs = s.msgs ++ [x] ∧ x.mid = s.serial ∧ x.msgid = s.nextMsgid m.die m.dstEp m.dstDie ∧
      x.srcEp = s.pkg.endpoint ∧ x.data = m.data := ⟨_, rfl, rfl, rfl, rfl, rfl⟩

/-- A fragment put at a port is the last one on the wire, its CHECK that of its bytes. -/
theorem State.putFrag_wire (s : State) (f : Frag) :
    (s.putFrag f).wire = s.wire ++ [{ f with since := s.clk, check := f.crc }] := by
  simp [State.putFrag]

end Sys2Proof.Machine
end

