-- ==== Sys2Proof/Tests/Helpers.lean ====
section
/-!
SUPPORT. Lemmas for the hypotheses that range over every address, die or number.
-/
namespace Sys2Proof.Tests
open Sys2Proof Sys2Proof.Machine

/-- An entry covers every address of a range inside its page. -/
theorem cov {e : Tlb} {asid lo hi : Nat} (h : e.job = asid) (h1 : lo / 2 ^ pageBits e.level = e.vpage)
    (h2 : (hi - 1) / 2 ^ pageBits e.level = e.vpage) (x : Nat) (ha : lo ≤ x) (hb : x < hi) : e.covers asid x = true := by
  have p1 := Nat.div_le_div_right (c := 2 ^ pageBits e.level) ha
  have p2 := Nat.div_le_div_right (c := 2 ^ pageBits e.level) (show x ≤ hi - 1 by omega)
  have : x / 2 ^ pageBits e.level = e.vpage := by omega
  simp [Tlb.covers, h, this]

/-- What holds of every entry of a list, checked entry by entry. -/
theorem forAll {α : Type} {p : α → Prop} [DecidablePred p] {l : List α}
    (h : l.all (fun a => decide (p a)) = true) : ∀ a, a ∈ l → p a :=
  fun a ha => of_decide_eq_true (List.all_eq_true.1 h a ha)

/-- What holds of each number below 32 from 2 on, checked one by one. -/
theorem all30 (f : Nat → Nat) (h : (List.range 32).all (fun i => decide (i < 2) || f i == 0) = true) : ∀ i, 2 ≤ i → i < 32 → f i = 0 := by
  intro i h1 h2
  have := List.all_eq_true.1 h i (List.mem_range.2 h2)
  simpa [show ¬ i < 2 by omega] using this

/-- With no die listed none is fenced. -/
theorem allDies (s : State) (h : s.dies = []) : ∀ d, (s.die d).fenced = false := by
  intro d
  simp [State.die, h, look, find]

/-- What no listed link does no link does. -/
theorem allLinks (s : State) (h : ∀ e ∈ s.links, e.2.loading = none) : ∀ l, (s.link l).loading = none := by
  intro l
  have go : ∀ t : Tab Link, (∀ e ∈ t, e.2.loading = none) → (look {} t l).loading = none := by
    intro t
    induction t with
    | nil => intro _; rfl
    | cons e t ih =>
      intro h
      simp only [look, find]
      split
      · exact h _ (by simp)
      · exact ih fun x hx => h x (by simp [hx])
  exact go _ h


end Sys2Proof.Tests
end

