-- ==== Sys2Proof/Tests/States.lean ====
section
/-!
SUPPORT. Small states and operands for the tests and the witnesses.
-/
namespace Sys2Proof.Tests
open Sys2Proof Sys2Proof.Machine

/-- A firing of the take 7 with the number 3 and the colour 2, at word 4. -/
def fir : Firing := { tid := 7, fid := 3, colour := 2, pc := 4, started := true }
/-- A plane with some registers that runs it: S4 = 5, S5 = 2^64 - 3, S6 = 2^63, S31 = 9. -/
def pl0 : Plane :=
  { running := true, firing := fir, progSize := 16, job := 1, owner := 2048
    regs := { s := [(4, 5), (5, 0xFFFFFFFFFFFFFFFD), (6, 0x8000000000000000), (31, 9)], p := [(2, 1)],
              v := [(1, 0x40FF80017F3C00020003FF), (2, 0x0301FFFE81027E0105000103)], m := [(1, 0xF1)] } }
/-- The state of a package whose plane 0 is `p`. -/
def st (p : Plane) : State := { State.reset with planes := [(0, p)] }
/-- Plane 0 runs a scalar firing. -/
def scal : State := st pl0

def opA : OpA := { g := 0, gn := 0, d := 6, a := 4, b := 5, w := 0 }
def opI : OpI := { g := 0, gn := 0, d := 6, a := 5, w := 1, imm := 0x1F }
def opF : OpI := { g := 0, gn := 0, d := 6, a := 5, w := 0, imm := 0x0304 }
def opC : OpC := { g := 0, gn := 0, pd := 2, a := 4, b := 5, imm := 100 }
def opB : OpB := { g := 0, gn := 0, off := 4 }
def opV : OpV := { g := 0, gn := 0, vd := 3, va := 1, vb := 2, vc := 1, m := 1, t := 7, rm := 0, sat := 0, imm := 0 }


/-! ## Rings -/

/-- A ring of 8 slots at granule 16 of cell 0, with the slots 0 to 3, of which the last is unfilled. -/
def rg : Ring :=
  { die := 0, cell := 0, base := 16, lg := 3, pid := 0, job := 1, tail := 4
    slots := [(0, { filled := true }), (1, { filled := true }), (2, { filled := true }), (3, {})] }
/-- H3 names it, branch 0. -/
def hd : Handle := { cell := 0, base := 16, lg := 3, branch := 0, dtag := 5 }
def plR : Plane := { pl0 with h := [(3, hd)], bankSize := 4096 }
/-- The ring's slots carry the colour of the firing; slot 2 ends a row. -/
def rings (r : Ring) (p : Plane) : State :=
  { st p with
    rings := [(16, r)], jobs := [(1, { id := 1, asid := 1, link := 0, diemask := 1 })]
    bank := [(16, 0x1111), (17, 0x2222), (18, 0x3333)]
    sideband := [(16, mkSide 0 5 0 2), (17, mkSide 0 5 0 2), (18, mkSide 1 5 0 2), (19, mkSide 0 5 0 2)] }
def ringS : State := rings rg plR
/-- The ring as empty, and with three slots that the firing has claimed. -/
def rgE : Ring := { rg with tail := 4, reclaim := 4, slots := [] }
def emptyS : State := rings rgE plR
def rgC : Ring := { rg with tail := 3, reclaim := 0, slots := [(0, { tid := 7, fid := 3 }), (1, { tid := 7, fid := 3 }), (2, { tid := 7, fid := 3 })] }
def claimS : State := rings rgC { plR with firing := { fir with claims := [(3, [0, 1, 2])] } }
def opH : OpH := { g := 0, gn := 0, v := 5, h := 3, nw := 2, st := 0, am := 0, ml := 0, go := 1 }
def opK : OpK := { g := 0, gn := 0, d := 6, a := 4, kreg := 3, imm := 0 }


/-! ## The matrix engine -/

/-- A ring of 64 slots at granule 64, of which 32 are filled, bound to H4; and an empty one at granule 128, bound to H6. -/
def rgM : Ring :=
  { die := 0, cell := 0, base := 64, lg := 6, pid := 0, job := 1, tail := 32
    slots := (List.range 32).map fun n => (n, { filled := true }) }
def rgO : Ring := { die := 0, cell := 0, base := 128, lg := 6, pid := 0, job := 1 }
def hM : Handle := { cell := 0, base := 64, lg := 6, branch := 0, dtag := 1 }
def hO : Handle := { cell := 0, base := 128, lg := 6, branch := 0, dtag := 0 }
/-- The user context is configured; S4 and S5 describe 32 rows of 64 bytes from bank address 16,384. -/
def plM : Plane :=
  { pl0 with
    h := [(4, hM), (6, hO)], bankBase := 0, bankSize := 32768
    regs := { pl0.regs with s := [(4, 0x404000), (5, 0), (6, 0x4040)] }
    user := { cfg := { set := true, kblock := 128, out := hO, otag := 0 } } }
def mat (p : Plane) : State := { st p with rings := [(64, rgM), (128, rgO)], jobs := [(1, { id := 1, asid := 1, link := 0, diemask := 1 })] }
def matS : State := mat plM
def opM : OpM := { g := 0, gn := 0, sa := 4, sb := 4, ah := 0, ha := 4, bh := 0, hb := 6, ta := 1, tb := 1, kb := 0 }
def opN : OpN := { g := 0, gn := 0, d := 6, a := 4, sz := 3, sc := 0, ord := 0, off := 0 }
/-- A queued operation of the firing. -/
def mo (k : MatKind) : MatOp := { id := 9, kind := k, hand := false, tid := 7, fid := 3, colour := 2, pc := 4 }
def matOp (m : MatOp) : State := mat { plM with mq := [m] }


/-! ## Memory -/

/-- Page 0 of the job's space is page 0 of die 0, readable and writable. -/
def pg : Tlb := { job := 1, level := 3, vpage := 0, pte := 7 }
def jb : Job := { id := 1, asid := 1, link := 0, diemask := 1, quota := 1, contract := [{ planes := 1, slots := 1, memb := 6400 }] }
/-- S4 = 64, S5 = 3, S7 = 1; the bytes at 64 to 66 are 1, 2 and 3. -/
def plG : Plane := { pl0 with bankSize := 4096, regs := { pl0.regs with s := [(4, 64), (5, 3), (6, 100), (7, 1)] } }
def gm (p : Plane) : State :=
  { st p with jobs := [(1, jb)], slices := [(0, { tlb := [pg] })], mem := [(64, 1), (65, 2), (66, 3)], serial := 20 }
def gmS : State := gm plG
def opX : OpX := { g := 0, gn := 0, d := 6, a := 4, b := 5, c := 7, sc := 1, ord := 0, sz := 3 }
/-- An outstanding operation on the line at 64. -/
def op (k : MemKind) : MemOp := { id := 9, kind := k, key := 64, size := 8, dst := .sreg 6, b := 3, c := 0x30201, va := 64, job := 1, tid := 7, fid := 3, home := 1 }
def opS (o : MemOp) : State := gm { plG with memq := [o] }
/-- A dirty line of the stash at 64. -/
def sl : StashLine := { vline := 1, job := 1, key := 64, data := 0xAABB, dirty := 1 }
def stashS : State := gm { plG with stash := [sl], stashBase := 2048, stashSize := 512 }


/-! ## Windows, walks, queues, counters -/

/-- The job owns window 5, counters 3 and 4 and stream context 2; its table maps its low addresses to die 0. -/
def jbW : Job := { jb with root := 65536, decl := { windows := [5], dctrs := [3], tctrs := [4], streams := [2] } }
/-- The record at 64: base 0, one line, 64 bytes in all, action 0. -/
def winS : State :=
  { gmS with jobs := [(1, jbW)], mem := [(72, 1), (80, 64), (65536, 7)]
             slices := [(0, { tlb := [pg], wins := [(5, { state := .triggered, job := 1, count := 7 })] })] }
def opW : OpK := { g := 0, gn := 0, d := 6, a := 4, kreg := 5, imm := 0 }
/-- Window 5 armed with a total of 64, and 60 bytes that arrive at it. -/
def wn (rearm : Bool) : Win := { state := .armed, len := 1, total := 64, rearm, action := 3, arg0 := 4, arg1 := 2, count := 8, job := 1, recAddr := 64 }
def countS (x : Win) (n : Nat) : State :=
  { winS with slices := [(0, { wins := [(5, x)] })], dies := [(0, { counts := [(5, n)], deps := [(3, 2)], timelines := [(4, 9)] })] }
def actS (a : WinAct) : State := { winS with dies := [(0, { actions := [a], deps := [(3, 2)], timelines := [(4, 9)] })] }
def wa (action : Nat) (arg0 : Word) : WinAct := { win := 5, action, arg0, arg1 := 2, job := 1, recAddr := 64 }
/-- A miss of the job's page 0, of the running firing. -/
def ms (w : Waiter) : Miss := { job := 1, page := 0, who := [w], walking := true }
def wt : Waiter := { who := .firing 0 3, slice := 0, access := 0, va := 64 }
def take7 : Take := { tid := 7, job := 1, region := 2048, colour := 2, ctx := 5, source := .slate, slate := {}, born := 0 }
def missS (m : Miss) (root : Nat) : State :=
  { gmS with jobs := [(1, { jbW with root })], mem := [(65536, 7)], slices := [], dies := [(0, { misses := [m] })], takes := [(7, take7)] }
/-- A queue of 4 slots at 64, with one slate in it. -/
def que : QueueReg := { job := 1, va := 64, key := 64, home := 1 }
def queS (tail : Byte) : State := { gmS with dies := [(0, { queues := [que] })], mem := [(72, tail), (80, 2)] }
def opQ : OpX := { opX with b := 0 }
/-- Counter 3 is at 5, timeline counter 4 at 9. -/
def ctrS : State :=
  { gm { plG with regs := { plG.regs with s := [(4, 3), (5, 3), (6, 100), (7, 10)] } } with
    jobs := [(1, jbW)], dies := [(0, { deps := [(3, 5)], timelines := [(4, 9)], held := [{ job := 1, slate := { dv := true, dctr := 3 }, released := false, age := 0 }] })],
    slices := [(0, { streams := [(2, { job := 1, timeline := 9 })] })] }
def opT : OpK := { g := 0, gn := 0, d := 6, a := 4, kreg := 4, imm := 0 }
/-- A barrier instance of 2 firings. -/
def br2 : Barrier := { region := 2048, colour := 2, n := 2, arrived := [(4, 1)] }
def barS (b : Barrier) : State := { gmS with dies := [(0, { barriers := [b] })] }



/-! ## Takes, regions, traps -/

/-- A region of one core whose script is the head of the nonterminal 0, with a handler; loaded at core 0 of die 0. -/
def img : PlaneImage :=
  { rid := 0, die := 0, plane := 0, cells := [{ dx := 0, dy := 0, stage := 3, prog := [] }], script := [0x48000000], handler := some 0 }
def rgn : Region := { key := 2048, job := 1, die := 0, rid := 0, image := img, place := .eligible, nts := [(0, 0)] }
def jbR : Job := { jbW with decl := { jbW.decl with regions := [img] } }
/-- One slate in the queue, of zeros. -/
def deqS : State := { State.reset with jobs := [(1, jbR)], mem := [(72, 1), (80, 2), (65536, 7)], dies := [(0, { queues := [que] })], clk := 50 }
def sltX : Phys := physOf 7 3 128
def hld : Held := { job := 1, slate := {}, released := true, age := 5 }
def heldS (h : Held) : State :=
  { State.reset with jobs := [(1, { jbR with contract := [] })], regions := [(2048, rgn)], dies := [(0, { held := [h] })], serial := 20 }
/-- A match token for port 0 of 2, and one for port 1. -/
def tokM (port nports : Nat) : Slate := { kind := 1, port, nports, args := [9] }
def hldM (nports : Nat) : Held := { hld with slate := tokM 0 nports, pusherTid := 7 }
def mtk (nports : Nat) : MatchTok := { job := 1, slate := tokM 1 nports, pusher := 7, age := 2 }
def joinS (n : Nat) : State := { heldS (hldM n) with cores := [(0, { store := [mtk n] })] }
def spillS : State := { State.reset with cores := [(0, { spill := [mtk 2] })] }
/-- The region before it is placed, while it is loaded, while it is saved, and while it is restored. -/
def regS (r : Region) : State := { heldS hld with regions := [(2048, r)], planes := [(0, plG)] }
def rgQ : Region := { rgn with place := .requested }
def savX : SavedCell := { dx := 0, dy := 0, plane := plG, rings := [], bank := [], sides := [] }
/-- The region, and another that asks for a place in plane 1. -/
def rg2 : Region := { rgn with key := 2049, rid := 1, image := { img with rid := 1, plane := 1 }, place := .requested }
def abnS : State := { regS { rgn with place := .saving } with regions := [(2048, { rgn with place := .saving }), (2049, rg2)] }
def reqX : RegionReq := { region := rg2, prio := 0, age := 0 }
/-- A token of the take 7 for plane 0, and the take with its context. -/
def tk7 : Token := { tid := 7, colour := 2, stage := 3, entry := 6, arg := 77, coord := { row := 4 }, clayer := 1 }
def take (t : Take) (x : State) : State :=
  { x with takes := [(7, t)], regions := [(2048, rgn)], ctxs := [(5, { state := .drain, tid := 7, region := 2048 })] }
def tokS (t : Take) : State := { take t (gm plG) with cores := [(0, { tokQ := [(0, tk7)] })] }
def startS : State := take take7 (gm { plG with running := false, tokens := [tk7] })
def killS : State := { gm { plG with tokens := [tk7] } with cores := [(0, { killQ := [(0, 7, {})] })] }
/-- A trap of the take, and the take as parked for it. -/
def trp : TrapRec := { cause := 13, pc := 5, info := 0, colour := 2, pid := 0, unit := 0, time := 0 }
def prk : Parked := { pid := 0, firing := fir, regs := plG.regs }
def takeT : Take := { take7 with traps := [trp], parked := [prk], isParked := true }
def hndS : State :=
  { State.reset with jobs := [(1, jbR)], takes := [(7, takeT)], regions := [(2048, rgn)], cores := [(0, { trapQ := [7] })], serial := 20 }
def resS : State := { gm { plG with running := false } with takes := [(7, { takeT with isParked := false })] }
/-- The take with its region; and a handler take for its trap that runs on plane 0. -/
def takeS : State := take take7 (gm plG)
def noHandler : State := { takeS with regions := [(2048, { rgn with image := { img with handler := none } })] }
def take8 : Take := { take7 with tid := 8, colour := 15, ctx := 15, source := .handler, serves := 7, record := some trp }
def hndlS (h : Take) : State :=
  { gm { plG with firing := { fir with tid := 8, fid := 4, colour := 15 } } with takes := [(7, takeT), (8, h)], regions := [(2048, rgn)] }
def opY : OpK := { g := 0, gn := 0, d := 6, a := 4, kreg := 0, imm := 0 }
def endS (t : Take) : State := { take t (gm plG) with planes := [] }



/-! ## Parse contexts -/

/-- The region's script store holds `ws` from its first word; the head ring is the ring at H0 of the region's plane. -/
def plX : Plane := { plR with owner := 2048, job := 1, h := [(0, hd), (3, hd)] }
def rgnX : Region := { rgn with nts := [(1, 9)] }
def scr (ws : List (BitVec 32)) (r : Ring) (x : Ctx) : State :=
  { rings r plX with
    curCtx := 5, regions := [(2048, rgnX)], takes := [(7, take7)], serial := 20
    ctxs := [(5, { x with tid := 7, region := 2048 })]
    cores := [(0, { script := (List.range ws.length).zip ws })] }
/-- A slot whose mark ends a row stands first, then one of data. -/
def rgH : Ring := { rg with reclaim := 2, slots := [(2, { filled := true }), (3, { filled := true })] }
def atC : Ctx := { state := .decide, head := .atChoose }
def atL : Ctx := { state := .decide, head := .atLook 0, pc := 1 }

/-- A context in a call of context 4, a region with a launch entry, and a job that owns the window 5. -/
def take7c : Take := { take7 with source := .call 4 70 }
def calS : State := { scr [] rg {} with takes := [(7, take7c)], ctxs := [(4, { tid := 70, state := .call }), (5, { tid := 7, region := 2048 })] }
def lch : Launch := { region := 0, entry := 1, prio := 3 }
def rgnL : Region := { rgnX with image := { img with launch := [(2, lch)] } }
def lchS : State := { scr [] rg {} with regions := [(2048, rgnL)] }
def wtw (w : WinState) : State := { scr [] rg {} with jobs := [(1, jbW)], slices := [(0, { wins := [(5, { state := w })] })] }

/-- A context in recovery whose nonterminal 1 has the clause `w`. -/
def recS (w : BitVec 32) (r : Ring) (x : Ctx) : State :=
  { scr [] r { x with curnt := 1, stack := [4, 5], depth0 := 1 } with cores := [(0, { script := [(10, w)] })] }



/-! ## Frontiers -/

/-- A descriptor at 64: one dimension of 3 points, one vector, the template at 256, which is zero. -/
def frMem : List (Nat × Byte) := [(64, 1), (65, 1), (68, 3), (72, 1), (76, 1), (80, 1), (97, 1), (65536, 7)]
def pg2 : Tlb := { pg with level := 2 }
def frS (core : Nat) (f : Frontier) : State :=
  { gmS with mem := frMem, jobs := [(1, jbR)], cores := [(core, { fr := f })], slices := [(0, { tlb := [pg2] })] }
/-- A running frontier of the job on core 1, whose point (64, 0, 0) is in flight; and one of 3 points whose first is done. -/
def fr1 : Frontier := { state := .run, job := 1, flight := [(64, 0, 0)], rows := [(0, { pfx := 1 })] }
def frDesc : BitVec 512 := BitVec.ofNat 512 (1 + 2 ^ 8 + 3 * 2 ^ 32 + 2 ^ 64 + 2 ^ 96 + 2 ^ 128)
def fr3 : Frontier := { state := .run, job := 1, desc := frDesc, rows := [(0, { pfx := 1 })] }



/-! ## Streams -/

/-- Bytes from an address on. -/
def bytesAt (a : Nat) (bs : List Byte) : List (Nat × Byte) := (List.range bs.length).zipWith (fun i b => (a + i, b)) bs
/-- A header at 64 and three words: SFMT BF16, BF16; SDEST on the ring at granule 16; SEOT with HOLD. -/
def strMem (ws : List Word) : List (Nat × Byte) :=
  bytesAt 64 (leBytes 64 ws.length) ++ bytesAt 128 (ws.flatMap fun w => leBytes 8 w.toNat)
def strWords : List Word := [0x0524400000000000, 0x0700000030400000, 0x0CC0000000000000]
def strP : Prog := { base := some 64, fmt := some (1, 1, 0, false), ring := some (0, false, 3, 16, 0), hold := true }
def strW : Walk := { active := true, base := 64, dims := [{ ext := 32, stride := 2 }, {}, {}, {}], total := 1, stag := 1 }
def strX : Stream := { job := 1, state := .held, prog := strP, walk := strW, nextNum := 5, colour := 2 }
/-- Context 2 of slice 0 is `x`; plane 0 runs a firing that may use it. -/
def strS (x : Stream) (m : List (Nat × Byte)) (r : Ring) : State :=
  { rings r { plR with regs := plG.regs } with
    jobs := [(1, jb)], mem := m, serial := 20, slices := [(0, { tlb := [pg], streams := [(2, x)], servedAt := 1, turns := [2] })] }
def sop (kind : Nat) : StrOp := { num := 4, kind, word := 64, tid := 7, fid := 3, colour := 2 }
def opZ : OpK := { g := 0, gn := 0, d := 6, a := 4, kreg := 2, imm := 0 }



/-! ## Messages and bridges -/

/-- A PUT of the take 7 from die 0 to die 1, and the state that holds it. -/
def msg : Msg :=
  { mid := 9, die := 0, dstEp := 0, dstDie := 1, job := 1, tid := 7, pid := 0, cls := 0, kind := 0, ord := false
    data := [1, 2, 3], len := 3, raddr := 64, laddr := 64, lv := true, lctr := 4, ract := 1, rctr := 5, msgid := 12, mcode := 0
    paths := [1], todo := [0] }
def msgS (m : Msg) (w : List Frag) : State :=
  { takeS with msgs := [m], wire := w, slices := [(64, { tlb := [pg] })], clk := 200000 }
/-- Its fragment, and a control fragment that answers it. -/
def frgC (n : Nat) : Frag :=
  let f : Frag :=
    { die := 1, ports := [.die 1 0], since := 200000, mid := 9, msgid := 0, srcEp := 0, dstEp := 0, dstDie := 0, cls := 0
      ftype := 2, job := 1, ctl := n, list := [0] }
  { f with check := f.crc }
def frgD (k : Nat) : Frag :=
  let f : Frag := { frgC 0 with die := 0, ports := [.die 0 1], msgid := 12, dstDie := 1, ftype := 0, k }
  { f with check := f.crc }
def rxs (n : Nat) : RxSlot := { port := 0, mid := 9, msgid := 12, srcDie := 0, k := 1, opened := 0, timeouts := n }
/-- The record at 64 is an XGET or XPUT descriptor of class 0. -/
def dscS (m : List (Nat × Byte)) (c : MsgClass) : State :=
  { gmS with mem := m, dies := [(0, { classes := [(0, c)], lateDropped := 6, bufDropped := 8 })], slices := [(0, { tlb := [pg] })] }
/-- A bridge from the ring at granule 16 to the one at 24 of the region's first cell. -/
def brg : Bridge := { job := 1, record := BitVec.ofNat 512 (2 ^ 22 + 3 * 2 ^ 85 + 2 ^ 144 + 2 ^ 163), grant := 8 }
def rgD : Ring := { rg with base := 24, tail := 1, slots := [(0, {})] }
def brgS (b : Bridge) : State :=
  { rings rg plX with rings := [(16, rg), (24, rgD)], regions := [(2048, rgn)], dies := [(0, { bridges := [(2, b)] })], serial := 20 }
def msgB : Msg := { msg with kind := 2, dstDie := 0, bridge := 2, decoded := true, data := List.replicate 192 1 }



/-! ## Commands -/

/-- A command with an opcode, a job and a number in its bytes from 16 on; and a link whose queue is set up. -/
def cmd (op job n : Nat) : Cmd := { link := 0, record := BitVec.ofNat 1024 (op + job * 2 ^ 64 + n * 2 ^ 128) }
def lnk : Link := { cq := some { base := 4096, log2n := 6, msi := true } }
def lkS (j : Job) : State := { State.reset with links := [(0, lnk)], jobs := [(1, j)], mem := [(65536, 7)] }
def pch : Patch := { version := 5, length := 4096, good := true, digest := 9 }

/-- A job descriptor in host memory at 8,192, its contract at 12,288, and its image list; the job has the id 2. -/
def decl : Declared := { regions := [img], entries := 1, dctrs := [3], start := [(0, 0, 0)] }
def jdMem : List (Nat × Byte) :=
  [(8192, 2), (8196, 1), (8202, 1), (8217, 48), (8225, 16), (8232, 1), (12288, 1), (12289, 1)].map (fun (e : Nat × Byte) => (hostKey e.1, e.2))
    ++ (List.range 8).map fun c => (hostKey (12322 + 12 * c), 2)
def admS (x : Declared) : State := { lkS jbR with jobs := [], mem := jdMem, images := [(4096, x)] }
def jbA : Job := (admS decl).jobOf ((admS decl).hostRecord 8192) decl 0

end Sys2Proof.Tests
end

