-- ==== Sys2Proof/Tests/Accesses.lean ====
section
/-!
SUPPORT. For each hypothesis list of the load, store and pinning statements, a concrete state and operands that meet all of it together:
one conjunct for each clause of a statement.
-/
namespace Sys2Proof.Tests.Accesses
open Sys2Proof Sys2Proof.Machine Sys2Proof.Tests
set_option maxRecDepth 20000
set_option Elab.async false

def x1 := {opN with off := 1}
def x2 := {opN with off := 0xFFFFC0}
def x5 := {opX with a := 5}
def gmM : Machine.State := gm {plG with stashSize := 512, stashBase := 2048}
def sl0 : StashLine := {vline := 1, job := 1, key := 64, data := 0x30201}
def opC0 : OpN := {opN with sc := 0}
def x9 := (opS {op .load with dst := .vreg 2 64})
def x10 := {op .load with dst := .vreg 2 64}
def x11 := (opS {op .store with data := [9,8,7,6,5,4,3,2], dst := .none})
def x12 := {op .store with data := [9,8,7,6,5,4,3,2], dst := .none}
def opF (k : MemKind) : MemOp := {op k with home := 65}
def mgF : Msg := {msg with kind := 4, cls := 7, dstDie := 1, data := List.replicate 8 0, len := 8, decoded := true, access := 9}
def opFS (o : MemOp) : Machine.State := {opS o with msgs := [mgF]}
def x15 := (opFS {opF .store with data := [9,8,7,6,5,4,3,2], dst := .none})
def x16 := {opF .store with data := [9,8,7,6,5,4,3,2], dst := .none}
def x17 := (opFS (opF (.atomic 10)))
def topOp : MemOp := {op (.atomic 12) with size := 64, b := 0x53C00}
def topS : Machine.State := {opS topOp with mem := [(64, 1), (65, 2), (96, 0x80), (97, 0x3F), (98, 7)]}
def topS2 : Machine.State := {topS with mem := [(64, 1), (65, 1), (96, 0x80), (97, 0x3F), (98, 7)]}
def x18 := {opN with ord := 3, sc := 3}
def x19 := (opS {op .load with fid := 4})
def x20 := {opN with ord := 1}
def fenS : State := {gmS with slices := [(0, {tlb := [pg]}), (1, {fencedWays := (List.range 12).map fun w => 16 * Config.cacheSet 1 1 + w})]}
def x21 := {gmS with slices := [(0, {tlb := [pg]}), (1, {pins := [(1, 1)]})]}
def x22 := {gmS with slices := [(0, {tlb := [pg]}), (1, {pins := [(1, 2)]})]}
def x23 := {gmS with slices := [(0, {tlb := [pg]}), (2, {pins := [(5, 1)]})]}
def starS : State := { stashS with jobs := [(1, {jb with contract := [{planes := 1, slots := 1, memb := 0}]}), (2, {jb with id := 2, asid := 2})], planes := [(0, { plG with stash := [sl], stashBase := 2048, stashSize := 512 }), (1, {plG with job := 2, memq := [{op .load with job := 2}]})] }

theorem fen_limit : fenS.pinLimit 1 1 = 0 := by
  unfold State.pinLimit
  have : ((fenS.slice 1).fencedWays.filter fun w => w / 16 == Config.cacheSet 1 1).length = 12 := by
    show (List.filter _ ((List.range 12).map fun w => 16 * Config.cacheSet 1 1 + w)).length = 12
    rw [List.filter_eq_self.2]
    · simp
    · intro a h
      obtain ⟨w, hw, rfl⟩ := List.mem_map.1 h
      have := List.mem_range.1 hw
      simp only [beq_iff_eq]
      omega
  omega
theorem fen_full {n : Nat} : fenS.pinLimit 1 1 ≤ n := by rw [fen_limit]; exact Nat.zero_le n

/-- The hypotheses of BankAccesses can be met together, clause by clause. -/
theorem witness_BankAccesses :
    (gmS.rP x1.g.toNat ^^^ x1.gn = (1 : BitVec 1) ∧ (65536 ≤ BitVec.toNat (gmS.rS x1.a.toNat + BitVec.signExtend
      64 x1.off) ∨ BitVec.toNat (gmS.rS x1.a.toNat + BitVec.signExtend 64 x1.off) % 2 ^ x1.sz.toNat ≠ 0 ∨
      ¬inDataArea gmS (BitVec.toNat (gmS.rS x1.a.toNat + BitVec.signExtend 64 x1.off)) (2 ^ x1.sz.toNat))) ∧
    (gmS.rP x2.g.toNat ^^^ x2.gn = (1 : BitVec 1) ∧ BitVec.toNat (gmS.rS x2.a.toNat + BitVec.signExtend 64
      x2.off) < 65536 ∧ BitVec.toNat (gmS.rS x2.a.toNat + BitVec.signExtend 64 x2.off) % 2 ^ x2.sz.toNat = 0 ∧
      inDataArea gmS (BitVec.toNat (gmS.rS x2.a.toNat + BitVec.signExtend 64 x2.off)) (2 ^ x2.sz.toNat)) ∧
    (gmS.rP x2.g.toNat ^^^ x2.gn = (1 : BitVec 1) ∧ BitVec.toNat (gmS.rS x2.a.toNat + BitVec.signExtend 64
      x2.off) < 65536 ∧ BitVec.toNat (gmS.rS x2.a.toNat + BitVec.signExtend 64 x2.off) % 2 ^ x2.sz.toNat = 0 ∧
      inDataArea gmS (BitVec.toNat (gmS.rS x2.a.toNat + BitVec.signExtend 64 x2.off)) (2 ^ x2.sz.toNat) ∧ (∀ (m
      : MatOp), m ∈ gmS.pl.mq → m.useH = true ∨ ¬m.kind ∈ [MatKind.mma, MatKind.mldb, MatKind.mldbt,
      MatKind.msca])) :=
  by
  and_intros <;> first
    | decide +kernel
    | unfold inDataArea; decide +kernel

/-- The hypotheses of GlobalAccessesIssue can be met together, clause by clause. -/
theorem witness_GlobalAccessesIssue :
    (gmS.rP x1.g.toNat ^^^ x1.gn = (1 : BitVec 1) ∧ (BitVec.toNat (gmS.rS x1.a.toNat + BitVec.signExtend 64
      x1.off) % 2 ^ x1.sz.toNat ≠ 0 ∨ 2 ^ 52 ≤ BitVec.toNat (gmS.rS x1.a.toNat + BitVec.signExtend 64 x1.off)))
      ∧
    (gmS.rP opN.g.toNat ^^^ opN.gn = (1 : BitVec 1) ∧ BitVec.toNat (gmS.rS opN.a.toNat + BitVec.signExtend 64
      opN.off) % 2 ^ opN.sz.toNat = 0 ∧ BitVec.toNat (gmS.rS opN.a.toNat + BitVec.signExtend 64 opN.off) < 2 ^
      52 ∧ 2 ^ opN.sz.toNat ≤ 128 ∧ gmS.pl.acquired gmS.pl.firing.fid = true ∧ gmS.pl.memq.length < 64 ∧
      gmS.pl.stash = [] ∧ (opN.sc ≠ (0 : BitVec 3) ∨ gmS.pl.stashSize = 0) ∧ gmS.tlbFind (translatingSlice
      gmS.cur) (gmS.asid gmS.pl.job) (BitVec.toNat (gmS.rS opN.a.toNat + BitVec.signExtend 64 opN.off)) false =
      some pg ∧ (gmS.farRoom gmS.cur (physOf pg.pte pg.level (BitVec.toNat (gmS.rS opN.a.toNat +
      BitVec.signExtend 64 opN.off))).die (if 2 ^ opN.sz.toNat = 128 then 512 else 256) = true)) ∧
    (gmS.rP opN.g.toNat ^^^ opN.gn = (1 : BitVec 1) ∧ BitVec.toNat (gmS.rS opN.a.toNat + BitVec.signExtend 64
      opN.off) % 2 ^ opN.sz.toNat = 0 ∧ BitVec.toNat (gmS.rS opN.a.toNat + BitVec.signExtend 64 opN.off) < 2 ^
      52 ∧ 2 ^ opN.sz.toNat ≤ 128 ∧ gmS.pl.acquired gmS.pl.firing.fid = true ∧ gmS.pl.memq.length < 64 ∧
      gmS.pl.stash = [] ∧ (opN.sc ≠ (0 : BitVec 3) ∨ gmS.pl.stashSize = 0) ∧ gmS.tlbFind (translatingSlice
      gmS.cur) (gmS.asid gmS.pl.job) (BitVec.toNat (gmS.rS opN.a.toNat + BitVec.signExtend 64 opN.off)) true =
      some pg ∧ (gmS.farRoom gmS.cur (physOf pg.pte pg.level (BitVec.toNat (gmS.rS opN.a.toNat +
      BitVec.signExtend 64 opN.off))).die (if 2 ^ opN.sz.toNat = 128 then 512 else 256) = true)) ∧
    (gmS.rP x5.g.toNat ^^^ x5.gn = (1 : BitVec 1) ∧ (BitVec.toNat (gmS.rS x5.a.toNat) % 2 ^ x5.sz.toNat ≠ 0 ∨ 2
      ^ 52 ≤ BitVec.toNat (gmS.rS x5.a.toNat))) ∧
    (gmS.rP opX.g.toNat ^^^ opX.gn = (1 : BitVec 1) ∧ BitVec.toNat (gmS.rS opX.a.toNat) % 2 ^ opX.sz.toNat = 0 ∧
      BitVec.toNat (gmS.rS opX.a.toNat) < 2 ^ 52 ∧ 2 ^ opX.sz.toNat ≤ 64 ∧ gmS.pl.acquired gmS.pl.firing.fid =
      true ∧ gmS.pl.memq.length < 64 ∧ gmS.pl.stash = [] ∧ gmS.tlbFind (translatingSlice gmS.cur) (gmS.asid
      gmS.pl.job) (BitVec.toNat (gmS.rS opX.a.toNat)) true = some pg ∧ gmS.farRoom gmS.cur (physOf pg.pte
      pg.level (BitVec.toNat (gmS.rS opX.a.toNat))).die 256 = true) ∧
    (gmM.rP opC0.g.toNat ^^^ opC0.gn = (1 : BitVec 1) ∧ BitVec.toNat (gmM.rS opC0.a.toNat + BitVec.signExtend 64 opC0.off) % 2 ^ opC0.sz.toNat = 0 ∧ BitVec.toNat (gmM.rS opC0.a.toNat + BitVec.signExtend 64 opC0.off) < 2 ^ 52 ∧ 2 ^ opC0.sz.toNat ≤ 64 ∧ opC0.sc = (0 : BitVec 3) ∧ gmM.pl.stashSize ≠ 0 ∧ gmM.pl.acquired gmM.pl.firing.fid = true ∧ gmM.pl.memq.length < 64 ∧ gmM.lineBusy (BitVec.toNat (gmM.rS opC0.a.toNat + BitVec.signExtend 64 opC0.off)) (2 ^ opC0.sz.toNat) = false ∧ sl0.bad = (0 : BitVec 64) ∧ (gmM.pl.stashFind gmM.pl.job (BitVec.toNat (gmM.rS opC0.a.toNat + BitVec.signExtend 64 opC0.off)) = some sl0 ∨ gmM.pl.stash = [] ∧ ∃ e, gmM.tlbFind (translatingSlice gmM.cur) (gmM.asid gmM.pl.job) (BitVec.toNat (gmM.rS opC0.a.toNat + BitVec.signExtend 64 opC0.off)) false = some e ∧ gmM.tlbFind (translatingSlice gmM.cur) (gmM.asid gmM.pl.job) (BitVec.toNat (gmM.rS opC0.a.toNat + BitVec.signExtend 64 opC0.off)) true = some e ∧ (physOf e.pte e.level (BitVec.toNat (gmM.rS opC0.a.toNat + BitVec.signExtend 64 opC0.off))).die = dieOf gmM.cur ∧ (gmM.slice ((physOf e.pte e.level (BitVec.toNat (gmM.rS opC0.a.toNat + BitVec.signExtend 64 opC0.off))).die * 64 + (physOf e.pte e.level (BitVec.toNat (gmM.rS opC0.a.toNat + BitVec.signExtend 64 opC0.off))).slice)).dir = [] ∧ ¬(physOf e.pte e.level (BitVec.toNat (gmM.rS opC0.a.toNat + BitVec.signExtend 64 opC0.off))).key / 64 ∈ gmM.poison ∧ gmM.served ((physOf e.pte e.level (BitVec.toNat (gmM.rS opC0.a.toNat + BitVec.signExtend 64 opC0.off))).die * 64 + (physOf e.pte e.level (BitVec.toNat (gmM.rS opC0.a.toNat + BitVec.signExtend 64 opC0.off))).slice) gmM.pl.job = true ∧ sl0 = { vline := BitVec.toNat (gmM.rS opC0.a.toNat + BitVec.signExtend 64 opC0.off) / 64, job := gmM.pl.job, key := (physOf e.pte e.level (BitVec.toNat (gmM.rS opC0.a.toNat + BitVec.signExtend 64 opC0.off))).key / 64 * 64, data := BitVec.ofNat 512 (leNat (List.map (fun i => gmM.byte ((physOf e.pte e.level (BitVec.toNat (gmM.rS opC0.a.toNat + BitVec.signExtend 64 opC0.off))).key / 64 * 64 + i)) (List.range 64))) })) ∧
    (gmM.rP opC0.g.toNat ^^^ opC0.gn = (1 : BitVec 1) ∧ BitVec.toNat (gmM.rS opC0.a.toNat + BitVec.signExtend 64 opC0.off) % 2 ^ opC0.sz.toNat = 0 ∧ BitVec.toNat (gmM.rS opC0.a.toNat + BitVec.signExtend 64 opC0.off) < 2 ^ 52 ∧ 2 ^ opC0.sz.toNat ≤ 64 ∧ opC0.sc = (0 : BitVec 3) ∧ gmM.pl.stashSize ≠ 0 ∧ gmM.pl.acquired gmM.pl.firing.fid = true ∧ gmM.pl.memq.length < 64 ∧ gmM.lineBusy (BitVec.toNat (gmM.rS opC0.a.toNat + BitVec.signExtend 64 opC0.off)) (2 ^ opC0.sz.toNat) = false ∧ sl0.bad = (0 : BitVec 64) ∧ (gmM.pl.stashFind gmM.pl.job (BitVec.toNat (gmM.rS opC0.a.toNat + BitVec.signExtend 64 opC0.off)) = some sl0 ∨ gmM.pl.stash = [] ∧ ∃ e, gmM.tlbFind (translatingSlice gmM.cur) (gmM.asid gmM.pl.job) (BitVec.toNat (gmM.rS opC0.a.toNat + BitVec.signExtend 64 opC0.off)) false = some e ∧ gmM.tlbFind (translatingSlice gmM.cur) (gmM.asid gmM.pl.job) (BitVec.toNat (gmM.rS opC0.a.toNat + BitVec.signExtend 64 opC0.off)) true = some e ∧ (physOf e.pte e.level (BitVec.toNat (gmM.rS opC0.a.toNat + BitVec.signExtend 64 opC0.off))).die = dieOf gmM.cur ∧ (gmM.slice ((physOf e.pte e.level (BitVec.toNat (gmM.rS opC0.a.toNat + BitVec.signExtend 64 opC0.off))).die * 64 + (physOf e.pte e.level (BitVec.toNat (gmM.rS opC0.a.toNat + BitVec.signExtend 64 opC0.off))).slice)).dir = [] ∧ ¬(physOf e.pte e.level (BitVec.toNat (gmM.rS opC0.a.toNat + BitVec.signExtend 64 opC0.off))).key / 64 ∈ gmM.poison ∧ gmM.served ((physOf e.pte e.level (BitVec.toNat (gmM.rS opC0.a.toNat + BitVec.signExtend 64 opC0.off))).die * 64 + (physOf e.pte e.level (BitVec.toNat (gmM.rS opC0.a.toNat + BitVec.signExtend 64 opC0.off))).slice) gmM.pl.job = true ∧ sl0 = { vline := BitVec.toNat (gmM.rS opC0.a.toNat + BitVec.signExtend 64 opC0.off) / 64, job := gmM.pl.job, key := (physOf e.pte e.level (BitVec.toNat (gmM.rS opC0.a.toNat + BitVec.signExtend 64 opC0.off))).key / 64 * 64, data := BitVec.ofNat 512 (leNat (List.map (fun i => gmM.byte ((physOf e.pte e.level (BitVec.toNat (gmM.rS opC0.a.toNat + BitVec.signExtend 64 opC0.off))).key / 64 * 64 + i)) (List.range 64))) }) ∧ gmM.shadowed = false ∧ (opC0.ord = (2 : BitVec 2) → gmM.released = true)) :=
  by and_intros <;> decide +kernel

/-- The hypotheses of OutstandingAccessesPerform can be met together, clause by clause. -/
theorem witness_OutstandingAccessesPerform :
    (opMayPerform (opS (op MemKind.load)) 0 0 (op MemKind.load) ∧ (op MemKind.load).suppressed = false ∧
      notParked (opS (op MemKind.load)) 0 (op MemKind.load).tid (op MemKind.load).fid ∧ (¬(op MemKind.load).key
      / 64 ∈ (opS (op MemKind.load)).poison) ∧ ((opS (op MemKind.load)).die ((op MemKind.load).home /
      64)).fenced = false ∧ ((opS (op MemKind.load)).die (dieOf 0)).fenced = false ∧ noCopies (opS (op
      MemKind.load)) (op MemKind.load).key ∧ ((opS (op MemKind.load)).plane 0).stash = [] ∧ (op
      MemKind.load).leavesDie 0 = false ∧ (op MemKind.load).kind = MemKind.load ∧ (op MemKind.load).dst =
      Dest.sreg 6) ∧
    (opMayPerform x9 0 0 x10 ∧ x10.suppressed = false ∧ notParked x9 0 x10.tid x10.fid ∧ (¬x10.key / 64 ∈
      x9.poison) ∧ (x9.die (x10.home / 64)).fenced = false ∧ (x9.die (dieOf 0)).fenced = false ∧ noCopies x9
      x10.key ∧ (x9.plane 0).stash = [] ∧ x10.leavesDie 0 = false ∧ x10.kind = MemKind.load ∧ x10.dst =
      Dest.vreg 2 64) ∧
    (opMayPerform x11 0 0 x12 ∧ x12.suppressed = false ∧ notParked x11 0 x12.tid x12.fid ∧ (¬x12.key / 64 ∈
      x11.poison) ∧ (x11.die (x12.home / 64)).fenced = false ∧ (x11.die (dieOf 0)).fenced = false ∧ noCopies x11
      x12.key ∧ (x11.plane 0).stash = [] ∧ x12.leavesDie 0 = false ∧ x12.kind = MemKind.store ∧ x12.data.length
      = x12.size) ∧
    (opMayPerform (opS (op (MemKind.atomic 1))) 0 0 (op (MemKind.atomic 1)) ∧ (op (MemKind.atomic 1)).suppressed
      = false ∧ notParked (opS (op (MemKind.atomic 1))) 0 (op (MemKind.atomic 1)).tid (op (MemKind.atomic
      1)).fid ∧ (¬(op (MemKind.atomic 1)).key / 64 ∈ (opS (op (MemKind.atomic 1))).poison) ∧ ((opS (op
      (MemKind.atomic 1))).die ((op (MemKind.atomic 1)).home / 64)).fenced = false ∧ ((opS (op (MemKind.atomic
      1))).die (dieOf 0)).fenced = false ∧ noCopies (opS (op (MemKind.atomic 1))) (op (MemKind.atomic 1)).key ∧
      ((opS (op (MemKind.atomic 1))).plane 0).stash = [] ∧ (op (MemKind.atomic 1)).leavesDie 0 = false ∧ (op
      (MemKind.atomic 1)).kind = MemKind.atomic 1 ∧ 1 ≤ 1 ∧ 1 ≤ 11 ∧ ((op (MemKind.atomic 1)).size = 4 ∨ (op
      (MemKind.atomic 1)).size = 8)) ∧
    (opMayPerform (opFS (opF MemKind.load)) 0 0 (opF MemKind.load) ∧ (opF MemKind.load).suppressed = false ∧
      notParked (opFS (opF MemKind.load)) 0 (opF MemKind.load).tid (opF MemKind.load).fid ∧ (¬(opF
      MemKind.load).key / 64 ∈ (opFS (opF MemKind.load)).poison) ∧ ((opFS (opF MemKind.load)).die ((opF
      MemKind.load).home / 64)).fenced = false ∧ ((opFS (opF MemKind.load)).die (dieOf 0)).fenced = false ∧
      noCopies (opFS (opF MemKind.load)) (opF MemKind.load).key ∧ ((opFS (opF MemKind.load)).plane 0).stash = []
      ∧ (opF MemKind.load).leavesDie 0 = true ∧ (opF MemKind.load).kind = MemKind.load) ∧
    (opMayPerform x15 0 0 x16 ∧ x16.suppressed = false ∧ notParked x15 0 x16.tid x16.fid ∧ (¬x16.key / 64 ∈
      x15.poison) ∧ (x15.die (x16.home / 64)).fenced = false ∧ (x15.die (dieOf 0)).fenced = false ∧ noCopies x15
      x16.key ∧ (x15.plane 0).stash = [] ∧ x16.leavesDie 0 = true ∧ x16.kind = MemKind.store ∧ x16.data.length =
      x16.size) ∧
    (opMayPerform x17 0 0 (opF (MemKind.atomic 10)) ∧ (opF (MemKind.atomic 10)).suppressed = false ∧ notParked
      x17 0 (opF (MemKind.atomic 10)).tid (opF (MemKind.atomic 10)).fid ∧ (¬(opF (MemKind.atomic 10)).key / 64 ∈
      x17.poison) ∧ (x17.die ((opF (MemKind.atomic 10)).home / 64)).fenced = false ∧ (x17.die (dieOf 0)).fenced
      = false ∧ noCopies x17 (opF (MemKind.atomic 10)).key ∧ (x17.plane 0).stash = [] ∧ (opF (MemKind.atomic
      10)).leavesDie 0 = true ∧ (opF (MemKind.atomic 10)).kind = MemKind.atomic 10 ∧ ((opF (MemKind.atomic
      10)).size = 4 ∨ (opF (MemKind.atomic 10)).size = 8)) ∧
    (opMayPerform (opS topOp) 0 0 topOp ∧ topOp.suppressed = false ∧ notParked (opS topOp) 0 topOp.tid topOp.fid
      ∧ (¬topOp.key / 64 ∈ (opS topOp).poison) ∧ ((opS topOp).die (topOp.home / 64)).fenced = false ∧ noCopies
      (opS topOp) topOp.key ∧ ((opS topOp).plane 0).stash = [] ∧ ((opS topOp).die (dieOf 0)).fenced = false ∧
      topOp.leavesDie 0 = false ∧ topOp.kind = MemKind.atomic 12 ∧ topOp.size = 64 ∧ topOp.key % 64 = 0 ∧
      topOp.dst = Dest.sreg 6 ∧ 6 ≠ 0 ∧ (¬(1 ≤ BitVec.toNat ((opS topOp).byte (topOp.key + 1)) ∧ BitVec.toNat
      ((opS topOp).byte (topOp.key + 1)) ≤ 8 ∧ BitVec.toNat ((opS topOp).byte (topOp.key + 0)) ≤ BitVec.toNat
      ((opS topOp).byte (topOp.key + 1)) ∧ ∀ (i : Nat), 2 ≤ i → i < 32 → BitVec.toNat ((opS topOp).byte
      (topOp.key + i)) = 0))) ∧
    (opMayPerform topS 0 0 topOp ∧ topOp.suppressed = false ∧ notParked topS 0 topOp.tid topOp.fid ∧ (¬topOp.key
      / 64 ∈ topS.poison) ∧ (topS.die (topOp.home / 64)).fenced = false ∧ noCopies topS topOp.key ∧ (topS.plane
      0).stash = [] ∧ (topS.die (dieOf 0)).fenced = false ∧ topOp.leavesDie 0 = false ∧ topOp.kind =
      MemKind.atomic 12 ∧ topOp.size = 64 ∧ topOp.key % 64 = 0 ∧ topOp.dst = Dest.sreg 6 ∧ 6 ≠ 0 ∧ (1 ≤
      BitVec.toNat (topS.byte (topOp.key + 1)) ∧ BitVec.toNat (topS.byte (topOp.key + 1)) ≤ 8 ∧ BitVec.toNat
      (topS.byte (topOp.key + 0)) ≤ BitVec.toNat (topS.byte (topOp.key + 1)) ∧ ∀ (i : Nat), 2 ≤ i → i < 32 →
      BitVec.toNat (topS.byte (topOp.key + i)) = 0) ∧ ((value 1 false (if BitVec.toNat topOp.b % 2 ^ 16 = 32768
      then 0 else BitVec.toNat topOp.b % 2 ^ 16)).isNan = false) ∧ ((List.filter (fun j => topBetter
      (BitVec.toNat (topS.byte (topOp.key + (32 + 4 * j))) + 256 * BitVec.toNat (topS.byte (topOp.key + (33 + 4
      * j))), BitVec.toNat (topS.byte (topOp.key + (34 + 4 * j))) + 256 * BitVec.toNat (topS.byte (topOp.key +
      (35 + 4 * j)))) (if BitVec.toNat topOp.b % 2 ^ 16 = 32768 then 0 else BitVec.toNat topOp.b % 2 ^ 16,
      BitVec.toNat topOp.b / 2 ^ 16 % 2 ^ 16)) (List.range (BitVec.toNat (topS.byte (topOp.key + 0))))).length <
      BitVec.toNat (topS.byte (topOp.key + 1)))) ∧
    (opMayPerform topS2 0 0 topOp ∧ topOp.suppressed = false ∧ notParked topS2 0 topOp.tid topOp.fid ∧
      (¬topOp.key / 64 ∈ topS2.poison) ∧ (topS2.die (topOp.home / 64)).fenced = false ∧ noCopies topS2 topOp.key
      ∧ (topS2.plane 0).stash = [] ∧ (topS2.die (dieOf 0)).fenced = false ∧ topOp.leavesDie 0 = false ∧
      topOp.kind = MemKind.atomic 12 ∧ topOp.size = 64 ∧ topOp.key % 64 = 0 ∧ topOp.dst = Dest.sreg 6 ∧ 6 ≠ 0 ∧
      (1 ≤ BitVec.toNat (topS2.byte (topOp.key + 1)) ∧ BitVec.toNat (topS2.byte (topOp.key + 1)) ≤ 8 ∧
      BitVec.toNat (topS2.byte (topOp.key + 0)) ≤ BitVec.toNat (topS2.byte (topOp.key + 1)) ∧ ∀ (i : Nat), 2 ≤ i
      → i < 32 → BitVec.toNat (topS2.byte (topOp.key + i)) = 0) ∧ ((value 1 false (if BitVec.toNat topOp.b % 2 ^
      16 = 32768 then 0 else BitVec.toNat topOp.b % 2 ^ 16)).isNan = false) ∧ (BitVec.toNat (topS2.byte
      (topOp.key + 1)) ≤ (List.filter (fun j => topBetter (BitVec.toNat (topS2.byte (topOp.key + (32 + 4 * j)))
      + 256 * BitVec.toNat (topS2.byte (topOp.key + (33 + 4 * j))), BitVec.toNat (topS2.byte (topOp.key + (34 +
      4 * j))) + 256 * BitVec.toNat (topS2.byte (topOp.key + (35 + 4 * j)))) (if BitVec.toNat topOp.b % 2 ^ 16 =
      32768 then 0 else BitVec.toNat topOp.b % 2 ^ 16, BitVec.toNat topOp.b / 2 ^ 16 % 2 ^ 16)) (List.range
      (BitVec.toNat (topS2.byte (topOp.key + 0))))).length)) :=
  by
  and_intros <;> first
    | decide +kernel
    | unfold opMayPerform; decide +kernel
    | unfold notParked; decide +kernel
    | unfold noCopies; decide +kernel
    | exact fun hh => absurd (hh.2.2.2 2 (by decide) (by decide)) (by decide +kernel)
    | exact all30 _ (by decide +kernel)

/-- The hypotheses of StashAndFences can be met together, clause by clause. -/
theorem witness_StashAndFences :
    (stashS.rP x1.g.toNat ^^^ x1.gn = (1 : BitVec 1) ∧ stashS.pl.acquired stashS.pl.firing.fid = true ∧
      (BitVec.toNat (stashS.rS x1.a.toNat + BitVec.signExtend 64 x1.off) % 64 ≠ 0 ∨ 2 ^ 52 ≤ BitVec.toNat
      (stashS.rS x1.a.toNat + BitVec.signExtend 64 x1.off))) ∧
    (gmS.rP opN.g.toNat ^^^ opN.gn = (1 : BitVec 1) ∧ gmS.pl.acquired gmS.pl.firing.fid = true ∧ BitVec.toNat
      (gmS.rS opN.a.toNat + BitVec.signExtend 64 opN.off) % 64 = 0 ∧ BitVec.toNat (gmS.rS opN.a.toNat +
      BitVec.signExtend 64 opN.off) < 2 ^ 52 ∧ gmS.pl.stashFind gmS.pl.job (BitVec.toNat (gmS.rS opN.a.toNat +
      BitVec.signExtend 64 opN.off)) = none) ∧
    (stashS.rP opN.g.toNat ^^^ opN.gn = (1 : BitVec 1) ∧ stashS.pl.acquired stashS.pl.firing.fid = true ∧
      BitVec.toNat (stashS.rS opN.a.toNat + BitVec.signExtend 64 opN.off) % 64 = 0 ∧ BitVec.toNat (stashS.rS
      opN.a.toNat + BitVec.signExtend 64 opN.off) < 2 ^ 52 ∧ stashS.pl.stashFind stashS.pl.job (BitVec.toNat
      (stashS.rS opN.a.toNat + BitVec.signExtend 64 opN.off)) = some sl) ∧
    (stashS.rP opN.g.toNat ^^^ opN.gn = (1 : BitVec 1) ∧ stashS.pl.acquired stashS.pl.firing.fid = true) ∧
    (x19.rP x18.g.toNat ^^^ x18.gn = (1 : BitVec 1) ∧ (∀ (m : MemOp), m ∈ List.filter (fun m => m.fid ==
      x19.pl.firing.fid) x19.pl.memq → m.id < x19.serial) ∧ (∀ (m : MatOp), m ∈ List.filter (fun m => m.fid ==
      x19.pl.firing.fid) x19.pl.mq → m.id < x19.serial) ∧ ((x18.ord = (1 : BitVec 2) ∨ x18.ord = (3 : BitVec 2)
      → (∀ (m : MemOp), m ∈ List.filter (fun m => m.fid == x19.pl.firing.fid) x19.pl.memq → m.kind =
      MemKind.store) ∧ ∀ (m : MatOp), m ∈ List.filter (fun m => m.fid == x19.pl.firing.fid) x19.pl.mq → m.kind ≠
      MatKind.mload) ∧ (x18.ord = (2 : BitVec 2) ∨ x18.ord = (3 : BitVec 2) → (∀ (m : MemOp), m ∈ List.filter
      (fun m => m.fid == x19.pl.firing.fid) x19.pl.memq → m.kind = MemKind.load) ∧ ∀ (m : MatOp), m ∈
      List.filter (fun m => m.fid == x19.pl.firing.fid) x19.pl.mq → m.kind ≠ MatKind.msave)) ∧ (x18.ord = (2 :
      BitVec 2) ∨ x18.ord = (3 : BitVec 2) → x18.sc.toNat < 3 ∨ x19.pl.stash = [])) ∧
    ((opS (op MemKind.load)).rP x20.g.toNat ^^^ x20.gn = (1 : BitVec 1) ∧ (∀ (m : MemOp), m ∈ List.filter (fun m
      => m.fid == (opS (op MemKind.load)).pl.firing.fid) (opS (op MemKind.load)).pl.memq → m.id < (opS (op
      MemKind.load)).serial) ∧ (∀ (m : MatOp), m ∈ List.filter (fun m => m.fid == (opS (op
      MemKind.load)).pl.firing.fid) (opS (op MemKind.load)).pl.mq → m.id < (opS (op MemKind.load)).serial) ∧
      (¬((x20.ord = (1 : BitVec 2) ∨ x20.ord = (3 : BitVec 2) → (∀ (m : MemOp), m ∈ List.filter (fun m => m.fid
      == (opS (op MemKind.load)).pl.firing.fid) (opS (op MemKind.load)).pl.memq → m.kind = MemKind.store) ∧ ∀ (m
      : MatOp), m ∈ List.filter (fun m => m.fid == (opS (op MemKind.load)).pl.firing.fid) (opS (op
      MemKind.load)).pl.mq → m.kind ≠ MatKind.mload) ∧ (x20.ord = (2 : BitVec 2) ∨ x20.ord = (3 : BitVec 2) → (∀
      (m : MemOp), m ∈ List.filter (fun m => m.fid == (opS (op MemKind.load)).pl.firing.fid) (opS (op
      MemKind.load)).pl.memq → m.kind = MemKind.load) ∧ ∀ (m : MatOp), m ∈ List.filter (fun m => m.fid == (opS
      (op MemKind.load)).pl.firing.fid) (opS (op MemKind.load)).pl.mq → m.kind ≠ MatKind.msave)))) ∧
    (stashS.rP opN.g.toNat ^^^ opN.gn = (1 : BitVec 1) ∧ stashS.pl.acquired stashS.pl.firing.fid = true ∧
      BitVec.toNat (stashS.rS opN.a.toNat + BitVec.signExtend 64 opN.off) % 64 = 0 ∧ BitVec.toNat (stashS.rS
      opN.a.toNat + BitVec.signExtend 64 opN.off) < 2 ^ 52 ∧ stashS.pl.stashFind stashS.pl.job (BitVec.toNat
      (stashS.rS opN.a.toNat + BitVec.signExtend 64 opN.off)) = some sl ∧ (∀ (x : StashLine), x ∈
      stashS.pl.stash → x.vline = sl.vline → x.job = sl.job → x.dirty = (0 : BitVec 64) ∨ stashS.served (dieOf
      stashS.cur * 64 + homeSlice (x.key % 2 ^ 64)) x.job = true) ∧ (∀ (e : Nat × Plane), e ∈ stashS.planes →
      e.fst ≠ stashS.cur → ∀ (x : StashLine), x ∈ e.snd.stash → x.key ≠ sl.key / 64 * 64)) ∧
    (stashS.rP opN.g.toNat ^^^ opN.gn = (1 : BitVec 1) ∧ stashS.pl.acquired stashS.pl.firing.fid = true ∧
      ((stashS.backServed stashS.cur fun x => true) = true) ∧ ((List.map (fun l => (l.vline, l.job))
      stashS.pl.stash).Nodup)) ∧
    (stashS.rP opN.g.toNat ^^^ opN.gn = (1 : BitVec 1) ∧ stashS.pl.acquired stashS.pl.firing.fid = true ∧
      ((stashS.backServed stashS.cur fun x => true) = true)) ∧
    (starS.rP opN.g.toNat ^^^ opN.gn = (1 : BitVec 1) ∧ starS.pl.acquired starS.pl.firing.fid = true ∧
      BitVec.toNat (starS.rS opN.a.toNat + BitVec.signExtend 64 opN.off) % 64 = 0 ∧ BitVec.toNat (starS.rS
      opN.a.toNat + BitVec.signExtend 64 opN.off) < 2 ^ 52 ∧ starS.pl.stashFind starS.pl.job (BitVec.toNat
      (starS.rS opN.a.toNat + BitVec.signExtend 64 opN.off)) = some sl ∧ (¬∀ (x : StashLine), x ∈ starS.pl.stash
      → x.vline = sl.vline → x.job = sl.job → x.dirty = (0 : BitVec 64) ∨ starS.served (dieOf starS.cur * 64 +
      homeSlice (x.key % 2 ^ 64)) x.job = true) ∧ Instr.swbLine opN ∈ [Instr.swbLine opN, Instr.sinvLine opN]) ∧
    (starS.rP opN.g.toNat ^^^ opN.gn = (1 : BitVec 1) ∧ starS.pl.acquired starS.pl.firing.fid = true ∧
      ((starS.backServed starS.cur fun x => true) = false) ∧ Instr.swbAll opN ∈ [Instr.swbAll opN, Instr.sinvAll
      opN]) :=
  by and_intros <;> decide +kernel

/-- The hypotheses of Pinning can be met together, clause by clause. -/
theorem witness_Pinning :
    (x21.rP opN.g.toNat ^^^ opN.gn = (1 : BitVec 1) ∧ x21.pl.acquired x21.pl.firing.fid = true ∧ opN.d ≠ (0 :
      BitVec 5) ∧ BitVec.toNat (x21.rS opN.a.toNat + BitVec.signExtend 64 opN.off) % 64 = 0 ∧ BitVec.toNat
      (x21.rS opN.a.toNat + BitVec.signExtend 64 opN.off) < 2 ^ 52 ∧ x21.tlbFind (translatingSlice x21.cur)
      (x21.asid x21.pl.job) (BitVec.toNat (x21.rS opN.a.toNat + BitVec.signExtend 64 opN.off)) false = some pg ∧
      (List.find? (fun p => p.fst == (physOf pg.pte pg.level (BitVec.toNat (x21.rS opN.a.toNat +
      BitVec.signExtend 64 opN.off))).key / 64) (x21.slice ((physOf pg.pte pg.level (BitVec.toNat (x21.rS
      opN.a.toNat + BitVec.signExtend 64 opN.off))).die * 64 + (physOf pg.pte pg.level (BitVec.toNat (x21.rS
      opN.a.toNat + BitVec.signExtend 64 opN.off))).slice)).pins = some (1, 1)) ∧ (1, 1).snd = x21.pl.job) ∧
    (x22.rP opN.g.toNat ^^^ opN.gn = (1 : BitVec 1) ∧ x22.pl.acquired x22.pl.firing.fid = true ∧ opN.d ≠ (0 :
      BitVec 5) ∧ BitVec.toNat (x22.rS opN.a.toNat + BitVec.signExtend 64 opN.off) % 64 = 0 ∧ BitVec.toNat
      (x22.rS opN.a.toNat + BitVec.signExtend 64 opN.off) < 2 ^ 52 ∧ x22.tlbFind (translatingSlice x22.cur)
      (x22.asid x22.pl.job) (BitVec.toNat (x22.rS opN.a.toNat + BitVec.signExtend 64 opN.off)) false = some pg ∧
      (List.find? (fun p => p.fst == (physOf pg.pte pg.level (BitVec.toNat (x22.rS opN.a.toNat +
      BitVec.signExtend 64 opN.off))).key / 64) (x22.slice ((physOf pg.pte pg.level (BitVec.toNat (x22.rS
      opN.a.toNat + BitVec.signExtend 64 opN.off))).die * 64 + (physOf pg.pte pg.level (BitVec.toNat (x22.rS
      opN.a.toNat + BitVec.signExtend 64 opN.off))).slice)).pins = some (1, 2)) ∧ (1, 2).snd ≠ x22.pl.job) ∧
    (gmS.rP opN.g.toNat ^^^ opN.gn = (1 : BitVec 1) ∧ gmS.pl.acquired gmS.pl.firing.fid = true ∧ opN.d ≠ (0 :
      BitVec 5) ∧ BitVec.toNat (gmS.rS opN.a.toNat + BitVec.signExtend 64 opN.off) % 64 = 0 ∧ BitVec.toNat
      (gmS.rS opN.a.toNat + BitVec.signExtend 64 opN.off) < 2 ^ 52 ∧ gmS.tlbFind (translatingSlice gmS.cur)
      (gmS.asid gmS.pl.job) (BitVec.toNat (gmS.rS opN.a.toNat + BitVec.signExtend 64 opN.off)) false = some pg ∧
      (List.find? (fun p => p.fst == (physOf pg.pte pg.level (BitVec.toNat (gmS.rS opN.a.toNat +
      BitVec.signExtend 64 opN.off))).key / 64) (gmS.slice ((physOf pg.pte pg.level (BitVec.toNat (gmS.rS
      opN.a.toNat + BitVec.signExtend 64 opN.off))).die * 64 + (physOf pg.pte pg.level (BitVec.toNat (gmS.rS
      opN.a.toNat + BitVec.signExtend 64 opN.off))).slice)).pins = none)) ∧
    (gmS.rP opN.g.toNat ^^^ opN.gn = (1 : BitVec 1) ∧ gmS.pl.acquired gmS.pl.firing.fid = true ∧ opN.d ≠ (0 :
      BitVec 5) ∧ BitVec.toNat (gmS.rS opN.a.toNat + BitVec.signExtend 64 opN.off) % 64 = 0 ∧ BitVec.toNat
      (gmS.rS opN.a.toNat + BitVec.signExtend 64 opN.off) < 2 ^ 52 ∧ gmS.tlbFind (translatingSlice gmS.cur)
      (gmS.asid gmS.pl.job) (BitVec.toNat (gmS.rS opN.a.toNat + BitVec.signExtend 64 opN.off)) false = some pg ∧
      (List.find? (fun p => p.fst == (physOf pg.pte pg.level (BitVec.toNat (gmS.rS opN.a.toNat +
      BitVec.signExtend 64 opN.off))).key / 64) (gmS.slice ((physOf pg.pte pg.level (BitVec.toNat (gmS.rS
      opN.a.toNat + BitVec.signExtend 64 opN.off))).die * 64 + (physOf pg.pte pg.level (BitVec.toNat (gmS.rS
      opN.a.toNat + BitVec.signExtend 64 opN.off))).slice)).pins = none) ∧ gmS.setPins ((physOf pg.pte pg.level
      (BitVec.toNat (gmS.rS opN.a.toNat + BitVec.signExtend 64 opN.off))).die * 64 + (physOf pg.pte pg.level
      (BitVec.toNat (gmS.rS opN.a.toNat + BitVec.signExtend 64 opN.off))).slice) ((physOf pg.pte pg.level
      (BitVec.toNat (gmS.rS opN.a.toNat + BitVec.signExtend 64 opN.off))).key / 64) < gmS.pinLimit ((physOf
      pg.pte pg.level (BitVec.toNat (gmS.rS opN.a.toNat + BitVec.signExtend 64 opN.off))).die * 64 + (physOf
      pg.pte pg.level (BitVec.toNat (gmS.rS opN.a.toNat + BitVec.signExtend 64 opN.off))).slice) ((physOf pg.pte
      pg.level (BitVec.toNat (gmS.rS opN.a.toNat + BitVec.signExtend 64 opN.off))).key / 64) ∧ gmS.jobPins
      gmS.pl.job < (Option.map Job.quota (gmS.job gmS.pl.job)).getD 0) ∧
    (x23.rP opN.g.toNat ^^^ opN.gn = (1 : BitVec 1) ∧ x23.pl.acquired x23.pl.firing.fid = true ∧ opN.d ≠ (0 :
      BitVec 5) ∧ BitVec.toNat (x23.rS opN.a.toNat + BitVec.signExtend 64 opN.off) % 64 = 0 ∧ BitVec.toNat
      (x23.rS opN.a.toNat + BitVec.signExtend 64 opN.off) < 2 ^ 52 ∧ x23.tlbFind (translatingSlice x23.cur)
      (x23.asid x23.pl.job) (BitVec.toNat (x23.rS opN.a.toNat + BitVec.signExtend 64 opN.off)) false = some pg ∧
      (List.find? (fun p => p.fst == (physOf pg.pte pg.level (BitVec.toNat (x23.rS opN.a.toNat +
      BitVec.signExtend 64 opN.off))).key / 64) (x23.slice ((physOf pg.pte pg.level (BitVec.toNat (x23.rS
      opN.a.toNat + BitVec.signExtend 64 opN.off))).die * 64 + (physOf pg.pte pg.level (BitVec.toNat (x23.rS
      opN.a.toNat + BitVec.signExtend 64 opN.off))).slice)).pins = none) ∧ x23.setPins ((physOf pg.pte pg.level
      (BitVec.toNat (x23.rS opN.a.toNat + BitVec.signExtend 64 opN.off))).die * 64 + (physOf pg.pte pg.level
      (BitVec.toNat (x23.rS opN.a.toNat + BitVec.signExtend 64 opN.off))).slice) ((physOf pg.pte pg.level
      (BitVec.toNat (x23.rS opN.a.toNat + BitVec.signExtend 64 opN.off))).key / 64) < x23.pinLimit ((physOf
      pg.pte pg.level (BitVec.toNat (x23.rS opN.a.toNat + BitVec.signExtend 64 opN.off))).die * 64 + (physOf
      pg.pte pg.level (BitVec.toNat (x23.rS opN.a.toNat + BitVec.signExtend 64 opN.off))).slice) ((physOf pg.pte
      pg.level (BitVec.toNat (x23.rS opN.a.toNat + BitVec.signExtend 64 opN.off))).key / 64) ∧ (Option.map
      Job.quota (x23.job x23.pl.job)).getD 0 ≤ x23.jobPins x23.pl.job) ∧
    (fenS.rP opN.g.toNat ^^^ opN.gn = (1 : BitVec 1) ∧ fenS.pl.acquired fenS.pl.firing.fid = true ∧ opN.d ≠ (0 :
      BitVec 5) ∧ BitVec.toNat (fenS.rS opN.a.toNat + BitVec.signExtend 64 opN.off) % 64 = 0 ∧ BitVec.toNat
      (fenS.rS opN.a.toNat + BitVec.signExtend 64 opN.off) < 2 ^ 52 ∧ fenS.tlbFind (translatingSlice fenS.cur)
      (fenS.asid fenS.pl.job) (BitVec.toNat (fenS.rS opN.a.toNat + BitVec.signExtend 64 opN.off)) false = some
      pg ∧ (List.find? (fun p => p.fst == (physOf pg.pte pg.level (BitVec.toNat (fenS.rS opN.a.toNat +
      BitVec.signExtend 64 opN.off))).key / 64) (fenS.slice ((physOf pg.pte pg.level (BitVec.toNat (fenS.rS
      opN.a.toNat + BitVec.signExtend 64 opN.off))).die * 64 + (physOf pg.pte pg.level (BitVec.toNat (fenS.rS
      opN.a.toNat + BitVec.signExtend 64 opN.off))).slice)).pins = none) ∧ fenS.pinLimit ((physOf pg.pte
      pg.level (BitVec.toNat (fenS.rS opN.a.toNat + BitVec.signExtend 64 opN.off))).die * 64 + (physOf pg.pte
      pg.level (BitVec.toNat (fenS.rS opN.a.toNat + BitVec.signExtend 64 opN.off))).slice) ((physOf pg.pte
      pg.level (BitVec.toNat (fenS.rS opN.a.toNat + BitVec.signExtend 64 opN.off))).key / 64) ≤ fenS.setPins
      ((physOf pg.pte pg.level (BitVec.toNat (fenS.rS opN.a.toNat + BitVec.signExtend 64 opN.off))).die * 64 +
      (physOf pg.pte pg.level (BitVec.toNat (fenS.rS opN.a.toNat + BitVec.signExtend 64 opN.off))).slice)
      ((physOf pg.pte pg.level (BitVec.toNat (fenS.rS opN.a.toNat + BitVec.signExtend 64 opN.off))).key / 64))
      :=
  by
  and_intros <;> first
    | decide +kernel
    | exact fen_full

end Sys2Proof.Tests.Accesses
end

