-- ==== Sys2Proof/Tests/Doorbells.lean ====
section
/-!
SUPPORT. For each hypothesis list of the command statements, a concrete state and operands that meet all of it together:
one conjunct for each clause of a statement.
-/
namespace Sys2Proof.Tests.Doorbells
open Sys2Proof Sys2Proof.Machine Sys2Proof.Tests
set_option maxRecDepth 20000
set_option Elab.async false

def s1 : State := lkS jbR
def bad : Cmd := cmd 0 0 0
def qcmd (op n : Nat) : Cmd := {link := 0, record := BitVec.ofNat 1024 (op + 256 + n * 2 ^ 128)}
def x1 : Cmd := {link := 0, record := BitVec.ofNat 1024 (9 + 256 + 2 * 2 ^ 64)}
def x2 := (qcmd 15 (4096 + 4096 * 2 ^ 64))
def x3 := {s1 with patches := [(4096, pch)]}
def x4 := ((Instr.cancel bad, 3) : Instr × Nat)
def x5 := ((Instr.cancel (cmd 3 2 0), 3) : Instr × Nat)
def p12 : Cmd := cmd 15 0 (4096 + 4096 * 2 ^ 64)
def sP : State := {s1 with patches := [(4096, pch)]}
def sPk : State := {sP with pkg := {rollback := 6}}
def x7 := (cmd 10 0 0x52455345545A5858)
def x8 := (cmd 9 1 (3 + 4096 * 2 ^ 256))
def x9 := (cmd 8 0 (1 + 4096 * 2 ^ 64))
def x10 := (cmd 8 0 (4096 * 2 ^ 64))
def x11 := (cmd 8 1 (2 + 4096 * 2 ^ 64))
def x12 := (cmd 8 0 (3 + 4096 * 2 ^ 64))
def x13 := {s1 with mem := []}
def x14 := (cmd 4 1 (65536 + 2 ^ 64 + 7 * 2 ^ 128))
def fms : Miss := {job := 1, page := 1, who := [wt], faulted := true}
def sF : State := {s1 with dies := [(0, {misses := [fms]})]}
def c5 : Cmd := cmd 5 1 65536
def trp2 : TrapRec := {trp with cause := 2}
def takF : Take := {takeT with traps := [trp2]}
def sFT : State := {sF with takes := [(7, takF)]}
def x15 := (cmd 5 1 (65536 + 2 ^ 64))
def sI : State := {s1 with planeImages := [(4096, img)]}
def x16 := (cmd 6 1 (4096 + 8 * 2 ^ 64))
def imgB : PlaneImage := {img with scriptSize := 5}
def sIB : State := {s1 with planeImages := [(4096, imgB)]}
def jbD : Job := {jbR with debug := true}
def trp3 : TrapRec := {trp with cause := 12}
def takB : Take := {takeT with traps := [trp3]}
def sB : State := {lkS jbD with takes := [(7, takB)], regions := [(2048, rgn)]}

/-- The hypotheses of Commands can be met together, clause by clause. -/
theorem witness_Commands :
    (linkFree s1 (qcmd 12 1).link ∧ (qcmd 12 1).quiet = true ∧ (qcmd 12 1).shaped 12 = true ∧ (qcmd 12 1).num 16
      1 < 2) ∧
    (linkFree s1 (qcmd 12 2).link ∧ (qcmd 12 2).quiet = true ∧ (qcmd 12 2).shaped 12 = true ∧ 2 ≤ (qcmd 12
      2).num 16 1) ∧
    (linkFree s1 x1.link ∧ x1.quiet = true ∧ x1.shaped 9 = true ∧ x1.job ≠ 0 ∧ s1.job x1.job = none) ∧
    (linkFree x3 x2.link ∧ x2.quiet = true ∧ x2.shaped 15 = true ∧ find x3.patches (x2.num 16 8) = some pch ∧
      pch.good = true ∧ pch.length = x2.num 24 4 ∧ x3.pkg.rollback ≤ pch.version) ∧
    (linkFree s1 bad.link ∧ bad.quiet = false ∧ x4 ∈ [(Instr.admitJob bad, 2), (Instr.cancel bad, 3), (Instr.map
      bad, 4), (Instr.faultsvc bad, 5), (Instr.pload bad, 6), (Instr.qreg bad, 7), (Instr.query bad, 8),
      (Instr.attest bad, 9), (Instr.reset bad, 10), (Instr.power bad, 11), (Instr.ras bad, 12), (Instr.resume
      bad, 13), (Instr.apmap bad, 14), (Instr.patch bad, 15)] ∧ bad.shaped x4.snd = false) ∧
    (linkFree s1 (cmd 3 2 0).link ∧ (cmd 3 2 0).quiet = false ∧ s1.job (cmd 3 2 0).job = none ∧ x5 ∈
      [(Instr.cancel (cmd 3 2 0), 3), (Instr.map (cmd 3 2 0), 4), (Instr.faultsvc (cmd 3 2 0), 5), (Instr.pload
      (cmd 3 2 0), 6), (Instr.qreg (cmd 3 2 0), 7), (Instr.resume (cmd 3 2 0), 13)] ∧ (cmd 3 2 0).shaped x5.snd
      = true) ∧
    (linkFree s1 p12.link ∧ p12.quiet = false ∧ p12.shaped 15 = true ∧ find s1.patches (p12.num 16 8) = none) ∧
    (linkFree sP (cmd 15 0 4096).link ∧ (cmd 15 0 4096).quiet = false ∧ (cmd 15 0 4096).shaped 15 = true ∧ find
      sP.patches ((cmd 15 0 4096).num 16 8) = some pch ∧ (pch.good = false ∨ pch.length ≠ (cmd 15 0 4096).num 24
      4)) ∧
    (linkFree sPk p12.link ∧ p12.quiet = false ∧ p12.shaped 15 = true ∧ find sPk.patches (p12.num 16 8) = some
      pch ∧ pch.good = true ∧ pch.length = p12.num 24 4 ∧ pch.version < sPk.pkg.rollback) ∧
    (linkFree sP p12.link ∧ p12.quiet = false ∧ p12.shaped 15 = true ∧ find sP.patches (p12.num 16 8) = some pch
      ∧ pch.good = true ∧ pch.length = p12.num 24 4 ∧ sP.pkg.rollback ≤ pch.version) ∧
    (linkFree s1 (cmd 14 0 64).link ∧ (cmd 14 0 64).quiet = false ∧ (cmd 14 0 64).shaped 14 = true ∧ (64 ≤ (cmd
      14 0 64).num 16 1 ∨ (cmd 14 0 64).num 24 8 % 2 ^ 34 ≠ 0 ∨ 2 ^ 52 ≤ (cmd 14 0 64).num 24 8)) ∧
    (linkFree s1 (cmd 14 0 3).link ∧ (cmd 14 0 3).quiet = false ∧ (cmd 14 0 3).shaped 14 = true ∧ (cmd 14 0
      3).num 16 1 < 64 ∧ (cmd 14 0 3).num 24 8 % 2 ^ 34 = 0 ∧ (cmd 14 0 3).num 24 8 < 2 ^ 52 ∧ (cmd 14 0 3).job
      = 0) ∧
    (linkFree s1 (cmd 14 2 3).link ∧ (cmd 14 2 3).quiet = false ∧ (cmd 14 2 3).shaped 14 = true ∧ (cmd 14 2
      3).num 16 1 < 64 ∧ (cmd 14 2 3).num 24 8 % 2 ^ 34 = 0 ∧ (cmd 14 2 3).num 24 8 < 2 ^ 52 ∧ (cmd 14 2 3).job
      ≠ 0 ∧ s1.job (cmd 14 2 3).job = none) ∧
    (linkFree s1 (cmd 14 1 3).link ∧ (cmd 14 1 3).quiet = false ∧ (cmd 14 1 3).shaped 14 = true ∧ (cmd 14 1
      3).num 16 1 < 64 ∧ (cmd 14 1 3).num 24 8 % 2 ^ 34 = 0 ∧ (cmd 14 1 3).num 24 8 < 2 ^ 52 ∧ (cmd 14 1 3).job
      ≠ 0 ∧ s1.job (cmd 14 1 3).job = some jbR) ∧
    (linkFree s1 (cmd 12 0 2).link ∧ (cmd 12 0 2).quiet = false ∧ (cmd 12 0 2).shaped 12 = true ∧ 2 ≤ (cmd 12 0
      2).num 16 1) ∧
    (linkFree s1 (cmd 12 0 1).link ∧ (cmd 12 0 1).quiet = false ∧ (cmd 12 0 1).shaped 12 = true ∧ (cmd 12 0
      1).num 16 1 < 2) ∧
    (linkFree s1 (cmd 11 0 3).link ∧ (cmd 11 0 3).quiet = false ∧ (cmd 11 0 3).shaped 11 = true ∧ (3 ≤ (cmd 11 0
      3).num 16 1 ∨ ∃ d, d < 8 ∧ (cmd 11 0 3).num (24 + d) 1 ≠ 0 ∧ ((cmd 11 0 3).num (24 + d) 1 < 16 ∨ (if (cmd
      11 0 3).num 16 1 = 0 then 256 else if (cmd 11 0 3).num 16 1 = 1 then 192 else 128) < (cmd 11 0 3).num (24
      + d) 1))) ∧
    (linkFree s1 (cmd 11 0 2).link ∧ (cmd 11 0 2).quiet = false ∧ (cmd 11 0 2).shaped 11 = true ∧ (¬(3 ≤ (cmd 11
      0 2).num 16 1 ∨ ∃ d, d < 8 ∧ (cmd 11 0 2).num (24 + d) 1 ≠ 0 ∧ ((cmd 11 0 2).num (24 + d) 1 < 16 ∨ (if
      (cmd 11 0 2).num 16 1 = 0 then 256 else if (cmd 11 0 2).num 16 1 = 1 then 192 else 128) < (cmd 11 0 2).num
      (24 + d) 1))) ∧ (∃ e, e ∈ s1.jobs ∧ e.snd.minmode < (cmd 11 0 2).num 16 1)) ∧
    (linkFree s1 (cmd 11 0 0).link ∧ (cmd 11 0 0).quiet = false ∧ (cmd 11 0 0).shaped 11 = true ∧ (¬(3 ≤ (cmd 11
      0 0).num 16 1 ∨ ∃ d, d < 8 ∧ (cmd 11 0 0).num (24 + d) 1 ≠ 0 ∧ ((cmd 11 0 0).num (24 + d) 1 < 16 ∨ (if
      (cmd 11 0 0).num 16 1 = 0 then 256 else if (cmd 11 0 0).num 16 1 = 1 then 192 else 128) < (cmd 11 0 0).num
      (24 + d) 1))) ∧ (∀ (e : Nat × Job), e ∈ s1.jobs → (cmd 11 0 0).num 16 1 ≤ e.snd.minmode)) ∧
    (linkFree s1 (cmd 10 0 2).link ∧ (cmd 10 0 2).quiet = false ∧ (cmd 10 0 2).shaped 10 = true ∧ (cmd 10 0
      2).num 16 8 ≠ 5928236041736181848) ∧
    (linkFree s1 x7.link ∧ x7.quiet = false ∧ x7.shaped 10 = true ∧ x7.num 16 8 = 5928236041736181848) ∧
    (linkFree s1 (cmd 9 2 3).link ∧ (cmd 9 2 3).quiet = false ∧ (cmd 9 2 3).shaped 9 = true ∧ (cmd 9 2 3).job ≠
      0 ∧ s1.job (cmd 9 2 3).job = none) ∧
    (linkFree s1 x8.link ∧ x8.quiet = false ∧ x8.shaped 9 = true ∧ (∀ (q : Nat × Plane), q ∈ s1.planes →
      q.snd.stash = [] ∧ q.snd.memq = []) ∧ (x8.job = 0 ∨ s1.job x8.job ≠ none) ∧ x8.num 48 8 + 1536 ≤ 2 ^ 64) ∧
    (linkFree s1 (cmd 8 0 4).link ∧ (cmd 8 0 4).quiet = false ∧ (cmd 8 0 4).shaped 8 = true ∧ 4 ≤ (cmd 8 0
      4).num 16 1) ∧
    (linkFree s1 (cmd 8 2 2).link ∧ (cmd 8 2 2).quiet = false ∧ (cmd 8 2 2).shaped 8 = true ∧ (cmd 8 2 2).num 16
      1 = 2 ∧ s1.job (cmd 8 2 2).job = none) ∧
    (linkFree s1 x9.link ∧ x9.quiet = false ∧ x9.shaped 8 = true ∧ x9.num 16 1 = 1) ∧
    (linkFree s1 x10.link ∧ x10.quiet = false ∧ x10.shaped 8 = true ∧ (∀ (q : Nat × Plane), q ∈ s1.planes →
      q.snd.stash = [] ∧ q.snd.memq = []) ∧ x10.num 16 1 = 0 ∧ x10.num 24 8 + 64 ≤ 2 ^ 64) ∧
    (linkFree s1 x11.link ∧ x11.quiet = false ∧ x11.shaped 8 = true ∧ (∀ (q : Nat × Plane), q ∈ s1.planes →
      q.snd.stash = [] ∧ q.snd.memq = []) ∧ x11.num 16 1 = 2 ∧ s1.job x11.job ≠ none ∧ x11.num 24 8 + 2080 ≤ 2 ^
      64) ∧
    (linkFree s1 x12.link ∧ x12.quiet = false ∧ x12.shaped 8 = true ∧ (∀ (q : Nat × Plane), q ∈ s1.planes →
      q.snd.stash = [] ∧ q.snd.memq = []) ∧ x12.num 16 1 = 3 ∧ x12.num 24 8 + 160 ≤ 2 ^ 64) ∧
    (linkFree s1 (cmd 3 1 0).link ∧ (cmd 3 1 0).quiet = false ∧ s1.job (cmd 3 1 0).job = some jbR ∧ jbR.id =
      (cmd 3 1 0).job ∧ (cmd 3 1 0).shaped 3 = true ∧ (∀ (l : Nat), (s1.link l).loading = none) ∧ jbR.admitting
      = none) ∧
    (linkFree s1 (cmd 4 1 0).link ∧ (cmd 4 1 0).quiet = false ∧ s1.job (cmd 4 1 0).job = some jbR ∧ jbR.id =
      (cmd 4 1 0).job ∧ (cmd 4 1 0).shaped 4 = true ∧ ((cmd 4 1 0).num 24 1 < 1 ∨ 3 < (cmd 4 1 0).num 24 1 ∨ 2 ^
      52 ≤ (cmd 4 1 0).num 16 8)) ∧
    (linkFree x13 (cmd 4 1 (2 ^ 64 * 2)).link ∧ (cmd 4 1 (2 ^ 64 * 2)).quiet = false ∧ x13.job (cmd 4 1 (2 ^ 64
      * 2)).job = some jbR ∧ jbR.id = (cmd 4 1 (2 ^ 64 * 2)).job ∧ (cmd 4 1 (2 ^ 64 * 2)).shaped 4 = true ∧ 1 ≤
      (cmd 4 1 (2 ^ 64 * 2)).num 24 1 ∧ (cmd 4 1 (2 ^ 64 * 2)).num 24 1 ≤ 3 ∧ (cmd 4 1 (2 ^ 64 * 2)).num 16 8 <
      2 ^ 52 ∧ x13.tableOf ((cmd 4 1 (2 ^ 64 * 2)).num 16 8) ((cmd 4 1 (2 ^ 64 * 2)).num 24 1 - 1) 1 jbR.root =
      none) ∧
    (linkFree s1 x14.link ∧ x14.quiet = false ∧ s1.job x14.job = some jbR ∧ jbR.id = x14.job ∧ x14.shaped 4 =
      true ∧ 1 ≤ x14.num 24 1 ∧ x14.num 24 1 ≤ 3 ∧ x14.num 16 8 < 2 ^ 52 ∧ (∀ (q : Nat × Plane), q ∈ s1.planes →
      q.snd.stash = [] ∧ q.snd.memq = []) ∧ (∀ (m : Msg), m ∈ s1.msgs → m.placed = false) ∧ s1.tableOf (x14.num
      16 8) (x14.num 24 1 - 1) 1 jbR.root = some 65536) ∧
    (linkFree sF (cmd 5 1 (65536 * 2)).link ∧ (cmd 5 1 (65536 * 2)).quiet = false ∧ sF.job (cmd 5 1 (65536 *
      2)).job = some jbR ∧ jbR.id = (cmd 5 1 (65536 * 2)).job ∧ (cmd 5 1 (65536 * 2)).shaped 5 = true ∧
      (sF.faultOf (cmd 5 1 (65536 * 2)).job ((cmd 5 1 (65536 * 2)).num 16 8 / 65536) = [] ∨ 2 ≤ (cmd 5 1 (65536
      * 2)).num 24 1)) ∧
    (linkFree sF c5.link ∧ c5.quiet = false ∧ sF.job c5.job = some jbR ∧ jbR.id = c5.job ∧ c5.shaped 5 = true ∧
      sF.faultOf c5.job (c5.num 16 8 / 65536) ≠ [] ∧ c5.num 24 1 = 0) ∧
    (linkFree sFT c5.link ∧ c5.quiet = false ∧ sFT.job c5.job = some jbR ∧ jbR.id = c5.job ∧ c5.shaped 5 = true
      ∧ sFT.faultOf c5.job (c5.num 16 8 / 65536) = [wt] ∧ c5.num 24 1 = 0 ∧ wt.who = Requester.firing 0 3 ∧
      sFT.takes = [(takF.tid, takF)] ∧ takF.traps = [trp2] ∧ trp2.cause = 2 ∧ trp2.pid = 0 ∧ BitVec.getLsbD
      trp2.info 63 = false ∧ takF.parked = [prk] ∧ prk.pid = 0 ∧ prk.firing.fid = 3 ∧ sFT.ownParked takF =
      false) ∧
    (linkFree sFT x15.link ∧ x15.quiet = false ∧ sFT.job x15.job = some jbR ∧ jbR.id = x15.job ∧ x15.shaped 5 =
      true ∧ sFT.faultOf x15.job (x15.num 16 8 / 65536) = [wt] ∧ x15.num 24 1 = 1 ∧ wt.who = Requester.firing 0
      3 ∧ sFT.takes = [(takF.tid, takF)] ∧ takF.traps = [trp2] ∧ trp2.cause = 2 ∧ trp2.pid = 0 ∧ BitVec.getLsbD
      trp2.info 63 = false ∧ takF.parked = [prk] ∧ prk.pid = 0 ∧ prk.firing.fid = 3) ∧
    (linkFree s1 (cmd 6 1 4096).link ∧ (cmd 6 1 4096).quiet = false ∧ s1.job (cmd 6 1 4096).job = some jbR ∧
      jbR.id = (cmd 6 1 4096).job ∧ (cmd 6 1 4096).shaped 6 = true ∧ find s1.planeImages ((cmd 6 1 4096).num 16
      8) = none) ∧
    (linkFree sI x16.link ∧ x16.quiet = false ∧ sI.job x16.job = some jbR ∧ jbR.id = x16.job ∧ x16.shaped 6 =
      true ∧ find sI.planeImages (x16.num 16 8) = some img ∧ (img.scriptSize % 256 = 0 ∧ img.cells.all
      CellImage.formed = true) ∧ (8 ≤ x16.num 24 1 ∨ jbR.diemask / 2 ^ x16.num 24 1 % 2 = 0 ∨ jbR.planesOn
      (x16.num 24 1) / 2 ^ img.plane % 2 = 0 ∨ jbR.stopped = true ∨ ∃ r, sI.region (regionKey x16.job (x16.num
      24 1) img.rid) = some r ∧ r.place ≠ Placement.torn)) ∧
    (linkFree sIB (cmd 6 1 4096).link ∧ (cmd 6 1 4096).quiet = false ∧ sIB.job (cmd 6 1 4096).job = some jbR ∧
      jbR.id = (cmd 6 1 4096).job ∧ (cmd 6 1 4096).shaped 6 = true ∧ find sIB.planeImages ((cmd 6 1 4096).num 16
      8) = some imgB ∧ (¬(imgB.scriptSize % 256 = 0 ∧ imgB.cells.all CellImage.formed = true))) ∧
    (linkFree sI (cmd 6 1 4096).link ∧ (cmd 6 1 4096).quiet = false ∧ sI.job (cmd 6 1 4096).job = some jbR ∧
      jbR.id = (cmd 6 1 4096).job ∧ (cmd 6 1 4096).shaped 6 = true ∧ find sI.planeImages ((cmd 6 1 4096).num 16
      8) = some img ∧ (img.scriptSize % 256 = 0 ∧ img.cells.all CellImage.formed = true) ∧ (cmd 6 1 4096).num 24
      1 < 8 ∧ jbR.diemask / 2 ^ (cmd 6 1 4096).num 24 1 % 2 = 1 ∧ jbR.planesOn ((cmd 6 1 4096).num 24 1) / 2 ^
      img.plane % 2 = 1 ∧ sI.region (regionKey (cmd 6 1 4096).job ((cmd 6 1 4096).num 24 1) img.rid) = none ∧
      jbR.stopped = false) ∧
    (linkFree s1 (cmd 7 1 63).link ∧ (cmd 7 1 63).quiet = false ∧ s1.job (cmd 7 1 63).job = some jbR ∧ jbR.id =
      (cmd 7 1 63).job ∧ (cmd 7 1 63).shaped 7 = true ∧ s1.registerQueue (cmd 7 1 63).job ((cmd 7 1 63).num 16
      8) = none) ∧
    (linkFree s1 (cmd 7 1 64).link ∧ (cmd 7 1 64).quiet = false ∧ s1.job (cmd 7 1 64).job = some jbR ∧ jbR.id =
      (cmd 7 1 64).job ∧ (cmd 7 1 64).shaped 7 = true ∧ (cmd 7 1 64).num 16 8 % 64 = 0 ∧ s1.queueOf (cmd 7 1
      64).job ((cmd 7 1 64).num 16 8) = none ∧ s1.placeOf (cmd 7 1 64).job ((cmd 7 1 64).num 16 8) true = some
      (physOf (7 : Word) 3 64) ∧ s1.num (physOf (7 : Word) 3 64).key 8 = s1.num ((physOf (7 : Word) 3 64).key +
      8) 8 ∧ s1.num ((physOf (7 : Word) 3 64).key + 16) 1 ≤ 20 ∧ s1.num ((physOf (7 : Word) 3 64).key + 17) 1 <
      8 ∧ jbR.diemask / 2 ^ s1.num ((physOf (7 : Word) 3 64).key + 17) 1 % 2 = 1 ∧ s1.num ((physOf (7 : Word) 3
      64).key + 18) 46 = 0) ∧
    (linkFree s1 (cmd 13 1 0).link ∧ (cmd 13 1 0).quiet = false ∧ s1.job (cmd 13 1 0).job = some jbR ∧ jbR.id =
      (cmd 13 1 0).job ∧ (cmd 13 1 0).shaped 13 = true ∧ s1.takeOf (regionKey (cmd 13 1 0).job ((cmd 13 1 0).num
      16 1) ((cmd 13 1 0).num 17 1)) ((cmd 13 1 0).num 18 1) = none) ∧
    (linkFree sB (cmd 13 1 (2 * 2 ^ 16)).link ∧ (cmd 13 1 (2 * 2 ^ 16)).quiet = false ∧ sB.job (cmd 13 1 (2 * 2
      ^ 16)).job = some jbD ∧ jbD.id = (cmd 13 1 (2 * 2 ^ 16)).job ∧ (cmd 13 1 (2 * 2 ^ 16)).shaped 13 = true ∧
      sB.takeOf (regionKey (cmd 13 1 (2 * 2 ^ 16)).job ((cmd 13 1 (2 * 2 ^ 16)).num 16 1) ((cmd 13 1 (2 * 2 ^
      16)).num 17 1)) ((cmd 13 1 (2 * 2 ^ 16)).num 18 1) = some takB ∧ sB.take takB.tid = some takB ∧ (cmd 13 1
      (2 * 2 ^ 16)).num 16 1 < 8 ∧ jbD.debug = true ∧ takB.colour ≠ 15 ∧ takB.traps = [trp3] ∧ trp3.cause = 12 ∧
      takB.failing = false ∧ sB.ownParked takB = false) :=
  by
  and_intros <;> first
    | decide +kernel
    | unfold linkFree; decide +kernel
    | intro l; unfold State.link look; simp only [s1, lkS, find]; split <;> rfl

end Sys2Proof.Tests.Doorbells
end

