-- ==== Sys2Proof/Tests/Fragments.lean ====
section
/-!
SUPPORT. For each hypothesis list of the message statements, a concrete state and operands that meet all of it together:
one conjunct for each clause of a statement.
-/
namespace Sys2Proof.Tests.Fragments
open Sys2Proof Sys2Proof.Machine Sys2Proof.Tests
set_option maxRecDepth 20000
set_option Elab.async false

def mem0 : List (Nat × Byte) := [(66, 3), (80, 128)]
def memG : List (Nat × Byte) := [(64, 1), (66, 3), (80, 128)]
def c0 : MsgClass := {job := 1, sent := 4}
def x1 := {opY with a := 5}
def x2 := (Instr.xput {opY with a := 5})
def x3 := (dscS memG {})
def x4 := (dscS [(64,1),(66,3),(70,0x40)] c0)
def x5 := (dscS memG {c0 with paths := [(0,0)]})
def x6 := (dscS mem0 {})
def rt : State := {dscS mem0 c0 with planes := [(0, {plG with regs := {plG.regs with s := [(4, 0x500020D82)]}})]}
def x7 := {opY with a := 7}
def x8 := {opY with kreg := 0x40}
def x9 := {opY with kreg := 0x50}
def x10 := {opY with kreg := 0x60}
def frgC5 : Frag := frgC 5
def frgH : Frag := let f : Frag := {frgD 1 with ports := [.die 0 1, .die 1 2]}; {f with check := f.crc}
def outF : Frag := let f : Frag := {die := 0, mid := 0, msgid := 5, srcEp := 7, dstEp := 0, dstDie := 0, cls := 0, ftype := 0, len := 4, job := 9}; {f with check := f.crc}
def outX : Inbound := {port := 16, bytes := outF.header ++ leBytes 4 outF.check.toNat ++ leBytes 4 0 ++ leBytes 256 0, desc := 0, reply := false, pred := none}
def msgD : Msg := {msg with decoded := true}
def msgG : Msg := {msg with decoded := true, kind := 1}
def msgR : Msg := {msg with decoded := true, kind := 3}
def msgO : Msg := {msgD with srcEp := 7, die := 2}
def msgO3 : Msg := {msgO with kind := 3}
def msgA : Msg := {msg with kind := 4, cls := 7, access := 9}
def opA4 : MemOp := {op .load with home := 65, got := some 0xAB}
def msgAS : State := {msgS msgA [frgC 2] with planes := [(0, {plG with memq := [opA4]})]}
def msgE : Msg := {msg with dstEp := 5, todo := []}
def ansE : Answer := {ep := 5, die := 1, dstDie := 0, msgid := 12, cls := 0, job := 1, list := [], lost := [], counted := false, reject := true}
def msgX : Msg := {msgD with srcEp := 7, die := 2, carried := true}
def msgY : Msg := {msgD with mid := 10, die := 8, cls := 7, kind := 5, access := 9, lv := false, ract := 0}
def msgXS : State := {msgS msgX [] with msgs := [msgX, msgY]}
def rx (n : Nat) : State := {msgS msg [] with dies := [(1, {slots := [rxs n]})]}
def mL : Msg := {msg with todo := []}
def mR : Msg := {msg with todo := [], resent := true}
def mA : Msg := {msg with todo := [], resent := true, aborting := true}
def de : DstEntry := {ep := 0, die := 1}
def se : SrcEntry := {port := 0, srcDie := 1, high := 3}
def exS : State := {State.reset with clk := 8000000, dies := [(0, {dsts := [de], srcs := [se]})]}
def frgX : Frag := {frgD 1 with ports := [.ext 3]}
def brA : Bridge := {brg with claimed := [0]}
def brAS : State := {brgS brA with msgs := [msgB]}
def brL : Bridge := {brg with lost := some (2, 9)}
def brLS : State := {brgS brL with takes := [(7, take7)]}
def brB : Bridge := {brg with broken := some 2, claimed := [0, 1, 2]}
def rgD2 : Ring := {rgD with tail := 3, slots := [(0, {}), (1, {}), (2, {})]}
def brBS : State := {brgS brB with rings := [(16, rg), (24, rgD2)]}
def x11 := (dscS [(66, 3), (70, 0x40), (80, 128)] c0)
def x12 := (dscS mem0 {c0 with paths := [(0,0)]})
def x13 := {opY with kreg := 0x10}
def x14 := {opY with kreg := 0x20}
def x15 := {opY with kreg := 0x30}

/-- The hypotheses of MessageInstructions can be met together, clause by clause. -/
theorem witness_MessageInstructions :
    ((dscS mem0 c0).rP x1.g.toNat ^^^ x1.gn = (1 : BitVec 1) ∧ (dscS mem0 c0).shadowed = false ∧ (BitVec.toNat
      ((dscS mem0 c0).rS x1.a.toNat) % 64 ≠ 0 ∨ 2 ^ 52 ≤ BitVec.toNat ((dscS mem0 c0).rS x1.a.toNat)) ∧ x2 ∈
      [Instr.xput x1, Instr.xget x1]) ∧
    (x3.rP opY.g.toNat ^^^ opY.gn = (1 : BitVec 1) ∧ x3.shadowed = false ∧ readsLine x3 pg (BitVec.toNat (x3.rS
      opY.a.toNat)) ∧ (¬(fld (lineAt x3 pg (BitVec.toNat (x3.rS opY.a.toNat))) 8 3 ≠ 7 ∧ (x3.cls (x3.cur / 1024)
      (fld (lineAt x3 pg (BitVec.toNat (x3.rS opY.a.toNat))) 8 3)).job = x3.pl.job))) ∧
    ((dscS mem0 c0).rP opY.g.toNat ^^^ opY.gn = (1 : BitVec 1) ∧ (dscS mem0 c0).shadowed = false ∧ readsLine
      (dscS mem0 c0) pg (BitVec.toNat ((dscS mem0 c0).rS opY.a.toNat)) ∧ (fld (lineAt (dscS mem0 c0) pg
      (BitVec.toNat ((dscS mem0 c0).rS opY.a.toNat))) 8 3 ≠ 7 ∧ ((dscS mem0 c0).cls ((dscS mem0 c0).cur / 1024)
      (fld (lineAt (dscS mem0 c0) pg (BitVec.toNat ((dscS mem0 c0).rS opY.a.toNat))) 8 3)).job = (dscS mem0
      c0).pl.job) ∧ descBad (lineAt (dscS mem0 c0) pg (BitVec.toNat ((dscS mem0 c0).rS opY.a.toNat))) true =
      true) ∧
    (x4.rP opY.g.toNat ^^^ opY.gn = (1 : BitVec 1) ∧ x4.shadowed = false ∧ readsLine x4 pg (BitVec.toNat (x4.rS
      opY.a.toNat)) ∧ (fld (lineAt x4 pg (BitVec.toNat (x4.rS opY.a.toNat))) 8 3 ≠ 7 ∧ (x4.cls (x4.cur / 1024)
      (fld (lineAt x4 pg (BitVec.toNat (x4.rS opY.a.toNat))) 8 3)).job = x4.pl.job) ∧ descBad (lineAt x4 pg
      (BitVec.toNat (x4.rS opY.a.toNat))) true = false ∧ x4.destOk x4.pl.job (fld (lineAt x4 pg (BitVec.toNat
      (x4.rS opY.a.toNat))) 32 22) (fld (lineAt x4 pg (BitVec.toNat (x4.rS opY.a.toNat))) 54 3) = false) ∧
    (x5.rP opY.g.toNat ^^^ opY.gn = (1 : BitVec 1) ∧ x5.shadowed = false ∧ readsLine x5 pg (BitVec.toNat (x5.rS
      opY.a.toNat)) ∧ (fld (lineAt x5 pg (BitVec.toNat (x5.rS opY.a.toNat))) 8 3 ≠ 7 ∧ (x5.cls (x5.cur / 1024)
      (fld (lineAt x5 pg (BitVec.toNat (x5.rS opY.a.toNat))) 8 3)).job = x5.pl.job) ∧ descBad (lineAt x5 pg
      (BitVec.toNat (x5.rS opY.a.toNat))) true = false ∧ x5.destOk x5.pl.job (fld (lineAt x5 pg (BitVec.toNat
      (x5.rS opY.a.toNat))) 32 22) (fld (lineAt x5 pg (BitVec.toNat (x5.rS opY.a.toNat))) 54 3) = true ∧
      x5.pathsFor (x5.cur / 1024) (fld (lineAt x5 pg (BitVec.toNat (x5.rS opY.a.toNat))) 8 3) (x5.targetOf
      x5.pl.job (fld (lineAt x5 pg (BitVec.toNat (x5.rS opY.a.toNat))) 32 22) (fld (lineAt x5 pg (BitVec.toNat
      (x5.rS opY.a.toNat))) 54 3)) = []) ∧
    ((dscS memG c0).rP opY.g.toNat ^^^ opY.gn = (1 : BitVec 1) ∧ (dscS memG c0).shadowed = false ∧ readsLine
      (dscS memG c0) pg (BitVec.toNat ((dscS memG c0).rS opY.a.toNat)) ∧ (fld (lineAt (dscS memG c0) pg
      (BitVec.toNat ((dscS memG c0).rS opY.a.toNat))) 8 3 ≠ 7 ∧ ((dscS memG c0).cls ((dscS memG c0).cur / 1024)
      (fld (lineAt (dscS memG c0) pg (BitVec.toNat ((dscS memG c0).rS opY.a.toNat))) 8 3)).job = (dscS memG
      c0).pl.job) ∧ descBad (lineAt (dscS memG c0) pg (BitVec.toNat ((dscS memG c0).rS opY.a.toNat))) true =
      false ∧ (dscS memG c0).destOk (dscS memG c0).pl.job (fld (lineAt (dscS memG c0) pg (BitVec.toNat ((dscS
      memG c0).rS opY.a.toNat))) 32 22) (fld (lineAt (dscS memG c0) pg (BitVec.toNat ((dscS memG c0).rS
      opY.a.toNat))) 54 3) = true ∧ (dscS memG c0).pathsFor ((dscS memG c0).cur / 1024) (fld (lineAt (dscS memG
      c0) pg (BitVec.toNat ((dscS memG c0).rS opY.a.toNat))) 8 3) ((dscS memG c0).targetOf (dscS memG c0).pl.job
      (fld (lineAt (dscS memG c0) pg (BitVec.toNat ((dscS memG c0).rS opY.a.toNat))) 32 22) (fld (lineAt (dscS
      memG c0) pg (BitVec.toNat ((dscS memG c0).rS opY.a.toNat))) 54 3)) ≠ [] ∧ (dscS memG c0).mayIssue ((dscS
      memG c0).cur / 1024) (fld (lineAt (dscS memG c0) pg (BitVec.toNat ((dscS memG c0).rS opY.a.toNat))) 32 22)
      (fld (lineAt (dscS memG c0) pg (BitVec.toNat ((dscS memG c0).rS opY.a.toNat))) 54 3) 64 = true) ∧
    ((dscS memG c0).rP opY.g.toNat ^^^ opY.gn = (1 : BitVec 1) ∧ (dscS memG c0).shadowed = false ∧ readsLine
      (dscS memG c0) pg (BitVec.toNat ((dscS memG c0).rS opY.a.toNat)) ∧ (fld (lineAt (dscS memG c0) pg
      (BitVec.toNat ((dscS memG c0).rS opY.a.toNat))) 8 3 ≠ 7 ∧ ((dscS memG c0).cls ((dscS memG c0).cur / 1024)
      (fld (lineAt (dscS memG c0) pg (BitVec.toNat ((dscS memG c0).rS opY.a.toNat))) 8 3)).job = (dscS memG
      c0).pl.job) ∧ descBad (lineAt (dscS memG c0) pg (BitVec.toNat ((dscS memG c0).rS opY.a.toNat))) false =
      true) ∧
    ((dscS mem0 c0).rP opY.g.toNat ^^^ opY.gn = (1 : BitVec 1) ∧ (dscS mem0 c0).shadowed = false ∧ readsLine
      (dscS mem0 c0) pg (BitVec.toNat ((dscS mem0 c0).rS opY.a.toNat)) ∧ (fld (lineAt (dscS mem0 c0) pg
      (BitVec.toNat ((dscS mem0 c0).rS opY.a.toNat))) 8 3 ≠ 7 ∧ ((dscS mem0 c0).cls ((dscS mem0 c0).cur / 1024)
      (fld (lineAt (dscS mem0 c0) pg (BitVec.toNat ((dscS mem0 c0).rS opY.a.toNat))) 8 3)).job = (dscS mem0
      c0).pl.job) ∧ descBad (lineAt (dscS mem0 c0) pg (BitVec.toNat ((dscS mem0 c0).rS opY.a.toNat))) false =
      false ∧ (dscS mem0 c0).destOk (dscS mem0 c0).pl.job (fld (lineAt (dscS mem0 c0) pg (BitVec.toNat ((dscS
      mem0 c0).rS opY.a.toNat))) 32 22) (fld (lineAt (dscS mem0 c0) pg (BitVec.toNat ((dscS mem0 c0).rS
      opY.a.toNat))) 54 3) = true ∧ (dscS mem0 c0).pathsFor ((dscS mem0 c0).cur / 1024) (fld (lineAt (dscS mem0
      c0) pg (BitVec.toNat ((dscS mem0 c0).rS opY.a.toNat))) 8 3) ((dscS mem0 c0).targetOf (dscS mem0 c0).pl.job
      (fld (lineAt (dscS mem0 c0) pg (BitVec.toNat ((dscS mem0 c0).rS opY.a.toNat))) 32 22) (fld (lineAt (dscS
      mem0 c0) pg (BitVec.toNat ((dscS mem0 c0).rS opY.a.toNat))) 54 3)) ≠ [] ∧ (dscS mem0 c0).mayIssue ((dscS
      mem0 c0).cur / 1024) (fld (lineAt (dscS mem0 c0) pg (BitVec.toNat ((dscS mem0 c0).rS opY.a.toNat))) 32 22)
      (fld (lineAt (dscS mem0 c0) pg (BitVec.toNat ((dscS mem0 c0).rS opY.a.toNat))) 54 3) (fld (lineAt (dscS
      mem0 c0) pg (BitVec.toNat ((dscS mem0 c0).rS opY.a.toNat))) 16 16) = true ∧ nothingWaits (dscS mem0 c0) ∧
      (dscS mem0 c0).rangeBad (dscS mem0 c0).pl.job (fld (lineAt (dscS mem0 c0) pg (BitVec.toNat ((dscS mem0
      c0).rS opY.a.toNat))) 128 64 / 64 * 64) (fld (lineAt (dscS mem0 c0) pg (BitVec.toNat ((dscS mem0 c0).rS
      opY.a.toNat))) 16 16 + fld (lineAt (dscS mem0 c0) pg (BitVec.toNat ((dscS mem0 c0).rS opY.a.toNat))) 128
      64 % 64) = false ∧ (∀ (a : Nat), fld (lineAt (dscS mem0 c0) pg (BitVec.toNat ((dscS mem0 c0).rS
      opY.a.toNat))) 128 64 ≤ a → a < fld (lineAt (dscS mem0 c0) pg (BitVec.toNat ((dscS mem0 c0).rS
      opY.a.toNat))) 128 64 + fld (lineAt (dscS mem0 c0) pg (BitVec.toNat ((dscS mem0 c0).rS opY.a.toNat))) 16
      16 → pg.covers ((dscS mem0 c0).asid (dscS mem0 c0).pl.job) a = true)) ∧
    (x6.rP opY.g.toNat ^^^ opY.gn = (1 : BitVec 1) ∧ x6.shadowed = false ∧ (¬(opY.kreg.toNat % 8 ≠ 7 ∧ (x6.cls
      (x6.cur / 1024) (opY.kreg.toNat % 8)).job = x6.pl.job)) ∧ Instr.xpath opY ∈ [Instr.xrateRead opY,
      Instr.xrateWrite opY, Instr.xpath opY]) ∧
    ((dscS mem0 c0).rP opY.g.toNat ^^^ opY.gn = (1 : BitVec 1) ∧ (dscS mem0 c0).shadowed = false ∧
      (opY.kreg.toNat % 8 ≠ 7 ∧ ((dscS mem0 c0).cls ((dscS mem0 c0).cur / 1024) (opY.kreg.toNat % 8)).job =
      (dscS mem0 c0).pl.job)) ∧
    ((dscS mem0 c0).rP opY.g.toNat ^^^ opY.gn = (1 : BitVec 1) ∧ (dscS mem0 c0).shadowed = false ∧
      (opY.kreg.toNat % 8 ≠ 7 ∧ ((dscS mem0 c0).cls ((dscS mem0 c0).cur / 1024) (opY.kreg.toNat % 8)).job =
      (dscS mem0 c0).pl.job) ∧ (BitVec.toNat ((dscS mem0 c0).rS opY.a.toNat) % 4 < BitVec.toNat ((dscS mem0
      c0).rS opY.a.toNat) / 2 ^ 8 % 4 ∨ BitVec.toNat ((dscS mem0 c0).rS opY.a.toNat) / 2 ^ 10 % 4 < BitVec.toNat
      ((dscS mem0 c0).rS opY.a.toNat) % 4 ∨ BitVec.toNat ((dscS mem0 c0).rS opY.a.toNat) / 2 ^ 32 % 2 ^ 16 = 0))
      ∧
    (rt.rP opY.g.toNat ^^^ opY.gn = (1 : BitVec 1) ∧ rt.shadowed = false ∧ (opY.kreg.toNat % 8 ≠ 7 ∧ (rt.cls
      (rt.cur / 1024) (opY.kreg.toNat % 8)).job = rt.pl.job) ∧ BitVec.toNat (rt.rS opY.a.toNat) / 2 ^ 8 % 4 ≤
      BitVec.toNat (rt.rS opY.a.toNat) % 4 ∧ BitVec.toNat (rt.rS opY.a.toNat) % 4 ≤ BitVec.toNat (rt.rS
      opY.a.toNat) / 2 ^ 10 % 4 ∧ BitVec.toNat (rt.rS opY.a.toNat) / 2 ^ 32 % 2 ^ 16 ≠ 0) ∧
    (rt.rP opY.g.toNat ^^^ opY.gn = (1 : BitVec 1) ∧ rt.shadowed = false ∧ (opY.kreg.toNat % 8 ≠ 7 ∧ (rt.cls
      (rt.cur / 1024) (opY.kreg.toNat % 8)).job = rt.pl.job) ∧ (9 < BitVec.toNat (rt.rS opY.a.toNat) / 2 ^ 8 %
      16 ∨ 2 ^ 12 ≤ BitVec.toNat (rt.rS opY.a.toNat) ∨ BitVec.toNat (rt.rS opY.a.toNat) / 2 ^ 8 % 16 < 8 ∧
      BitVec.toNat (rt.rS opY.a.toNat) / 2 ^ 4 % 16 ≠ 0)) ∧
    (rt.rP x7.g.toNat ^^^ x7.gn = (1 : BitVec 1) ∧ rt.shadowed = false ∧ (x7.kreg.toNat % 8 ≠ 7 ∧ (rt.cls
      (rt.cur / 1024) (x7.kreg.toNat % 8)).job = rt.pl.job) ∧ (¬(9 < BitVec.toNat (rt.rS x7.a.toNat) / 2 ^ 8 %
      16 ∨ 2 ^ 12 ≤ BitVec.toNat (rt.rS x7.a.toNat) ∨ BitVec.toNat (rt.rS x7.a.toNat) / 2 ^ 8 % 16 < 8 ∧
      BitVec.toNat (rt.rS x7.a.toNat) / 2 ^ 4 % 16 ≠ 0))) ∧
    (rt.rP opY.g.toNat ^^^ opY.gn = (1 : BitVec 1) ∧ rt.shadowed = false ∧ (opY.kreg.toNat % 8 ≠ 7 ∧ (rt.cls
      (rt.cur / 1024) (opY.kreg.toNat % 8)).job = rt.pl.job) ∧ opY.kreg.toNat / 16 % 16 = 0 ∧ 0 = 0) ∧
    (rt.rP x8.g.toNat ^^^ x8.gn = (1 : BitVec 1) ∧ rt.shadowed = false ∧ (x8.kreg.toNat % 8 ≠ 7 ∧ (rt.cls
      (rt.cur / 1024) (x8.kreg.toNat % 8)).job = rt.pl.job) ∧ x8.kreg.toNat / 16 % 16 = 4 ∧ 4 = 4) ∧
    (rt.rP x9.g.toNat ^^^ x9.gn = (1 : BitVec 1) ∧ rt.shadowed = false ∧ x9.kreg.toNat / 16 % 16 = 5) ∧
    (rt.rP x10.g.toNat ^^^ x10.gn = (1 : BitVec 1) ∧ rt.shadowed = false ∧ x10.kreg.toNat / 16 % 16 = 6) ∧
    (rt.rP opY.g.toNat ^^^ opY.gn = (1 : BitVec 1) ∧ rt.shadowed = false ∧ (∀ (m : Msg), m ∈ rt.msgs → m.tid =
      rt.pl.firing.tid → m.kind ≤ 1 → m.packed = true ∨ m.lostM = true)) ∧
    ((msgS msg []).rP opY.g.toNat ^^^ opY.gn = (1 : BitVec 1) ∧ (msgS msg []).shadowed = false ∧ msg ∈ (msgS msg
      []).msgs ∧ msg.tid = (msgS msg []).pl.firing.tid ∧ msg.kind ≤ 1 ∧ msg.packed = false ∧ msg.lostM = false)
      ∧
    (x6.rP opY.g.toNat ^^^ opY.gn = (1 : BitVec 1) ∧ x6.shadowed = false ∧ readsLine x6 pg (BitVec.toNat (x6.rS
      opY.a.toNat)) ∧ (¬(fld (lineAt x6 pg (BitVec.toNat (x6.rS opY.a.toNat))) 8 3 ≠ 7 ∧ (x6.cls (x6.cur / 1024)
      (fld (lineAt x6 pg (BitVec.toNat (x6.rS opY.a.toNat))) 8 3)).job = x6.pl.job))) ∧
    (x11.rP opY.g.toNat ^^^ opY.gn = (1 : BitVec 1) ∧ x11.shadowed = false ∧ readsLine x11 pg (BitVec.toNat
      (x11.rS opY.a.toNat)) ∧ (fld (lineAt x11 pg (BitVec.toNat (x11.rS opY.a.toNat))) 8 3 ≠ 7 ∧ (x11.cls
      (x11.cur / 1024) (fld (lineAt x11 pg (BitVec.toNat (x11.rS opY.a.toNat))) 8 3)).job = x11.pl.job) ∧
      descBad (lineAt x11 pg (BitVec.toNat (x11.rS opY.a.toNat))) false = false ∧ x11.destOk x11.pl.job (fld
      (lineAt x11 pg (BitVec.toNat (x11.rS opY.a.toNat))) 32 22) (fld (lineAt x11 pg (BitVec.toNat (x11.rS
      opY.a.toNat))) 54 3) = false) ∧
    (x12.rP opY.g.toNat ^^^ opY.gn = (1 : BitVec 1) ∧ x12.shadowed = false ∧ readsLine x12 pg (BitVec.toNat
      (x12.rS opY.a.toNat)) ∧ (fld (lineAt x12 pg (BitVec.toNat (x12.rS opY.a.toNat))) 8 3 ≠ 7 ∧ (x12.cls
      (x12.cur / 1024) (fld (lineAt x12 pg (BitVec.toNat (x12.rS opY.a.toNat))) 8 3)).job = x12.pl.job) ∧
      descBad (lineAt x12 pg (BitVec.toNat (x12.rS opY.a.toNat))) false = false ∧ x12.destOk x12.pl.job (fld
      (lineAt x12 pg (BitVec.toNat (x12.rS opY.a.toNat))) 32 22) (fld (lineAt x12 pg (BitVec.toNat (x12.rS
      opY.a.toNat))) 54 3) = true ∧ x12.pathsFor (x12.cur / 1024) (fld (lineAt x12 pg (BitVec.toNat (x12.rS
      opY.a.toNat))) 8 3) (x12.targetOf x12.pl.job (fld (lineAt x12 pg (BitVec.toNat (x12.rS opY.a.toNat))) 32
      22) (fld (lineAt x12 pg (BitVec.toNat (x12.rS opY.a.toNat))) 54 3)) = []) ∧
    (rt.rP x13.g.toNat ^^^ x13.gn = (1 : BitVec 1) ∧ rt.shadowed = false ∧ (x13.kreg.toNat % 8 ≠ 7 ∧ (rt.cls
      (rt.cur / 1024) (x13.kreg.toNat % 8)).job = rt.pl.job) ∧ x13.kreg.toNat / 16 % 16 = 1 ∧ 1 = 1) ∧
    (rt.rP x14.g.toNat ^^^ x14.gn = (1 : BitVec 1) ∧ rt.shadowed = false ∧ (x14.kreg.toNat % 8 ≠ 7 ∧ (rt.cls
      (rt.cur / 1024) (x14.kreg.toNat % 8)).job = rt.pl.job) ∧ x14.kreg.toNat / 16 % 16 = 2 ∧ 2 = 2) ∧
    (rt.rP x15.g.toNat ^^^ x15.gn = (1 : BitVec 1) ∧ rt.shadowed = false ∧ (x15.kreg.toNat % 8 ≠ 7 ∧ (rt.cls
      (rt.cur / 1024) (x15.kreg.toNat % 8)).job = rt.pl.job) ∧ x15.kreg.toNat / 16 % 16 = 3 ∧ 3 = 3) :=
  by
  and_intros <;> first
    | exact fun x h1 h2 => cov (by decide +kernel) (by decide +kernel) (by decide +kernel) x h1 h2
    | decide +kernel
    | unfold readsLine; decide +kernel
    | exact fun _ => rfl

/-- The hypotheses of MessagesTravelAndPerform can be met together, clause by clause. -/
theorem witness_MessagesTravelAndPerform :
    ((msgS msg []).msgs = [msg] ∧ msg.mid ≠ 0 ∧ msg.todo = [0] ∧ msg.paths[msg.pos % msg.paths.length]? = some
      1) ∧
    ((msgS msg []).msgs = [msg] ∧ msg.mid ≠ 0 ∧ 0 < msg.k ∧ 2 < 256) ∧
    ((msgS msg []).msgs = [msg] ∧ msg.mid ≠ 0) ∧
    ((msgS msg [frgD 1]).msgs = [msg] ∧ msg.mid ≠ 0 ∧ (msgS msg [frgD 1]).wire[0]? = some (frgD 1) ∧ (frgD
      1).ports ≠ []) ∧
    ((msgS msg [frgH]).msgs = [msg] ∧ msg.mid ≠ 0 ∧ (msgS msg [frgH]).wire[0]? = some frgH ∧ (msgS msg
      [frgH]).mayCross frgH = true ∧ frgH.ports = [Port.die 0 1, Port.die 1 2]) ∧
    ((msgS msg [frgD 1]).msgs = [msg] ∧ msg.mid ≠ 0 ∧ ((msgS msg [frgD 1]).wire[0]? = some (frgD 1) ∧ (frgD
      1).ctl = 0 ∧ (msgS msg [frgD 1]).crosses (frgD 1) = true ∧ (frgD 1).dstEp = (msgS msg [frgD
      1]).pkg.endpoint ∧ (frgD 1).mid = msg.mid) ∧ msg.srcEp = (msgS msg [frgD 1]).pkg.endpoint ∧ ((msgS msg
      [frgD 1]).die msg.dstDie).slots = [] ∧ ((msgS msg [frgD 1]).die msg.dstDie).srcs = [] ∧ (frgD 1).k ≤ 1) ∧
    ((msgS msg [frgD 2]).msgs = [msg] ∧ msg.mid ≠ 0 ∧ ((msgS msg [frgD 2]).wire[0]? = some (frgD 2) ∧ (frgD
      2).ctl = 0 ∧ (msgS msg [frgD 2]).crosses (frgD 2) = true ∧ (frgD 2).dstEp = (msgS msg [frgD
      2]).pkg.endpoint ∧ (frgD 2).mid = msg.mid) ∧ msg.srcEp = (msgS msg [frgD 2]).pkg.endpoint ∧ ((msgS msg
      [frgD 2]).die msg.dstDie).slots = [] ∧ ((msgS msg [frgD 2]).die msg.dstDie).srcs = [] ∧ 1 < (frgD 2).k) ∧
    ((msgS msg []).msgs = [msg] ∧ msg.mid ≠ 0 ∧ fragOf outX.bytes = some outF ∧ outF.srcEp ≠ (msgS msg
      []).pkg.endpoint ∧ outF.dstEp = (msgS msg []).pkg.endpoint ∧ (¬outX.port ∈ (msgS msg []).pkg.extDown) ∧
      (msgS msg []).job outF.job = none ∧ (msgS msg []).pathsFor outF.dstDie outF.cls ((msgS msg []).targetOf
      outF.job outF.srcEp outF.die) ≠ []) ∧
    ((msgS msgD []).msgs = [msgD] ∧ msgD.mid ≠ 0 ∧ ((msgS msgD []).slice (msgD.dstDie * 64)).tlb = [pg] ∧
      BitVec.getLsbD pg.pte 2 = true ∧ msgD.len ≤ 4096 ∧ 1 ≤ msgD.len ∧ (∀ (a : Nat), msgD.raddr ≤ a → a <
      msgD.raddr + msgD.len → pg.covers ((msgS msgD []).asid msgD.job) a = true) ∧ (msgS msgD []).msgWaits msgD
      = false ∧ (∀ (q : Nat × Plane), q ∈ (msgS msgD []).planes → q.snd.stash = []) ∧ (∀ (q : Nat × Slice), q ∈
      (msgS msgD []).slices → q.snd.wins = []) ∧ (msgS msgD []).mayPerform msgD = true ∧ msgD.kind = 0 ∧
      msgD.srcEp = (msgS msgD []).pkg.endpoint ∧ msgD.data.length = msgD.len) ∧
    ((msgS msgG []).msgs = [msgG] ∧ msgG.mid ≠ 0 ∧ ((msgS msgG []).slice (msgG.dstDie * 64)).tlb = [pg] ∧
      BitVec.getLsbD pg.pte 2 = true ∧ msgG.len ≤ 4096 ∧ 1 ≤ msgG.len ∧ (∀ (a : Nat), msgG.raddr ≤ a → a <
      msgG.raddr + msgG.len → pg.covers ((msgS msgG []).asid msgG.job) a = true) ∧ (msgS msgG []).msgWaits msgG
      = false ∧ (∀ (q : Nat × Plane), q ∈ (msgS msgG []).planes → q.snd.stash = []) ∧ (∀ (q : Nat × Slice), q ∈
      (msgS msgG []).slices → q.snd.wins = []) ∧ (msgS msgG []).mayPerform msgG = true ∧ msgG.kind = 1 ∧ (msgS
      msgG []).msgBad msgG msgG.raddr msgG.len = false ∧ msgG.mid ≠ (msgS msgG []).serial ∧ (msgS msgG
      []).mayIssue msgG.dstDie msgG.srcEp msgG.die msgG.len = true ∧ (msgG.inside (msgS msgG []).pkg.endpoint =
      true ∨ (msgS msgG []).pathsFor msgG.dstDie msgG.cls ((msgS msgG []).targetOf msgG.job msgG.srcEp msgG.die)
      ≠ [])) ∧
    ((msgS msgR []).msgs = [msgR] ∧ msgR.mid ≠ 0 ∧ ((msgS msgR []).slice (msgR.dstDie * 64)).tlb = [pg] ∧
      BitVec.getLsbD pg.pte 2 = true ∧ msgR.len ≤ 4096 ∧ 1 ≤ msgR.len ∧ (∀ (a : Nat), msgR.raddr ≤ a → a <
      msgR.raddr + msgR.len → pg.covers ((msgS msgR []).asid msgR.job) a = true) ∧ (msgS msgR []).msgWaits msgR
      = false ∧ (∀ (q : Nat × Plane), q ∈ (msgS msgR []).planes → q.snd.stash = []) ∧ (∀ (q : Nat × Slice), q ∈
      (msgS msgR []).slices → q.snd.wins = []) ∧ (msgS msgR []).mayPerform msgR = true ∧ msgR.kind = 3 ∧
      msgR.srcEp = (msgS msgR []).pkg.endpoint ∧ msgR.data.length = msgR.len) ∧
    ((msgS msgO []).msgs = [msgO] ∧ msgO.mid ≠ 0 ∧ ((msgS msgO []).slice (msgO.dstDie * 64)).tlb = [pg] ∧
      BitVec.getLsbD pg.pte 2 = true ∧ msgO.len ≤ 4096 ∧ 1 ≤ msgO.len ∧ (∀ (a : Nat), msgO.raddr ≤ a → a <
      msgO.raddr + msgO.len → pg.covers ((msgS msgO []).asid msgO.job) a = true) ∧ (msgS msgO []).msgWaits msgO
      = false ∧ (∀ (q : Nat × Plane), q ∈ (msgS msgO []).planes → q.snd.stash = []) ∧ (∀ (q : Nat × Slice), q ∈
      (msgS msgO []).slices → q.snd.wins = []) ∧ (msgS msgO []).mayPerform msgO = true ∧ msgO.kind = 0 ∧
      msgO.srcEp ≠ (msgS msgO []).pkg.endpoint ∧ msgO.data.length = msgO.len ∧ msgO.mid < (msgS msgO []).serial
      ∧ (∀ (x : Nat × List Byte), (x ∈ if msgO.len ≤ 65536 - msgO.raddr % 65536 then [(msgO.raddr, msgO.data)]
      else [(msgO.raddr, List.take (65536 - msgO.raddr % 65536) msgO.data), (msgO.raddr + (65536 - msgO.raddr %
      65536), List.drop (65536 - msgO.raddr % 65536) msgO.data)]) → (msgS msgO []).mayIssueAll (if msgO.len ≤
      65536 - msgO.raddr % 65536 then [(msgO.raddr, msgO.data)] else [(msgO.raddr, List.take (65536 - msgO.raddr
      % 65536) msgO.data), (msgO.raddr + (65536 - msgO.raddr % 65536), List.drop (65536 - msgO.raddr % 65536)
      msgO.data)]).length ((msgS msgO []).decodes msgO).fst (if (physOf pg.pte pg.level x.fst).die < 8 then
      (msgS msgO []).pkg.endpoint else podEp ((physOf pg.pte pg.level x.fst).die / 8 - 1)) ((physOf pg.pte
      pg.level x.fst).die % 8) msgO.len = true)) ∧
    ((msgS msgO3 []).msgs = [msgO3] ∧ msgO3.mid ≠ 0 ∧ ((msgS msgO3 []).slice (msgO3.dstDie * 64)).tlb = [pg] ∧
      BitVec.getLsbD pg.pte 2 = true ∧ msgO3.len ≤ 4096 ∧ 1 ≤ msgO3.len ∧ (∀ (a : Nat), msgO3.raddr ≤ a → a <
      msgO3.raddr + msgO3.len → pg.covers ((msgS msgO3 []).asid msgO3.job) a = true) ∧ (msgS msgO3 []).msgWaits
      msgO3 = false ∧ (∀ (q : Nat × Plane), q ∈ (msgS msgO3 []).planes → q.snd.stash = []) ∧ (∀ (q : Nat ×
      Slice), q ∈ (msgS msgO3 []).slices → q.snd.wins = []) ∧ (msgS msgO3 []).mayPerform msgO3 = true ∧
      msgO3.kind = 3 ∧ msgO3.srcEp ≠ (msgS msgO3 []).pkg.endpoint ∧ msgO3.data.length = msgO3.len ∧ msgO3.mid <
      (msgS msgO3 []).serial ∧ (∀ (x : Nat × List Byte), (x ∈ if msgO3.len ≤ 65536 - msgO3.raddr % 65536 then
      [(msgO3.raddr, msgO3.data)] else [(msgO3.raddr, List.take (65536 - msgO3.raddr % 65536) msgO3.data),
      (msgO3.raddr + (65536 - msgO3.raddr % 65536), List.drop (65536 - msgO3.raddr % 65536) msgO3.data)]) →
      (msgS msgO3 []).mayIssueAll (if msgO3.len ≤ 65536 - msgO3.raddr % 65536 then [(msgO3.raddr, msgO3.data)]
      else [(msgO3.raddr, List.take (65536 - msgO3.raddr % 65536) msgO3.data), (msgO3.raddr + (65536 -
      msgO3.raddr % 65536), List.drop (65536 - msgO3.raddr % 65536) msgO3.data)]).length ((msgS msgO3
      []).decodes msgO3).fst (if (physOf pg.pte pg.level x.fst).die < 8 then (msgS msgO3 []).pkg.endpoint else
      podEp ((physOf pg.pte pg.level x.fst).die / 8 - 1)) ((physOf pg.pte pg.level x.fst).die % 8) msgO3.len =
      true)) ∧
    ((msgS msg [frgC 1]).msgs = [msg] ∧ msg.mid ≠ 0 ∧ ((msgS msg [frgC 1]).wire[0]? = some (frgC 1) ∧ (frgC
      1).ctl = 1 ∧ (msgS msg [frgC 1]).crosses (frgC 1) = true ∧ (frgC 1).dstEp = (msgS msg [frgC
      1]).pkg.endpoint ∧ (frgC 1).mid = msg.mid) ∧ msg.lostM = false) ∧
    ((msgS msg [frgC 2]).msgs = [msg] ∧ msg.mid ≠ 0 ∧ ((msgS msg [frgC 2]).wire[0]? = some (frgC 2) ∧ (frgC
      2).ctl = 2 ∧ (msgS msg [frgC 2]).crosses (frgC 2) = true ∧ (frgC 2).dstEp = (msgS msg [frgC
      2]).pkg.endpoint ∧ (frgC 2).mid = msg.mid) ∧ msg.packed = false ∧ msg.lostM = false ∧ msg.kind ≤ 3) ∧
    (msgAS.msgs = [msgA] ∧ msgA.mid ≠ 0 ∧ (msgAS.wire[0]? = some (frgC 2) ∧ (frgC 2).ctl = 2 ∧ msgAS.crosses
      (frgC 2) = true ∧ (frgC 2).dstEp = msgAS.pkg.endpoint ∧ (frgC 2).mid = msgA.mid) ∧ msgA.packed = false ∧
      msgA.lostM = false ∧ msgA.kind = 4 ∧ (msgAS.plane msgA.pid).memq = [opA4] ∧ opA4.isMsg msgA.pid msgA =
      true ∧ opA4.got = some 171 ∧ opA4.dst = Dest.sreg 6 ∧ 6 ≠ 0 ∧ notParked msgAS msgA.pid opA4.tid opA4.fid)
      ∧
    ((msgS msg [frgC 3]).msgs = [msg] ∧ msg.mid ≠ 0 ∧ ((msgS msg [frgC 3]).wire[0]? = some (frgC 3) ∧ (frgC
      3).ctl = 3 ∧ (msgS msg [frgC 3]).crosses (frgC 3) = true ∧ (frgC 3).dstEp = (msgS msg [frgC
      3]).pkg.endpoint ∧ (frgC 3).mid = msg.mid) ∧ msg.dacked = false ∧ msg.resent = false ∧ msg.unresolved =
      true ∧ (msgS msg [frgC 3]).pathsFor msg.die msg.cls ((msgS msg [frgC 3]).targetOf msg.job msg.dstEp
      msg.dstDie) ≠ []) ∧
    ((msgS msg [frgC 4]).msgs = [msg] ∧ msg.mid ≠ 0 ∧ ((msgS msg [frgC 4]).wire[0]? = some (frgC 4) ∧ (frgC
      4).ctl = 4 ∧ (msgS msg [frgC 4]).crosses (frgC 4) = true ∧ (frgC 4).dstEp = (msgS msg [frgC
      4]).pkg.endpoint ∧ (frgC 4).mid = msg.mid) ∧ msg.dacked = false ∧ msg.unresolved = true ∧ msg.kind ≠ 2 ∧
      msg.kind ≠ 4 ∧ (msgS msg [frgC 4]).take msg.tid = some take7 ∧ take7.tid = msg.tid ∧ take7.failing = false
      ∧ take7.colour ≠ 15 ∧ (msgS msg [frgC 4]).region take7.region = some rgn ∧ rgn.place = Placement.eligible
      ∧ rgn.image.handler = some 0) ∧
    ((msgS msgE []).msgs = [msgE] ∧ msgE.mid ≠ 0 ∧ ansE.reject = true ∧ ansE.ep ≠ (msgS msgE []).pkg.endpoint ∧
      msgE.srcEp = (msgS msgE []).pkg.endpoint ∧ msgE.die = ansE.dstDie ∧ msgE.dstEp = ansE.ep ∧ msgE.dstDie =
      ansE.die ∧ msgE.msgid = ansE.msgid ∧ msgE.unresolved = true ∧ msgE.todo.length < msgE.total) ∧
    ((msgS msg [frgC5]).msgs = [msg] ∧ msg.mid ≠ 0 ∧ ((msgS msg [frgC5]).wire[0]? = some frgC5 ∧ frgC5.ctl = 5 ∧
      (msgS msg [frgC5]).crosses frgC5 = true ∧ frgC5.dstEp = (msgS msg [frgC5]).pkg.endpoint ∧ frgC5.mid =
      msg.mid) ∧ msg.decoded = false ∧ msg.srcEp = (msgS msg [frgC5]).pkg.endpoint ∧ ((msgS msg [frgC5]).die
      msg.dstDie).srcs = []) ∧
    ((msgS msgD [frgC5]).msgs = [msgD] ∧ msgD.mid ≠ 0 ∧ ((msgS msgD [frgC5]).wire[0]? = some frgC5 ∧ frgC5.ctl =
      5 ∧ (msgS msgD [frgC5]).crosses frgC5 = true ∧ frgC5.dstEp = (msgS msgD [frgC5]).pkg.endpoint ∧ frgC5.mid
      = msgD.mid) ∧ msgD.decoded = true) ∧
    (msgXS.msgs = [msgX, msgY] ∧ msgX.mid ≠ msgY.mid ∧ msgY.access = msgX.mid ∧ msgY.kind = 5 ∧ msgX.kind ≠ 5 ∧
      msgXS.mayPerform msgY = true ∧ msgXS.msgWaits msgY = false ∧ msgY.data.length = msgY.len ∧ 1 ≤ msgY.len ∧
      msgY.len ≤ 4096 ∧ (∀ (q : Nat × Plane), q ∈ msgXS.planes → q.snd.stash = []) ∧ (∀ (q : Nat × Slice), q ∈
      msgXS.slices → q.snd.wins = [])) :=
  by
  and_intros <;> first
    | exact fun x h1 h2 => cov (by decide +kernel) (by decide +kernel) (by decide +kernel) x h1 h2
    | decide +kernel
    | unfold notParked; decide +kernel

/-- The hypotheses of MessageTimeoutsAndBridges can be met together, clause by clause. -/
theorem witness_MessageTimeoutsAndBridges :
    ((rx 0).msgs = [msg] ∧ ((rx 0).die 1).slots = [rxs 0] ∧ (rxs 0).mid = msg.mid ∧ (rxs 0).opened + ((rx 0).die
      1).tout ≤ (rx 0).clk ∧ msg.dstDie = 1 ∧ msg.srcEp = (rx 0).pkg.endpoint ∧ (rxs 0).timeouts = 0) ∧
    ((rx 1).msgs = [msg] ∧ ((rx 1).die 1).slots = [rxs 1] ∧ (rxs 1).mid = msg.mid ∧ (rxs 1).opened + ((rx 1).die
      1).tout ≤ (rx 1).clk ∧ msg.dstDie = 1 ∧ msg.srcEp = (rx 1).pkg.endpoint ∧ (rxs 1).timeouts ≠ 0) ∧
    ((msgS mL []).msgs = [mL] ∧ mL.unresolved = true ∧ mL.dacked = false ∧ (mL.todo = [] ∧ mL.lastSent + 3 *
      ((msgS mL []).die mL.die).tout ≤ (msgS mL []).clk) ∧ mL.resent = false ∧ (msgS mL []).pathsFor mL.die
      mL.cls ((msgS mL []).targetOf mL.job mL.dstEp mL.dstDie) ≠ []) ∧
    ((msgS mR []).msgs = [mR] ∧ mR.unresolved = true ∧ mR.dacked = false ∧ (mR.todo = [] ∧ mR.lastSent + 3 *
      ((msgS mR []).die mR.die).tout ≤ (msgS mR []).clk) ∧ mR.resent = true ∧ mR.aborting = false) ∧
    ((msgS mA []).msgs = [mA] ∧ mA.unresolved = true ∧ mA.dacked = false ∧ mA.aborting = true ∧ mA.abortAt + 3 *
      ((msgS mA []).die mA.die).tout ≤ (msgS mA []).clk ∧ (msgS mA []).lossHeld mA = false) ∧
    ((exS.die 0).dsts[0]? = some de ∧ de.last + 7200000 ≤ exS.clk) ∧
    ((exS.die 0).srcs[0]? = some se ∧ se.last + 3600000 ≤ exS.clk) ∧
    ((msgS msg [frgD 1]).wire = [frgD 1] ∧ 1 < 4 ∧ (frgD 1).ports.head? = some (Port.die 0 1) ∧ ((msgS msg [frgD
      1]).die 0).portDown.getLsbD 1 = false ∧ look 0 ((msgS msg [frgD 1]).die 0).portLast 1 + 2 * ((msgS msg
      [frgD 1]).die 0).tout ≤ (msgS msg [frgD 1]).clk) ∧
    ((msgS msg [frgX]).wire = [frgX] ∧ frgX.ports.head? = some (Port.ext 3) ∧ (¬3 ∈ (msgS msg
      [frgX]).pkg.extDown) ∧ look 0 (msgS msg [frgX]).pkg.extLast 3 + 2 * ((msgS msg [frgX]).die 0).tout ≤ (msgS
      msg [frgX]).clk) ∧
    ((brgS brg).bridge 0 2 = some brg ∧ 2 < 64 ∧ (brgS brg).bridgeEnds 0 brg = some ((rg, 0), rgD) ∧ (brgS
      brg).upToMark rg brg.flvl (List.take (min 62 (brg.grant - brg.sent)) (rg.upNext 0)) = ([0, 1, 2], true) ∧
      [0, 1, 2] ≠ [] ∧ (true = true ∨ [0, 1, 2].length = 62 ∨ brg.sent + [0, 1, 2].length = brg.grant ∨ ∃ n x,
      [0, 1, 2].head? = some n ∧ find rg.slots n = some x ∧ max x.filledAt (look 0 rg.since 0) + 64 ≤ (brgS
      brg).clk) ∧ brg.stopped = false ∧ brg.lost = none ∧ rg.isLive 0 = true ∧ (brgS brg).pathsFor 0 brg.cls
      brg.far ≠ [] ∧ (brgS brg).mayIssue 0 (brgS brg).pkg.endpoint brg.far ((brgS brg).streamData rg [0, 1,
      2]).length = true ∧ (brgS brg).ring rg.key = some rg) ∧
    ((brgS brg).bridge 0 2 = some brg ∧ 2 < 64 ∧ (brgS brg).bridgeEnds 0 brg = some ((rg, 0), rgD) ∧ brg.ended =
      false ∧ rgD.queue = [] ∧ min (brg.gwin - brg.claimed.length) rgD.free ≠ 0 ∧ (brgS brg).ring rgD.key = some
      rgD ∧ brg.grantSent ≤ brg.claimedCount) ∧
    (brAS.bridge 0 2 = some brA ∧ 2 < 64 ∧ brAS.bridgeEnds 0 brA = some ((rg, 0), rgD) ∧ brAS.msgs = [msgB] ∧
      msgB.kind = 2 ∧ msgB.bridge = 0 * 64 + 2 ∧ brAS.mayPerform msgB = true ∧ brA.ended = false ∧ msgB.first =
      brA.filledCount ∧ (msgB.data.length - 128) / 64 ≤ brA.claimed.length ∧ brAS.ring rgD.key = some rgD ∧
      rgD.live ≠ (0 : BitVec 8) ∧ brAS.exits = []) ∧
    (brLS.bridge 0 2 = some brL ∧ 2 < 64 ∧ brLS.bridgeEnds 0 brL = some ((rg, 0), rgD) ∧ brL.stopped = false ∧
      brL.lost = some (2, 9) ∧ brLS.takeOf (regionKey brL.job 0 (fld brL.record 176 8)) 2 = some take7 ∧
      brLS.take take7.tid = some take7) ∧
    (brBS.bridge 0 2 = some brB ∧ 2 < 64 ∧ brBS.bridgeEnds 0 brB = some ((rg, 0), rgD2) ∧ brB.lost = none ∧
      brB.broken = some 2 ∧ brB.ended = false ∧ 2 ≤ brB.claimed.length ∧ brBS.exitFull rgD2.key 2 = false) :=
  by
  and_intros <;> first
    | decide +kernel
    | exact Or.inl (by decide +kernel)

end Sys2Proof.Tests.Fragments
end

