-- ==== Sys2Proof/Tests/Frontiers.lean ====
section
/-!
SUPPORT. For each hypothesis list of the frontier statements, a concrete state and operands that meet all of it together:
one conjunct for each clause of a statement.
-/
namespace Sys2Proof.Tests.Frontiers
open Sys2Proof Sys2Proof.Machine Sys2Proof.Tests
set_option maxRecDepth 20000
set_option Elab.async false

def oF : OpK := {opY with d := 7}
def x1 := {opY with a := 5}
def x2 := (frS 0 {})
def x3 := (Instr.fsave {opY with a := 5})
def noMem : State := {frS 0 {} with mem := []}
def noTm : State := {frS 0 {} with jobs := [(1, jbW)]}
def big : State := {frS 0 {} with mem := [(133, 64)]}
def x4 : Frontier := {state := .run, desc := BitVec.ofNat 512 ((frS 0 {}).num 64 64)}
def oF5 : OpK := {oF with a := 5}
def frZ : State := {frS 1 {fr1 with region := 2048} with regions := [(2048, {rgn with place := .evicted})]}
def frB : Frontier := {fr3 with desc := frDesc ||| (1#512 <<< 24), rows := []}
def frX : Frontier := {fr3 with desc := frDesc ||| (1#512 <<< 25), rows := [], tid := 7}
def frXS : State := {frS 0 frX with takes := [(7, take7)], regions := [(2048, rgn)]}
def frO : Frontier := {fr3 with desc := frDesc ||| (4#512) ||| (1#512 <<< 240) ||| (1#512 <<< 243), strm := some hd, colour := 2}
def frOS : State := {rings {rg with reclaim := 2, slots := [(2, {filled := true})]} plR with cores := [(0, {fr := frO})]}
def x5 := {rg with reclaim := 2, slots := [(2, {filled := true})]}
def frD : Frontier := {fr3 with desc := frDesc ||| (0x8003#512 <<< 224), rowlo := 1, rows := []}
def frDS : State := {frS 0 frD with dies := [(0, {deps := [(3, 5)]})]}
def frV : Frontier := {fr3 with state := .saving, saveVa := 64, saveFid := 3, saveD := 6, saveTid := 7}
def plV : Plane := {plG with firing := {fir with wait := .save}}
def frVS : State := {frS 0 frV with planes := [(0, plV)], mem := [(65536, 7)]}
def x6 := {fr3 with rows := [(0, {pfx := 1, bitmap := 6})]}
def x7 : FrRow := {pfx := 1, bitmap := 6}

/-- The hypotheses of FrontierInstructions can be met together, clause by clause. -/
theorem witness_FrontierInstructions :
    (x2.rP x1.g.toNat ^^^ x1.gn = (1 : BitVec 1) ∧ (BitVec.toNat (x2.rS x1.a.toNat) % 64 ≠ 0 ∨ 2 ^ 52 ≤
      BitVec.toNat (x2.rS x1.a.toNat)) ∧ x3 ∈ [Instr.front x1, Instr.fsave x1, Instr.frest x1]) ∧
    ((frS 0 fr3).rP opY.g.toNat ^^^ opY.gn = (1 : BitVec 1) ∧ readsLine (frS 0 fr3) pg2 (BitVec.toNat ((frS 0
      fr3).rS opY.a.toNat)) ∧ ((frS 0 fr3).frontier ((frS 0 fr3).cur / 1024 * 16 + opY.kreg.toNat % 16)).state ≠
      FrState.idle) ∧
    (noMem.rP opY.g.toNat ^^^ opY.gn = (1 : BitVec 1) ∧ readsLine noMem pg2 (BitVec.toNat (noMem.rS
      opY.a.toNat)) ∧ (noMem.frontier (noMem.cur / 1024 * 16 + opY.kreg.toNat % 16)).state = FrState.idle ∧
      (frOk (lineAt noMem pg2 (BitVec.toNat (noMem.rS opY.a.toNat))) false = false ∨ noMem.streamOk (lineAt
      noMem pg2 (BitVec.toNat (noMem.rS opY.a.toNat))) = false)) ∧
    (x2.rP opY.g.toNat ^^^ opY.gn = (1 : BitVec 1) ∧ readsLine x2 pg2 (BitVec.toNat (x2.rS opY.a.toNat)) ∧
      (x2.frontier (x2.cur / 1024 * 16 + opY.kreg.toNat % 16)).state = FrState.idle ∧ frOk (lineAt x2 pg2
      (BitVec.toNat (x2.rS opY.a.toNat))) false = true ∧ nothingWaits x2 ∧ x2.streamOk (lineAt x2 pg2
      (BitVec.toNat (x2.rS opY.a.toNat))) = true ∧ readsLine x2 pg2 (frTmpl (lineAt x2 pg2 (BitVec.toNat (x2.rS
      opY.a.toNat)))) ∧ (frBoundary (lineAt x2 pg2 (BitVec.toNat (x2.rS opY.a.toNat))) = true → readsLine x2 pg2
      (frBtmpl (lineAt x2 pg2 (BitVec.toNat (x2.rS opY.a.toNat))))) ∧ frBtmpl (lineAt x2 pg2 (BitVec.toNat
      (x2.rS opY.a.toNat))) < 2 ^ 52 ∧ x2.templateOk (x2.cur / 1024) x2.pl.job (lineAt x2 pg2 (frTmpl (lineAt x2
      pg2 (BitVec.toNat (x2.rS opY.a.toNat))))) = true ∧ (frBoundary (lineAt x2 pg2 (BitVec.toNat (x2.rS
      opY.a.toNat))) = true → x2.templateOk (x2.cur / 1024) x2.pl.job (lineAt x2 pg2 (frBtmpl (lineAt x2 pg2
      (BitVec.toNat (x2.rS opY.a.toNat))))) = true)) ∧
    (noTm.rP opY.g.toNat ^^^ opY.gn = (1 : BitVec 1) ∧ readsLine noTm pg2 (BitVec.toNat (noTm.rS opY.a.toNat)) ∧
      (noTm.frontier (noTm.cur / 1024 * 16 + opY.kreg.toNat % 16)).state = FrState.idle ∧ frOk (lineAt noTm pg2
      (BitVec.toNat (noTm.rS opY.a.toNat))) false = true ∧ nothingWaits noTm ∧ noTm.streamOk (lineAt noTm pg2
      (BitVec.toNat (noTm.rS opY.a.toNat))) = true ∧ frBtmpl (lineAt noTm pg2 (BitVec.toNat (noTm.rS
      opY.a.toNat))) < 2 ^ 52 ∧ readsLine noTm pg2 (frTmpl (lineAt noTm pg2 (BitVec.toNat (noTm.rS
      opY.a.toNat)))) ∧ noTm.templateOk (noTm.cur / 1024) noTm.pl.job (lineAt noTm pg2 (frTmpl (lineAt noTm pg2
      (BitVec.toNat (noTm.rS opY.a.toNat))))) = false) ∧
    ((frS 0 fr3).rP opY.g.toNat ^^^ opY.gn = (1 : BitVec 1) ∧ readsLine (frS 0 fr3) pg2 (BitVec.toNat ((frS 0
      fr3).rS opY.a.toNat)) ∧ readsLine (frS 0 fr3) pg2 (BitVec.toNat ((frS 0 fr3).rS opY.a.toNat) + 64) ∧
      nothingWaits (frS 0 fr3) ∧ ((frS 0 fr3).frontier ((frS 0 fr3).cur / 1024 * 16 + opY.kreg.toNat %
      16)).state ≠ FrState.idle) ∧
    (big.rP opY.g.toNat ^^^ opY.gn = (1 : BitVec 1) ∧ readsLine big pg2 (BitVec.toNat (big.rS opY.a.toNat)) ∧
      readsLine big pg2 (BitVec.toNat (big.rS opY.a.toNat) + 64) ∧ nothingWaits big ∧ (big.frontier (big.cur /
      1024 * 16 + opY.kreg.toNat % 16)).state = FrState.idle ∧ 98432 < 128 + 8 * fld (lineAt big pg2
      (BitVec.toNat (big.rS opY.a.toNat) + 64)) 32 16 + 16 * fld (lineAt big pg2 (BitVec.toNat (big.rS
      opY.a.toNat) + 64)) 48 16) ∧
    (noMem.rP opY.g.toNat ^^^ opY.gn = (1 : BitVec 1) ∧ readsLine noMem pg2 (BitVec.toNat (noMem.rS
      opY.a.toNat)) ∧ readsLine noMem pg2 (BitVec.toNat (noMem.rS opY.a.toNat) + 64) ∧ nothingWaits noMem ∧
      (noMem.frontier (noMem.cur / 1024 * 16 + opY.kreg.toNat % 16)).state = FrState.idle ∧ 128 + 8 * fld
      (lineAt noMem pg2 (BitVec.toNat (noMem.rS opY.a.toNat) + 64)) 32 16 + 16 * fld (lineAt noMem pg2
      (BitVec.toNat (noMem.rS opY.a.toNat) + 64)) 48 16 ≤ 98432 ∧ (∀ (a : Nat), BitVec.toNat (noMem.rS
      opY.a.toNat) ≤ a → a < BitVec.toNat (noMem.rS opY.a.toNat) + (128 + 8 * fld (lineAt noMem pg2
      (BitVec.toNat (noMem.rS opY.a.toNat) + 64)) 32 16 + 16 * fld (lineAt noMem pg2 (BitVec.toNat (noMem.rS
      opY.a.toNat) + 64)) 48 16) → pg2.covers (noMem.asid noMem.pl.job) a = true) ∧ noMem.rangeBad noMem.pl.job
      (BitVec.toNat (noMem.rS opY.a.toNat)) (128 + 8 * fld (lineAt noMem pg2 (BitVec.toNat (noMem.rS
      opY.a.toNat) + 64)) 32 16 + 16 * fld (lineAt noMem pg2 (BitVec.toNat (noMem.rS opY.a.toNat) + 64)) 48 16)
      = false ∧ frOf (noMem.bytesVa noMem.pl.job (BitVec.toNat (noMem.rS opY.a.toNat)) (128 + 8 * fld (lineAt
      noMem pg2 (BitVec.toNat (noMem.rS opY.a.toNat) + 64)) 32 16 + 16 * fld (lineAt noMem pg2 (BitVec.toNat
      (noMem.rS opY.a.toNat) + 64)) 48 16)) = none) ∧
    (x2.rP opY.g.toNat ^^^ opY.gn = (1 : BitVec 1) ∧ readsLine x2 pg2 (BitVec.toNat (x2.rS opY.a.toNat)) ∧
      readsLine x2 pg2 (BitVec.toNat (x2.rS opY.a.toNat) + 64) ∧ nothingWaits x2 ∧ (x2.frontier (x2.cur / 1024 *
      16 + opY.kreg.toNat % 16)).state = FrState.idle ∧ 128 + 8 * fld (lineAt x2 pg2 (BitVec.toNat (x2.rS
      opY.a.toNat) + 64)) 32 16 + 16 * fld (lineAt x2 pg2 (BitVec.toNat (x2.rS opY.a.toNat) + 64)) 48 16 ≤ 98432
      ∧ (∀ (a : Nat), BitVec.toNat (x2.rS opY.a.toNat) ≤ a → a < BitVec.toNat (x2.rS opY.a.toNat) + (128 + 8 *
      fld (lineAt x2 pg2 (BitVec.toNat (x2.rS opY.a.toNat) + 64)) 32 16 + 16 * fld (lineAt x2 pg2 (BitVec.toNat
      (x2.rS opY.a.toNat) + 64)) 48 16) → pg2.covers (x2.asid x2.pl.job) a = true) ∧ x2.rangeBad x2.pl.job
      (BitVec.toNat (x2.rS opY.a.toNat)) (128 + 8 * fld (lineAt x2 pg2 (BitVec.toNat (x2.rS opY.a.toNat) + 64))
      32 16 + 16 * fld (lineAt x2 pg2 (BitVec.toNat (x2.rS opY.a.toNat) + 64)) 48 16) = false ∧ frOf (x2.bytesVa
      x2.pl.job (BitVec.toNat (x2.rS opY.a.toNat)) (128 + 8 * fld (lineAt x2 pg2 (BitVec.toNat (x2.rS
      opY.a.toNat) + 64)) 32 16 + 16 * fld (lineAt x2 pg2 (BitVec.toNat (x2.rS opY.a.toNat) + 64)) 48 16)) =
      some x4 ∧ x2.streamOk x4.desc = true ∧ readsLine x2 pg2 (frTmpl x4.desc) ∧ (frBoundary x4.desc = true →
      readsLine x2 pg2 (frBtmpl x4.desc)) ∧ frBtmpl x4.desc < 2 ^ 52 ∧ x2.templateOk (x2.cur / 1024) x2.pl.job
      (lineAt x2 pg2 (frTmpl x4.desc)) = true ∧ (frBoundary x4.desc = true → x2.templateOk (x2.cur / 1024)
      x2.pl.job (lineAt x2 pg2 (frBtmpl x4.desc)) = true)) ∧
    ((frS 1 fr1).rP opY.g.toNat ^^^ opY.gn = (1 : BitVec 1) ∧ (frS 1 fr1).released = true ∧ (frS 1
      fr1).pl.acquired (frS 1 fr1).pl.firing.fid = true ∧ (frS 1 fr1).pl.memq = [] ∧ (frS 1 fr1).pl.stash = [] ∧
      (¬(BitVec.toNat ((frS 1 fr1).rS opY.d.toNat) = (BitVec.toNat ((frS 1 fr1).rS opY.d.toNat) % 16 + ((frS 1
      fr1).frontier ((frS 1 fr1).cur / 1024 * 16 + BitVec.toNat ((frS 1 fr1).rS opY.d.toNat) % 16)).ticket *
      256) % 2 ^ 64 ∧ ((frS 1 fr1).frontier ((frS 1 fr1).cur / 1024 * 16 + BitVec.toNat ((frS 1 fr1).rS
      opY.d.toNat) % 16)).job = (frS 1 fr1).pl.job))) ∧
    ((frS 1 fr1).rP oF5.g.toNat ^^^ oF5.gn = (1 : BitVec 1) ∧ (frS 1 fr1).released = true ∧ (frS 1
      fr1).pl.acquired (frS 1 fr1).pl.firing.fid = true ∧ (frS 1 fr1).pl.memq = [] ∧ (frS 1 fr1).pl.stash = [] ∧
      (BitVec.toNat ((frS 1 fr1).rS oF5.d.toNat) = (BitVec.toNat ((frS 1 fr1).rS oF5.d.toNat) % 16 + ((frS 1
      fr1).frontier ((frS 1 fr1).cur / 1024 * 16 + BitVec.toNat ((frS 1 fr1).rS oF5.d.toNat) % 16)).ticket *
      256) % 2 ^ 64 ∧ ((frS 1 fr1).frontier ((frS 1 fr1).cur / 1024 * 16 + BitVec.toNat ((frS 1 fr1).rS
      oF5.d.toNat) % 16)).job = (frS 1 fr1).pl.job) ∧ (frS 1 fr1).frFrozen ((frS 1 fr1).cur / 1024 * 16 +
      BitVec.toNat ((frS 1 fr1).rS oF5.d.toNat) % 16) = false ∧ (((frS 1 fr1).frontier ((frS 1 fr1).cur / 1024 *
      16 + BitVec.toNat ((frS 1 fr1).rS oF5.d.toNat) % 16)).state = FrState.idle ∨ ¬(BitVec.toNat ((frS 1
      fr1).rS oF5.a.toNat) % 2 ^ 21, BitVec.toNat ((frS 1 fr1).rS oF5.a.toNat) / 2 ^ 21 % 2 ^ 21, BitVec.toNat
      ((frS 1 fr1).rS oF5.a.toNat) / 2 ^ 42 % 2 ^ 21) ∈ ((frS 1 fr1).frontier ((frS 1 fr1).cur / 1024 * 16 +
      BitVec.toNat ((frS 1 fr1).rS oF5.d.toNat) % 16)).flight)) ∧
    ((frS 1 fr1).rP oF.g.toNat ^^^ oF.gn = (1 : BitVec 1) ∧ (frS 1 fr1).released = true ∧ (frS 1
      fr1).pl.acquired (frS 1 fr1).pl.firing.fid = true ∧ (frS 1 fr1).pl.memq = [] ∧ (frS 1 fr1).pl.stash = [] ∧
      (BitVec.toNat ((frS 1 fr1).rS oF.d.toNat) = (BitVec.toNat ((frS 1 fr1).rS oF.d.toNat) % 16 + ((frS 1
      fr1).frontier ((frS 1 fr1).cur / 1024 * 16 + BitVec.toNat ((frS 1 fr1).rS oF.d.toNat) % 16)).ticket * 256)
      % 2 ^ 64 ∧ ((frS 1 fr1).frontier ((frS 1 fr1).cur / 1024 * 16 + BitVec.toNat ((frS 1 fr1).rS oF.d.toNat) %
      16)).job = (frS 1 fr1).pl.job) ∧ (frS 1 fr1).frFrozen ((frS 1 fr1).cur / 1024 * 16 + BitVec.toNat ((frS 1
      fr1).rS oF.d.toNat) % 16) = false ∧ ((frS 1 fr1).frontier ((frS 1 fr1).cur / 1024 * 16 + BitVec.toNat
      ((frS 1 fr1).rS oF.d.toNat) % 16)).state ≠ FrState.idle ∧ (BitVec.toNat ((frS 1 fr1).rS oF.a.toNat) % 2 ^
      21, BitVec.toNat ((frS 1 fr1).rS oF.a.toNat) / 2 ^ 21 % 2 ^ 21, BitVec.toNat ((frS 1 fr1).rS oF.a.toNat) /
      2 ^ 42 % 2 ^ 21) ∈ ((frS 1 fr1).frontier ((frS 1 fr1).cur / 1024 * 16 + BitVec.toNat ((frS 1 fr1).rS
      oF.d.toNat) % 16)).flight ∧ (((frS 1 fr1).frontier ((frS 1 fr1).cur / 1024 * 16 + BitVec.toNat ((frS 1
      fr1).rS oF.d.toNat) % 16)).row (((frS 1 fr1).frontier ((frS 1 fr1).cur / 1024 * 16 + BitVec.toNat ((frS 1
      fr1).rS oF.d.toNat) % 16)).rowOf (BitVec.toNat ((frS 1 fr1).rS oF.a.toNat) % 2 ^ 21, BitVec.toNat ((frS 1
      fr1).rS oF.a.toNat) / 2 ^ 21 % 2 ^ 21, BitVec.toNat ((frS 1 fr1).rS oF.a.toNat) / 2 ^ 42 % 2 ^ 21))).pfx ≤
      (BitVec.toNat ((frS 1 fr1).rS oF.a.toNat) % 2 ^ 21, BitVec.toNat ((frS 1 fr1).rS oF.a.toNat) / 2 ^ 21 % 2
      ^ 21, BitVec.toNat ((frS 1 fr1).rS oF.a.toNat) / 2 ^ 42 % 2 ^ 21).fst ∧ (BitVec.toNat ((frS 1 fr1).rS
      oF.a.toNat) % 2 ^ 21, BitVec.toNat ((frS 1 fr1).rS oF.a.toNat) / 2 ^ 21 % 2 ^ 21, BitVec.toNat ((frS 1
      fr1).rS oF.a.toNat) / 2 ^ 42 % 2 ^ 21).fst < (((frS 1 fr1).frontier ((frS 1 fr1).cur / 1024 * 16 +
      BitVec.toNat ((frS 1 fr1).rS oF.d.toNat) % 16)).row (((frS 1 fr1).frontier ((frS 1 fr1).cur / 1024 * 16 +
      BitVec.toNat ((frS 1 fr1).rS oF.d.toNat) % 16)).rowOf (BitVec.toNat ((frS 1 fr1).rS oF.a.toNat) % 2 ^ 21,
      BitVec.toNat ((frS 1 fr1).rS oF.a.toNat) / 2 ^ 21 % 2 ^ 21, BitVec.toNat ((frS 1 fr1).rS oF.a.toNat) / 2 ^
      42 % 2 ^ 21))).pfx + 64) ∧
    (frZ.rP oF.g.toNat ^^^ oF.gn = (1 : BitVec 1) ∧ frZ.released = true ∧ frZ.pl.acquired frZ.pl.firing.fid =
      true ∧ frZ.pl.memq = [] ∧ frZ.pl.stash = [] ∧ (BitVec.toNat (frZ.rS oF.d.toNat) = (BitVec.toNat (frZ.rS
      oF.d.toNat) % 16 + (frZ.frontier (frZ.cur / 1024 * 16 + BitVec.toNat (frZ.rS oF.d.toNat) % 16)).ticket *
      256) % 2 ^ 64 ∧ (frZ.frontier (frZ.cur / 1024 * 16 + BitVec.toNat (frZ.rS oF.d.toNat) % 16)).job =
      frZ.pl.job) ∧ frZ.frFrozen (frZ.cur / 1024 * 16 + BitVec.toNat (frZ.rS oF.d.toNat) % 16) = true) ∧
    ((frS 1 fr1).rP opY.g.toNat ^^^ opY.gn = (1 : BitVec 1) ∧ (frS 1 fr1).released = true ∧ (frS 1
      fr1).pl.acquired (frS 1 fr1).pl.firing.fid = true ∧ (frS 1 fr1).pl.memq = [] ∧ (frS 1 fr1).pl.stash = [] ∧
      BitVec.toNat ((frS 1 fr1).rS opY.a.toNat) % 64 = 0 ∧ BitVec.toNat ((frS 1 fr1).rS opY.a.toNat) < 2 ^ 52 ∧
      (¬(BitVec.toNat ((frS 1 fr1).rS opY.d.toNat) = (BitVec.toNat ((frS 1 fr1).rS opY.d.toNat) % 16 + ((frS 1
      fr1).frontier ((frS 1 fr1).cur / 1024 * 16 + BitVec.toNat ((frS 1 fr1).rS opY.d.toNat) % 16)).ticket *
      256) % 2 ^ 64 ∧ ((frS 1 fr1).frontier ((frS 1 fr1).cur / 1024 * 16 + BitVec.toNat ((frS 1 fr1).rS
      opY.d.toNat) % 16)).job = (frS 1 fr1).pl.job) ∨ ((frS 1 fr1).frontier ((frS 1 fr1).cur / 1024 * 16 +
      BitVec.toNat ((frS 1 fr1).rS opY.d.toNat) % 16)).state = FrState.idle)) ∧
    ((frS 1 fr1).rP oF.g.toNat ^^^ oF.gn = (1 : BitVec 1) ∧ (frS 1 fr1).released = true ∧ (frS 1
      fr1).pl.acquired (frS 1 fr1).pl.firing.fid = true ∧ (frS 1 fr1).pl.memq = [] ∧ (frS 1 fr1).pl.stash = [] ∧
      BitVec.toNat ((frS 1 fr1).rS oF.a.toNat) % 64 = 0 ∧ BitVec.toNat ((frS 1 fr1).rS oF.a.toNat) < 2 ^ 52 ∧
      (BitVec.toNat ((frS 1 fr1).rS oF.d.toNat) = (BitVec.toNat ((frS 1 fr1).rS oF.d.toNat) % 16 + ((frS 1
      fr1).frontier ((frS 1 fr1).cur / 1024 * 16 + BitVec.toNat ((frS 1 fr1).rS oF.d.toNat) % 16)).ticket * 256)
      % 2 ^ 64 ∧ ((frS 1 fr1).frontier ((frS 1 fr1).cur / 1024 * 16 + BitVec.toNat ((frS 1 fr1).rS oF.d.toNat) %
      16)).job = (frS 1 fr1).pl.job) ∧ ((frS 1 fr1).frontier ((frS 1 fr1).cur / 1024 * 16 + BitVec.toNat ((frS 1
      fr1).rS oF.d.toNat) % 16)).state ≠ FrState.idle ∧ ((frS 1 fr1).frontier ((frS 1 fr1).cur / 1024 * 16 +
      BitVec.toNat ((frS 1 fr1).rS oF.d.toNat) % 16)).state ≠ FrState.saving ∧ ((frS 1 fr1).slice
      (translatingSlice (frS 1 fr1).cur)).tlb = [pg2] ∧ BitVec.getLsbD pg2.pte 2 = true ∧ (∀ (a : Nat),
      BitVec.toNat ((frS 1 fr1).rS oF.a.toNat) ≤ a → a < BitVec.toNat ((frS 1 fr1).rS oF.a.toNat) + 98432 →
      pg2.covers ((frS 1 fr1).asid (frS 1 fr1).pl.job) a = true)) :=
  by
  and_intros <;> first
    | exact fun x h1 h2 => cov (by decide +kernel) (by decide +kernel) (by decide +kernel) x h1 h2
    | decide +kernel
    | unfold readsLine; decide +kernel
    | exact fun _ => rfl

/-- The hypotheses of FrontierUnitEvents can be met together, clause by clause. -/
theorem witness_FrontierUnitEvents :
    (((frS 0 fr3).frontier 0).state = FrState.run ∧ (frS 0 fr3).frFrozen 0 = false ∧ ((frS 0 fr3).frontier
      0).forbidden = false ∧ List.find? ((frS 0 fr3).frontier 0).issuable ((frS 0 fr3).frontier 0).candidates =
      some (1, 0, 0) ∧ ((frS 0 fr3).frontier 0).flight.length ≤ fld ((frS 0 fr3).frontier 0).desc 16 8) ∧
    (((frS 0 frB).frontier 0).state = FrState.run ∧ (frS 0 frB).frFrozen 0 = false ∧ ((frS 0 frB).frontier
      0).forbidden = false ∧ ((frS 0 frB).frontier 0).boundaryDue = some (0, 0, 0, 0) ∧ ((frS 0 frB).frontier
      0).bOut.length < 64) ∧
    (((frXS.frontier 0).state = FrState.run ∨ (frXS.frontier 0).state = FrState.saving) ∧ frXS.frFrozen 0 =
      false ∧ (frXS.frontier 0).forbidden = true ∧ (frXS.frontier 0).wasFault = false) ∧
    ((frOS.frontier 0).state ≠ FrState.idle ∧ (frOS.frontier 0).closed = false ∧ frOpen (frOS.frontier 0).desc =
      true ∧ frOS.frFrozen 0 = false ∧ (frOS.frontier 0).strm = some hd ∧ frOS.ringOf hd = some x5 ∧ x5.isLive
      hd.branch = true ∧ frOS.window x5 hd.branch (frOS.frontier 0).colour 1 = some [2]) ∧
    ((frDS.frontier 0).state = FrState.run ∧ frDS.frFrozen 0 = false ∧ ((frDS.frontier 0).closed = true ∨ frOpen
      (frDS.frontier 0).desc = false) ∧ (frDS.frontier 0).nrows ≤ (frDS.frontier 0).rowlo) ∧
    ((frVS.frontier 0).state = FrState.saving ∧ (frVS.frontier 0).flight = [] ∧ (frVS.frontier 0).bOut = [] ∧
      frVS.frFrozen 0 = false ∧ frVS.planes = [(0, plV)] ∧ plV.running = true ∧ plV.firing.fid = (frVS.frontier
      0).saveFid ∧ plV.firing.wait = WaitKind.save ∧ frVS.take (frVS.frontier 0).saveTid = none ∧ plV.stash = []
      ∧ ((frVS.frontier 0).wasFault = true ∨ (frVS.frontier 0).forbidden = false) ∧ frVS.rangeWaits
      (frVS.frontier 0).job (frVS.frontier 0).saveVa ((frVS.frontier 0).bytes (frVS.frontier 0).wasFault).length
      = false) ∧
    (x6.rows = [(0, x7)] ∧ 0 = x6.rowlo ∧ x7.bitmap ≠ (0 : BitVec 64) ∧ frOpen x6.desc = false) :=
  by and_intros <;> decide +kernel

end Sys2Proof.Tests.Frontiers
end

