-- ==== Sys2Proof/Tests/Hosts.lean ====
section
/-!
SUPPORT. For each hypothesis list of the host and package statements, a concrete state and operands that meet all of it together:
one conjunct for each clause of a statement.
-/
namespace Sys2Proof.Tests.Hosts
open Sys2Proof Sys2Proof.Machine Sys2Proof.Tests
set_option maxRecDepth 20000
set_option Elab.async false

def lk0 : State := {State.reset with pkg := {cause := 2}}
def x1 := (cmd 1 0 (4096 + 6 * 2 ^ 64))
def rc : Rec := {entry := 5, detail := some 6}
def lkH : State := {lkS jbR with links := [(0, {lnk with held := [rc]})]}
def x2 := (cmd 1 0 (4096 + 5 * 2 ^ 64))
def trg : State := {lkS jbR with pkg := {ready := true, trigOrder := [0]}, links := [(0, {lnk with triggers := 1, slots := [(0, (cmd 12 0 1).record)]})]}
def adm2 : State := {admS decl with jobs := [(2, jbR)]}
def adm3 : State := {admS decl with images := []}
def decl2 : Declared := {decl with wellFormed := false}
def decl4 : Declared := {decl with entries := 3}
def decl3 : Declared := {decl with regions := [{img with plane := 1}]}
def decl5 : Declared := {decl with regions := [], entries := 1, start := []}
def rgL5 : Region := {rgn with place := .loading}
def jbL : Job := {jbR with decl := {jbR.decl with start := [(0, 0, 0)]}, admitting := some ([2048], (cmd 2 0 8192).record)}
def ldS : State := {lkS jbL with regions := [(2048, rgL5)]}
def x3 : Cq := { base := 4096, log2n := 6, msi := true }
def lkM : State := {lkS jbR with links := [(0, {lnk with tail := 2})]}
def seg (w : Bool) : State := {lkS jbR with mem := [(65536, 7)], links := [(0, {lnk with cqlost := true, counted := 127, segs := [(0, 1, 0, w)]})]}
def long : List Byte := List.replicate 4097 1
def hw6 : Msg := {mid := 9, die := 8, dstEp := 0, dstDie := 0, job := 1, tid := 0, pid := 0, cls := 7, kind := 6, ord := false, data := [1, 2, 3], len := 3, raddr := 100, laddr := 0, lv := false, lctr := 0, ract := 0, rctr := 0, msgid := 0, mcode := 0, decoded := true}
def hwS (m : Msg) (w : List Frag) : State := {seg true with msgs := [m], wire := w, slices := [(0, {tlb := [pg]})], clk := 200000}
def x5 := (hwS {hw6 with kind := 7} [])
def x6 := {hw6 with kind := 7}
def hf2 : Frag := {frgC 2 with die := 0, ports := [.ext 0], dstDie := 8}
def hf2c : Frag := {hf2 with check := hf2.crc}
def x7 := (hwS {hw6 with kind := 7} [hf2c])
def d0 (d : Die) : State := {State.reset with dies := [(0, d)], clk := 600 * 1800000000 + 1800000000, jobs := [(1, jb)], pkg := {uv := true, resets := 3}}
def x1b := ((Instr.lockstep, 4, 0) : Instr × Nat × Nat)
def fsS (c : MsgClass) : State := {lkS jbR with clk := 16384 * 5, dies := [(0, {classes := [(0, c)], shadow := some [(3, 7)]})], pkg := {pendPower := [(0, (cmd 11 0 (2 + 50 * 2 ^ 64)).record, 4)]}, cells := [(3, {mmas := 5})]}
def x4b := (fsS {job := 1, adapt := true, frameSent := 100, frameLost := 50})
def x6b := (d0 {})
def x7b := (d0 {uvStep := 3, uvWin := 1800000001, arrays := [(4, 33)]})
def x8b := (d0 {uvStep := 3, uvWin := 1800000001, arrays := [(4, 32)]})
def x10b := (d0 {arrays := [(4, 64)]})
def x11b := (d0 {uvWin := 1800000001, arrays := [(4, 3)], arraysLast := [(4, 64)]})
def x12b := (d0 {arrays := [(4, 3)], arraysLast := [(4, 64)]})
def plA : Plane := {pl0 with user := {open_ := true, openTid := 7}}
def acS : State := {take take7 (gm plA) with jobs := [(1, jb)]}
def ri : RecInfo := {cls := 1, act := 0, code := 0x0201, unit := 5}
def mgS : State := {lkS jbR with clk := 1800000, pkg := {merging := [(ri, 3, 0)]}}
def jeS : State := {lkS jbR with links := [], regions := [(2048, {rgn with place := .torn})]}

/-- The hypotheses of QueuesAndAdmission can be met together, clause by clause. -/
theorem witness_QueuesAndAdmission :
    (x1.shaped 1 = true ∧ x1.num 16 8 % 4096 = 0 ∧ 6 ≤ x1.num 24 1 ∧ x1.num 24 1 ≤ 16 ∧ x1.quiet = false ∧
      ((lk0.link x1.link).cq = none ∨ (lk0.link x1.link).held = [])) ∧
    (x1.shaped 1 = true ∧ x1.num 16 8 % 4096 = 0 ∧ 6 ≤ x1.num 24 1 ∧ x1.num 24 1 ≤ 16 ∧ (lkH.link x1.link).cq ≠
      none ∧ (lkH.link x1.link).held ≠ []) ∧
    (linkFree (lkS jbR) x2.link ∧ (x2.shaped 1 = false ∨ x2.num 16 8 % 4096 ≠ 0 ∨ x2.num 24 1 < 6 ∨ 16 < x2.num
      24 1) ∧ x2.quiet = false) ∧
    (trg.pkg.ready = true ∧ (trg.link 0).triggers ≠ 0 ∧ (trg.link 0).loading = none ∧ (trg.link 0).nextCq = none ∧ (trg.link 0).mapping = none ∧ (∀ (e : Nat × BitVec 1024 × Nat), e ∈ trg.pkg.pendPower → e.fst ≠ 0) ∧ (∀ (e : Nat × Job), e ∈ trg.jobs → e.snd.link = 0 → e.snd.admitting = none) ∧ trg.pkg.trigOrder.head? = some 0 ∧ decodeCommand { link := 0, record := look (0 : BitVec 1024) (trg.link 0).slots ((trg.link 0).cmdhead.toNat % 512) } = Except.ok (Instr.ras (cmd 12 0 1))) ∧
    (linkFree (admS decl) (cmd 2 0 0).link ∧ (cmd 2 0 0).quiet = false ∧ (cmd 2 0 0).shaped 2 = true ∧ (admS
      decl).descWellFormed ((admS decl).hostRecord ((cmd 2 0 0).num 16 8)) = false) ∧
    (linkFree adm2 (cmd 2 0 8192).link ∧ (cmd 2 0 8192).quiet = false ∧ (cmd 2 0 8192).shaped 2 = true ∧
      adm2.descWellFormed (adm2.hostRecord ((cmd 2 0 8192).num 16 8)) = true ∧ adm2.job (jdNum (adm2.hostRecord
      ((cmd 2 0 8192).num 16 8)) 0 2) = some jbR) ∧
    (linkFree adm3 (cmd 2 0 8192).link ∧ (cmd 2 0 8192).quiet = false ∧ (cmd 2 0 8192).shaped 2 = true ∧
      adm3.descWellFormed (adm3.hostRecord ((cmd 2 0 8192).num 16 8)) = true ∧ adm3.job (jdNum (adm3.hostRecord
      ((cmd 2 0 8192).num 16 8)) 0 2) = none ∧ find adm3.images (jdNum (adm3.hostRecord ((cmd 2 0 8192).num 16
      8)) 32 8) = none) ∧
    (linkFree (admS decl2) (cmd 2 0 8192).link ∧ (cmd 2 0 8192).quiet = false ∧ (cmd 2 0 8192).shaped 2 = true ∧
      (admS decl2).descWellFormed ((admS decl2).hostRecord ((cmd 2 0 8192).num 16 8)) = true ∧ (admS decl2).job
      (jdNum ((admS decl2).hostRecord ((cmd 2 0 8192).num 16 8)) 0 2) = none ∧ find (admS decl2).images (jdNum
      ((admS decl2).hostRecord ((cmd 2 0 8192).num 16 8)) 32 8) = some decl2 ∧ jdNum ((admS decl2).hostRecord
      ((cmd 2 0 8192).num 16 8)) 52 2 = 0 ∧ imagesOk decl2.named ((admS decl2).jobOf ((admS decl2).hostRecord
      ((cmd 2 0 8192).num 16 8)) decl2.named (cmd 2 0 8192).link).dies [] = false) ∧
    (linkFree (admS decl4) (cmd 2 0 8192).link ∧ (cmd 2 0 8192).quiet = false ∧ (cmd 2 0 8192).shaped 2 = true ∧
      (admS decl4).descWellFormed ((admS decl4).hostRecord ((cmd 2 0 8192).num 16 8)) = true ∧ (admS decl4).job
      (jdNum ((admS decl4).hostRecord ((cmd 2 0 8192).num 16 8)) 0 2) = none ∧ find (admS decl4).images (jdNum
      ((admS decl4).hostRecord ((cmd 2 0 8192).num 16 8)) 32 8) = some decl4 ∧ (¬decl4.named.entries = jdNum
      ((admS decl4).hostRecord ((cmd 2 0 8192).num 16 8)) 40 2)) ∧
    (linkFree (admS decl3) (cmd 2 0 8192).link ∧ (cmd 2 0 8192).quiet = false ∧ (cmd 2 0 8192).shaped 2 = true ∧ (admS decl3).descWellFormed ((admS decl3).hostRecord ((cmd 2 0 8192).num 16 8)) = true ∧ (admS decl3).job (jdNum ((admS decl3).hostRecord ((cmd 2 0 8192).num 16 8)) 0 2) = none ∧ find (admS decl3).images (jdNum ((admS decl3).hostRecord ((cmd 2 0 8192).num 16 8)) 32 8) = some decl3 ∧ decl3.named.entries = jdNum ((admS decl3).hostRecord ((cmd 2 0 8192).num 16 8)) 40 2 ∧ jdNum ((admS decl3).hostRecord ((cmd 2 0 8192).num 16 8)) 52 2 = 0 ∧ imagesOk decl3.named ((admS decl3).jobOf ((admS decl3).hostRecord ((cmd 2 0 8192).num 16 8)) decl3.named (cmd 2 0 8192).link).dies [] = true ∧ 0 ∈ ((admS decl3).jobOf ((admS decl3).hostRecord ((cmd 2 0 8192).num 16 8)) decl3.named (cmd 2 0 8192).link).dies ∧ (admS decl3).dieReason { (admS decl3) with jobs := ins (admS decl3).jobs (jdNum ((admS decl3).hostRecord ((cmd 2 0 8192).num 16 8)) 0 2) ((admS decl3).jobOf ((admS decl3).hostRecord ((cmd 2 0 8192).num 16 8)) decl3.named (cmd 2 0 8192).link) } ((admS decl3).jobOf ((admS decl3).hostRecord ((cmd 2 0 8192).num 16 8)) decl3.named (cmd 2 0 8192).link) 0 0 ≠ 0 ∧ (∀ (e : Nat), e ∈ ((admS decl3).jobOf ((admS decl3).hostRecord ((cmd 2 0 8192).num 16 8)) decl3.named (cmd 2 0 8192).link).dies → e < 0 → (admS decl3).dieReason { (admS decl3) with jobs := ins (admS decl3).jobs (jdNum ((admS decl3).hostRecord ((cmd 2 0 8192).num 16 8)) 0 2) ((admS decl3).jobOf ((admS decl3).hostRecord ((cmd 2 0 8192).num 16 8)) decl3.named (cmd 2 0 8192).link) } ((admS decl3).jobOf ((admS decl3).hostRecord ((cmd 2 0 8192).num 16 8)) decl3.named (cmd 2 0 8192).link) e 0 = 0)) ∧
    (linkFree (admS decl) (cmd 2 0 8192).link ∧ (cmd 2 0 8192).quiet = false ∧ (cmd 2 0 8192).shaped 2 = true ∧ (admS decl).descWellFormed ((admS decl).hostRecord ((cmd 2 0 8192).num 16 8)) = true ∧ (admS decl).job (jdNum ((admS decl).hostRecord ((cmd 2 0 8192).num 16 8)) 0 2) = none ∧ find (admS decl).images (jdNum ((admS decl).hostRecord ((cmd 2 0 8192).num 16 8)) 32 8) = some decl ∧ decl.named.entries = jdNum ((admS decl).hostRecord ((cmd 2 0 8192).num 16 8)) 40 2 ∧ jdNum ((admS decl).hostRecord ((cmd 2 0 8192).num 16 8)) 52 2 = 0 ∧ jdNum ((admS decl).hostRecord ((cmd 2 0 8192).num 16 8)) 42 2 = 0 ∧ imagesOk decl.named ((admS decl).jobOf ((admS decl).hostRecord ((cmd 2 0 8192).num 16 8)) decl.named (cmd 2 0 8192).link).dies [] = true ∧ (∀ (e : Nat), e ∈ ((admS decl).jobOf ((admS decl).hostRecord ((cmd 2 0 8192).num 16 8)) decl.named (cmd 2 0 8192).link).dies → (admS decl).dieReason { (admS decl) with jobs := ins (admS decl).jobs (jdNum ((admS decl).hostRecord ((cmd 2 0 8192).num 16 8)) 0 2) ((admS decl).jobOf ((admS decl).hostRecord ((cmd 2 0 8192).num 16 8)) decl.named (cmd 2 0 8192).link) } ((admS decl).jobOf ((admS decl).hostRecord ((cmd 2 0 8192).num 16 8)) decl.named (cmd 2 0 8192).link) e 0 = 0) ∧ decl.named.regions = [img] ∧ ((admS decl).jobOf ((admS decl).hostRecord ((cmd 2 0 8192).num 16 8)) decl.named (cmd 2 0 8192).link).paired = false) ∧
    (linkFree (admS decl5) (cmd 2 0 8192).link ∧ (cmd 2 0 8192).quiet = false ∧ (cmd 2 0 8192).shaped 2 = true ∧ (admS decl5).descWellFormed ((admS decl5).hostRecord ((cmd 2 0 8192).num 16 8)) = true ∧ (admS decl5).job (jdNum ((admS decl5).hostRecord ((cmd 2 0 8192).num 16 8)) 0 2) = none ∧ find (admS decl5).images (jdNum ((admS decl5).hostRecord ((cmd 2 0 8192).num 16 8)) 32 8) = some decl5 ∧ decl5.named.entries = jdNum ((admS decl5).hostRecord ((cmd 2 0 8192).num 16 8)) 40 2 ∧ jdNum ((admS decl5).hostRecord ((cmd 2 0 8192).num 16 8)) 52 2 = 0 ∧ jdNum ((admS decl5).hostRecord ((cmd 2 0 8192).num 16 8)) 42 2 = 0 ∧ imagesOk decl5.named ((admS decl5).jobOf ((admS decl5).hostRecord ((cmd 2 0 8192).num 16 8)) decl5.named (cmd 2 0 8192).link).dies [] = true ∧ (∀ (e : Nat), e ∈ ((admS decl5).jobOf ((admS decl5).hostRecord ((cmd 2 0 8192).num 16 8)) decl5.named (cmd 2 0 8192).link).dies → (admS decl5).dieReason { (admS decl5) with jobs := ins (admS decl5).jobs (jdNum ((admS decl5).hostRecord ((cmd 2 0 8192).num 16 8)) 0 2) ((admS decl5).jobOf ((admS decl5).hostRecord ((cmd 2 0 8192).num 16 8)) decl5.named (cmd 2 0 8192).link) } ((admS decl5).jobOf ((admS decl5).hostRecord ((cmd 2 0 8192).num 16 8)) decl5.named (cmd 2 0 8192).link) e 0 = 0) ∧ decl5.named.regions = []) ∧
    (ldS.region rgL5.key = some rgL5 ∧ rgL5.place = Placement.loading ∧ rgL5.saved = [] ∧ (ldS.die
      rgL5.die).fenced = false ∧ ldS.job jbL.id = some jbL ∧ rgL5.job = jbL.id ∧ jbL.admitting = some
      ([rgL5.key], (cmd 2 0 8192).record) ∧ (∀ (l : Nat), (ldS.link l).loading = none) ∧ (ldS.link
      jbL.link).held = [] ∧ (ldS.link jbL.link).heldBehind = [] ∧ (ldS.link jbL.link).nextCq = none) ∧
    ((lkH.link 0).cq = some x3 ∧ (lkH.link 0).held = [rc] ∧ lkH.mustWait rc = false ∧ (lkH.link 0).nextCq = none
      ∧ (lkH.link 0).mapping = none ∧ 1 ≤ x3.log2n ∧ ((lkH.link 0).tail - (lkH.link 0).head).toNat + rc.size ≤ 2
      ^ x3.log2n ∧ x3.base + 32 * 2 ^ x3.log2n ≤ 2 ^ 64 ∧ (∀ (p : Nat × Plane), p ∈ lkH.planes → p.snd.stash =
      [])) ∧
    ((lkM.link 0).cq = some x3 ∧ x3.msi = true ∧ (lkM.link 0).tail ≠ (lkM.link 0).msixTail ∧ ((lkM.link
      0).msixSent = 0 ∨ (lkM.link 0).msixAt + 3600 ≤ lkM.clk)) ∧
    ((lkH.link 0).nextCq = none) :=
  by
  and_intros <;> first
    | decide +kernel
    | unfold linkFree; decide +kernel
    | rfl
    | exact allLinks _ (by decide +kernel)

/-- The hypotheses of HostAccesses can be met together, clause by clause. -/
theorem witness_HostAccesses :
    (4096 < long.length) ∧
    ([(1 : Byte), (2 : Byte), (3 : Byte)].length ≤ 4096 ∧ (seg true).writesUnderWay 0 = false) ∧
    (min [(1 : Byte), (2 : Byte), (3 : Byte)].length (65536 - 126) ≠ 0 ∧ (hwS hw6 []).writesUnderWay 0 = true) ∧
    (find ((seg true).link 0).segs (100 / 2 ^ 34) = some (1, 0, true) ∧ 1 ≤ 9 ∧ 100 % 4096 + 9 ≤ 4096 ∧ 100 + 9
      ≤ 2 ^ 40 ∧ (seg true).placeOf 1 (0 + 100 % 2 ^ 34) false = some (physOf (7 : Word) 3 100) ∧ ((seg
      true).mayIssue (8 + 0) (if (physOf (7 : Word) 3 100).die < 8 then (seg true).pkg.endpoint else podEp
      ((physOf (7 : Word) 3 100).die / 8 - 1)) ((physOf (7 : Word) 3 100).die % 8) (List.replicate 9 (0 :
      Byte)).length = true)) ∧
    (find ((seg true).link 0).segs (100 / 2 ^ 34) = some (1, 0, true) ∧ 1 ≤ [(1 : Byte), (2 : Byte), (3 :
      Byte)].length ∧ 100 % 4096 + [(1 : Byte), (2 : Byte), (3 : Byte)].length ≤ 4096 ∧ 100 + [(1 : Byte), (2 :
      Byte), (3 : Byte)].length ≤ 2 ^ 40 ∧ true = true ∧ (seg true).placeOf 1 (0 + 100 % 2 ^ 34) false = some
      (physOf (7 : Word) 3 100) ∧ ((seg true).mayIssue (8 + 0) (if (physOf (7 : Word) 3 100).die < 8 then (seg
      true).pkg.endpoint else podEp ((physOf (7 : Word) 3 100).die / 8 - 1)) ((physOf (7 : Word) 3 100).die % 8)
      [(1 : Byte), (2 : Byte), (3 : Byte)].length = true)) ∧
    (find ((seg false).link 0).segs (100 / 2 ^ 34) = some (1, 0, false) ∧ 1 ≤ [(1 : Byte), (2 : Byte), (3 :
      Byte)].length ∧ 100 % 4096 + [(1 : Byte), (2 : Byte), (3 : Byte)].length ≤ 4096 ∧ 100 + [(1 : Byte), (2 :
      Byte), (3 : Byte)].length ≤ 2 ^ 40 ∧ false = false) ∧
    ((find ((lkS jbR).link 0).segs (100 / 2 ^ 34) = none ∨ ∃ job base w, find ((lkS jbR).link 0).segs (100 / 2 ^
      34) = some (job, base, w) ∧ (lkS jbR).placeOf job (base + 100 % 2 ^ 34) false = none) ∧ 1 ≤ 7 ∧ 100 % 4096
      + 7 ≤ 4096 ∧ 100 + 7 ≤ 2 ^ 40) ∧
    ((hwS hw6 []).msgs = [hw6] ∧ (hwS hw6 []).mayPerform hw6 = true ∧ hw6.placed = false ∧ hw6.data.length =
      hw6.len ∧ 1 ≤ hw6.len ∧ hw6.len ≤ 4096 ∧ ((hwS hw6 []).slice (hw6.dstDie * 64)).tlb = [pg] ∧ (∀ (a : Nat),
      hw6.raddr ≤ a → a < hw6.raddr + hw6.len → pg.covers ((hwS hw6 []).asid hw6.job) a = true) ∧ (hwS hw6
      []).msgWaits hw6 = false ∧ hw6.kind = 6 ∧ BitVec.getLsbD pg.pte 2 = true ∧ (∀ (q : Nat × Plane), q ∈ (hwS
      hw6 []).planes → q.snd.stash = []) ∧ (∀ (q : Nat × Slice), q ∈ (hwS hw6 []).slices → q.snd.wins = [])) ∧
    (x5.msgs = [x6] ∧ x5.mayPerform x6 = true ∧ x6.placed = false ∧ x6.data.length = x6.len ∧ 1 ≤ x6.len ∧
      x6.len ≤ 4096 ∧ (x5.slice (x6.dstDie * 64)).tlb = [pg] ∧ (∀ (a : Nat), x6.raddr ≤ a → a < x6.raddr +
      x6.len → pg.covers (x5.asid x6.job) a = true) ∧ x5.msgWaits x6 = false ∧ x6.kind = 7 ∧ x5.poison = [] ∧ (∀
      (d : Nat), (x5.die d).fenced = false)) ∧
    (x7.msgs = [x6] ∧ x6.kind = 7 ∧ x6.access = 0 ∧ x6.dstEp = x7.pkg.endpoint ∧ x7.wire[0]? = some hf2c ∧
      hf2c.ctl = 2 ∧ x7.crosses hf2c = true ∧ hf2c.dstEp = x7.pkg.endpoint ∧ hf2c.mid = x6.mid ∧ x6.packed =
      false ∧ x6.lostM = false) :=
  by
  and_intros <;> first
    | exact fun x h1 h2 => cov (by decide +kernel) (by decide +kernel) (by decide +kernel) x h1 h2
    | decide +kernel
    | exact Or.inl (by decide +kernel)
    | exact fun _ => rfl

/-- The hypotheses of PackageEvents can be met together, clause by clause. -/
theorem witness_PackageEvents :
    (x1b ∈ [(Instr.linkreset 1, 3, 1), (Instr.lockstep, 4, 0), (Instr.thermal 1, 5, 1), (Instr.watchdog, 6, 0),
      (Instr.supply 1, 7, 1)]) ∧
    ((lkS jbR).pkg.ready = false) ∧
    ((x4b.die 0).lastFrame ≠ x4b.clk / 16384) ∧
    ((∀ (a : Nat), x6b.pkg.overAt = some a → a + 1800000000 ≤ x6b.clk)) ∧
    ((∀ (a : Nat), (x6b.die 0).warnAt = some a → a + 1800000000 ≤ x6b.clk)) ∧
    (x7b.pkg.uv = true ∧ (x7b.die 0).noUv = false ∧ (¬((x7b.die 0).arraysLast = [] ∧ ∀ (e : Nat × Nat), e ∈
      (x7b.die 0).arrays → e.snd ≤ if (x7b.die 0).uvWin + 600 * 1800000000 ≤ x7b.clk ∧ (x7b.die 0).uvStep = 0
      then 63 else 32)) ∧ 0 < (x7b.die 0).uvStep) ∧
    (x8b.pkg.uv = true ∧ (x8b.die 0).noUv = false ∧ ((x8b.die 0).arraysLast = [] ∧ ∀ (e : Nat × Nat), e ∈
      (x8b.die 0).arrays → e.snd ≤ if (x8b.die 0).uvWin + 600 * 1800000000 ≤ x8b.clk ∧ (x8b.die 0).uvStep = 0
      then 63 else 32) ∧ (x8b.die 0).uvStep < 10 ∧ (x8b.die 0).uvAt + 60 * 1800000000 ≤ x8b.clk ∧ (x8b.die
      0).uvHold ≤ x8b.clk) ∧
    (x10b.pkg.uv = true ∧ (x10b.die 0).noUv = false ∧ (x10b.die 0).uvStep = 0 ∧ (x10b.die 0).uvWin + 600 *
      1800000000 ≤ x10b.clk ∧ (x10b.die 0).arraysLast = []) ∧
    (x11b.pkg.uv = true ∧ (x11b.die 0).noUv = false ∧ (x11b.die 0).uvStep = 0 ∧ (¬(x11b.die 0).uvWin + 600 *
      1800000000 ≤ x11b.clk)) ∧
    (x12b.pkg.uv = true ∧ (x12b.die 0).noUv = false ∧ (x12b.die 0).uvStep = 0 ∧ (x12b.die 0).uvWin + 600 *
      1800000000 ≤ x12b.clk ∧ 64 ≤ look 0 (x12b.die 0).arraysLast 4 ∧ (∀ (e : Nat × Nat), e ∈ (x12b.die
      0).arrays → e.snd < 64)) ∧
    (5 < 512 ∧ 1 < 3) ∧
    ((¬(BitVec.toNat (5 : BitVec 16) % 32 = (513 / 256 : Nat) ∧ (5 < BitVec.toNat (5 : BitVec 16) % 32 →
      BitVec.toNat (5 : BitVec 16) / 32 % 256 < 64)))) ∧
    (513 ∈ [513, 1281, 3073, 4353, 4609] ∧ (BitVec.toNat (2 : BitVec 16) % 32 = (513 / 256 : Nat) ∧ (5 <
      BitVec.toNat (2 : BitVec 16) % 32 → BitVec.toNat (2 : BitVec 16) / 32 % 256 < 64)) ∧ (∀ (m : RecInfo × Nat
      × Nat), m ∈ (lkS jbR).pkg.merging → ¬(m.fst.code = 513 ∧ m.fst.unit = (2 : BitVec 16)))) ∧
    (514 = 514 ∧ ((unitOfCell 0 0 2).toNat % 32 = (514 / 256 : Nat) ∧ (5 < (unitOfCell 0 0 2).toNat % 32 →
      (unitOfCell 0 0 2).toNat / 32 % 256 < 64)) ∧ BitVec.getLsbD (0 : BitVec 256) 0 = false ∧ BitVec.getLsbD (0
      : BitVec 64) 2 = false ∧ (acS.plane (pidOfUnit (unitOfCell 0 0 2) (BitVec.toNat (0 : BitVec 64) %
      4))).user.open_ = true ∧ acS.take (acS.plane (pidOfUnit (unitOfCell 0 0 2) (BitVec.toNat (0 : BitVec 64) %
      4))).user.openTid = some take7 ∧ take7.tid = (acS.plane (pidOfUnit (unitOfCell 0 0 2) (BitVec.toNat (0 :
      BitVec 64) % 4))).user.openTid ∧ take7.shadow = false) ∧
    (mgS.pkg.merging = [(ri, 3, 0)] ∧ ri.code = 513 ∧ ri.unit = (5 : BitVec 16) ∧ 3 ≠ 0 ∧ 0 + 1800000 ≤ mgS.clk)
      ∧
    (((lkS jbR).die 0).fenced = false ∧ (lkS jbR).jobs = [(1, jbR)] ∧ jbR.diemask / 2 ^ 0 % 2 = 1) ∧
    (jeS.job 1 = some jbR ∧ jbR.id = 1 ∧ 1 ≠ 0 ∧ jeS.jobOver jbR = true ∧ (jeS.link jbR.link).held = [] ∧
      (jeS.link jbR.link).heldBehind = [] ∧ (jeS.link jbR.link).nextCq = none) :=
  by and_intros <;> decide +kernel

end Sys2Proof.Tests.Hosts
end

