-- ==== Sys2Proof/Tests/Matrix.lean ====
section
/-!
SUPPORT. For each hypothesis list of the matrix statements, a concrete state and operands that meet all of it together:
one conjunct for each clause of a statement.
-/
namespace Sys2Proof.Tests.Matrix
open Sys2Proof Sys2Proof.Machine Sys2Proof.Tests
set_option maxRecDepth 20000
set_option Elab.async false

def x1 := {opM with sa := 6}
def x2 := {opM with ah := 1}
def x3 := {opH with h := 4, nw := 32}
def x5 := {opN with off := 0x40, ord := 2, sc := 3}
def tkm : Take := { tid := 7, job := 1, region := 2048, colour := 2, ctx := 5, source := .slate, slate := {}, born := 0 }
def ownS : State := {mat {plM with user := {plM.user with open_ := true, openc := 1}} with takes := [(7, tkm)]}
def pk : Parked := { pid := 0, firing := fir, regs := {s := [(3,3)]} }
def x6 := (mat {plM with running := false, ownParks := [pk]})
def x7 := (matOp {mo .mscb with d0 := 7})
def x8 := {mo .mscb with d0 := 7}
def x9 := (matOp {mo .msca with d0 := 0x4000})
def x10 := {mo .msca with d0 := 0x4000}
def x11 := (matOp {mo .mwr with row := 3, vec := 0x1234})
def x12 := {mo .mwr with row := 3, vec := 0x1234}
def x13 := (matOp {mo .mrd with row := 3, vd := 2})
def x14 := {mo .mrd with row := 3, vd := 2}
def ld0 : MatOp := {mo .mldb with d0 := 0x404000, tb := 1}
def ldS : State := {matOp ld0 with bank := [(256, 0x3F803F804000), (257, 0x40003F80)]}
def mm0 : MatOp := {mo .mma with d0 := 0x404000, ta := 1, tb := 1}
def mmS : State := {mat {plM with mq := [mm0], user := {plM.user with b0 := 0x3F803F804000, tag0 := 1}} with bank := [(256, 0x3F803F804000), (257, 0x40003F80)]}
def mmP (k : Nat) : State := {mat {plM with mq := [mm0], user := {plM.user with b0 := 0x3F803F804000, tag0 := 1, kpos := 96, cfg := {plM.user.cfg with count := k}}} with bank := [(256, 0x3F803F804000), (257, 0x40003F80)]}
def mh0 : MatOp := {mo .mma with useH := true, h := 4, bind := hM, nw := 32, ta := 1, tb := 1}
def mhS (m : Nat) : State := {mat {plM with mq := [mh0], user := {plM.user with tag0 := 1, cfg := {plM.user.cfg with rlev := 2}}} with sideband := (List.range 32).map fun i => (64 + i, mkSide (if i = 31 then m else 0) 1 0 2)}
def mhG (m : Nat) : List Nat × List (Sys2Proof.Side × Sys2Proof.Gran) := match (mhS m).takeWindow 0 mh0 with | .got a b => (a, b) | _ => ([], [])
def x15 := (mat {plM with mq := [{mo .mrel with started := true}], user := {plM.user with release := some {mark := 2, tid := 7, fid := 3, colour := 2, coord := {}, upTo := 1, ftz := false}}})
def x16 := {mo .mrel with started := true}
def x17 := (mat {plM with mq := [{mo .mrel with started := true}]})
def pr0 : PendRelease := {mark := 2, tid := 7, fid := 3, colour := 2, coord := {}, upTo := 1, ftz := false}
def x18 := (mat {plM with user := {plM.user with release := some pr0, acc := [(0, 5)]}})
def dr0 : Drain := {mark := 2, tid := 7, colour := 2, coord := {}, upTo := 1, cfg := plM.user.cfg, acc := [(0, 0x3F800000), (33, 0x40000000)], ftz := false}
def plD : Plane := {plM with user := {plM.user with drain := some dr0}}
def x19 := (mat {plM with user := {plM.user with drain := some {dr0 with cfg := {dr0.cfg with otag := 3}}}})
def x20 := {dr0 with cfg := {dr0.cfg with otag := 3}}
def rgG : Ring := {rgO with tail := 64, slots := (List.range 64).map fun n => (n, {}), granted := [(.drain 0 false, List.range 64)]}
def drS : State := {mat plD with rings := [(64, rgM), (128, rgG)]}
def x21 := (mat {plM with firing := {fir with wait := .mwait}})

/-- The hypotheses of MatrixInstructionsEnterTheQueue can be met together, clause by clause. -/
theorem witness_MatrixInstructionsEnterTheQueue :
    (mayEnqueue matS ∧ matS.rP opM.g.toNat ^^^ opM.gn = (1 : BitVec 1)) ∧
    (mayEnqueue matS ∧ matS.rP opM.g.toNat ^^^ opM.gn = (1 : BitVec 1) ∧ (matS.pl.governing
      (matS.pl.firing.colour == 15)).set = true) ∧
    (mayEnqueue matS ∧ matS.rP opM.g.toNat ^^^ opM.gn = (1 : BitVec 1)) ∧
    (mayEnqueue matS ∧ matS.rP x1.g.toNat ^^^ x1.gn = (1 : BitVec 1) ∧ 16448 = BitVec.toNat (matS.rS
      x1.sa.toNat) % 2 ^ 16 ∧ 16448 % 64 = 0 ∧ matS.pl.bankBase ≤ 16448 ∧ 16448 + 128 ≤ matS.pl.bankBase +
      matS.pl.bankSize) ∧
    (mayEnqueue matS ∧ matS.rP opM.g.toNat ^^^ opM.gn = (1 : BitVec 1) ∧ pairOk matS opM.sb.toNat) ∧
    (mayEnqueue matS ∧ matS.rP opM.g.toNat ^^^ opM.gn = (1 : BitVec 1) ∧ (matS.pl.governing
      (matS.pl.firing.colour == 15)).set = true ∧ opM.ah = (0 : BitVec 1) ∧ pairOk matS opM.sa.toNat) ∧
    (mayEnqueue matS ∧ matS.rP x2.g.toNat ^^^ x2.gn = (1 : BitVec 1) ∧ (matS.pl.governing (matS.pl.firing.colour
      == 15)).set = true ∧ x2.ah = (1 : BitVec 1) ∧ matS.handle x2.ha.toNat = some (hM, rgM) ∧ 32 ≤ rgM.size ∧
      hM.resId = 0) ∧
    (mayEnqueue matS ∧ matS.rP opM.g.toNat ^^^ opM.gn = (1 : BitVec 1) ∧ matS.handle opM.ha.toNat = some (hM,
      rgM) ∧ 2 ≤ rgM.size ∧ hM.resId = 0) ∧
    (mayEnqueue matS ∧ matS.rP opM.g.toNat ^^^ opM.gn = (1 : BitVec 1) ∧ matS.handle opM.hb.toNat = some (hO,
      rgO) ∧ 1 ≤ rgO.size ∧ hO.resId = 0) ∧
    (mayEnqueue matS ∧ matS.rP opM.g.toNat ^^^ opM.gn = (1 : BitVec 1) ∧ matS.handle opM.hb.toNat = some (hO,
      rgO) ∧ 2 * widthOf opM.tb.toNat ≤ rgO.size) ∧
    (mayEnqueue matS ∧ matS.rP x3.g.toNat ^^^ x3.gn = (1 : BitVec 1) ∧ matS.handle x3.h.toNat = some (hM, rgM) ∧
      32 ≤ rgM.size ∧ hM.resId = 0) ∧
    (mayEnqueue matS ∧ matS.rP opV.g.toNat ^^^ opV.gn = (1 : BitVec 1)) ∧
    (mayEnqueue matS ∧ matS.rP x5.g.toNat ^^^ x5.gn = (1 : BitVec 1) ∧ BitVec.toNat (matS.rS x5.a.toNat +
      BitVec.signExtend 64 x5.off) % 64 = 0 ∧ BitVec.toNat (matS.rS x5.a.toNat + BitVec.signExtend 64 x5.off) <
      2 ^ 52) :=
  by
  and_intros <;> first
    | decide +kernel
    | unfold mayEnqueue; decide +kernel
    | unfold pairOk; decide +kernel

/-- The hypotheses of MatrixOwnershipParksTheOtherColour can be met together, clause by clause. -/
theorem witness_MatrixOwnershipParksTheOtherColour :
    (ownS.rP opM.g.toNat ^^^ opM.gn = (1 : BitVec 1) ∧ ownS.pl.firing.colour ≠ 15 ∧ ownS.pl.mq = [] ∧
      ownS.pl.user.open_ = true ∧ ownS.pl.user.openc = 1 ∧ 1 ≠ ownS.pl.firing.colour ∧ ownS.pc < 2 ^ 64 ∧
      ownS.take ownS.pl.firing.tid = some tkm ∧ tkm.tid = ownS.pl.firing.tid) ∧
    ((x6.plane 0).running = false ∧ (x6.plane 0).stopped = false ∧ (x6.plane 0).ownParks = [pk] ∧ (∀ (o :
      MatOp), o ∈ (x6.plane 0).mq → o.hand = true) ∧ (x6.plane 0).user.open_ = false ∧ (∀ (x : Take), x6.take
      pk.firing.tid = some x → x.traps = []) ∧ (x6.die (0 / 1024 : Nat)).fenced = false) :=
  by and_intros <;> decide +kernel

/-- The hypotheses of MatrixOperationsRun can be met together, clause by clause. -/
theorem witness_MatrixOperationsRun :
    (opMayStart (matOp (mo MatKind.mzero)) 0 0 (mo MatKind.mzero) ∧ ((matOp (mo MatKind.mzero)).die (0 / 1024 :
      Nat)).fenced = false ∧ ((matOp (mo MatKind.mzero)).plane 0).eotLeft = false ∧ (mo MatKind.mzero).useH =
      false ∧ (mo MatKind.mzero).adv = false ∧ (mo MatKind.mzero).kind = MatKind.mzero) ∧
    (opMayStart x7 0 0 x8 ∧ (x7.die (0 / 1024 : Nat)).fenced = false ∧ (x7.plane 0).eotLeft = false ∧ x8.useH =
      false ∧ x8.adv = false ∧ x8.kind = MatKind.mscb) ∧
    (opMayStart x9 0 0 x10 ∧ (x9.die (0 / 1024 : Nat)).fenced = false ∧ (x9.plane 0).eotLeft = false ∧ x10.useH
      = false ∧ x10.adv = false ∧ x10.kind = MatKind.msca) ∧
    (opMayStart (matOp (mo MatKind.mkb)) 0 0 (mo MatKind.mkb) ∧ ((matOp (mo MatKind.mkb)).die (0 / 1024 :
      Nat)).fenced = false ∧ ((matOp (mo MatKind.mkb)).plane 0).eotLeft = false ∧ (mo MatKind.mkb).useH = false
      ∧ (mo MatKind.mkb).adv = false ∧ (mo MatKind.mkb).kind = MatKind.mkb ∧ (((matOp (mo MatKind.mkb)).plane
      0).mat (mo MatKind.mkb).hand).open_ = false) ∧
    (opMayStart x11 0 0 x12 ∧ (x11.die (0 / 1024 : Nat)).fenced = false ∧ (x11.plane 0).eotLeft = false ∧
      x12.useH = false ∧ x12.adv = false ∧ x12.kind = MatKind.mwr ∧ (((x11.plane 0).mat x12.hand).open_ = true →
      ((x11.plane 0).mat x12.hand).openc = x12.colour ∧ ((x11.plane 0).mat x12.hand).openTid = x12.tid)) ∧
    (opMayStart x13 0 0 x14 ∧ (x13.die (0 / 1024 : Nat)).fenced = false ∧ (x13.plane 0).eotLeft = false ∧
      x14.useH = false ∧ x14.adv = false ∧ x14.kind = MatKind.mrd ∧ (∀ (k : Parked), k ∈ (x13.plane 0).ownParks
      → k.firing.fid ≠ x14.fid) ∧ (∀ (x : Take), x13.take x14.tid = some x → ∀ (k : Parked), k ∈ x.parked →
      k.firing.fid ≠ x14.fid)) ∧
    (opMayStart ldS 0 0 ld0 ∧ (ldS.die (0 / 1024 : Nat)).fenced = false ∧ (ldS.plane 0).eotLeft = false ∧
      ld0.useH = false ∧ ld0.adv = false ∧ (ld0.kind = if false = true then MatKind.mldbt else MatKind.mldb) ∧
      ld0.buf < 2) ∧
    (opMayStart mmS 0 0 mm0 ∧ (mmS.die (0 / 1024 : Nat)).fenced = false ∧ (mmS.plane 0).eotLeft = false ∧
      mm0.useH = false ∧ mm0.adv = false ∧ mm0.kind = MatKind.mma ∧ mmS.arrayGrants 0 = true ∧ ((mmS.plane
      0).mat mm0.hand).release = none ∧ mm0.kdone = 0 ∧ 1 ≤ mm0.ta ∧ mm0.ta ≤ 6 ∧ (1 ≤ if mm0.tb = 7 then if
      mm0.buf = 0 then ((mmS.plane 0).mat mm0.hand).tag0 else ((mmS.plane 0).mat mm0.hand).tag1 else mm0.tb) ∧
      ((if mm0.tb = 7 then if mm0.buf = 0 then ((mmS.plane 0).mat mm0.hand).tag0 else ((mmS.plane 0).mat
      mm0.hand).tag1 else mm0.tb) ≤ 6) ∧ mm0.buf < 2 ∧ (((mmS.plane 0).mat mm0.hand).kpos + 512 / max (widthOf
      mm0.ta) (widthOf (if mm0.tb = 7 then if mm0.buf = 0 then ((mmS.plane 0).mat mm0.hand).tag0 else
      ((mmS.plane 0).mat mm0.hand).tag1 else mm0.tb)) < ((mmS.plane 0).mat mm0.hand).cfg.kblock)) ∧
    (opMayStart (mmP 2) 0 0 mm0 ∧ ((mmP 2).die (0 / 1024 : Nat)).fenced = false ∧ ((mmP 2).plane 0).eotLeft =
      false ∧ mm0.useH = false ∧ mm0.adv = false ∧ mm0.kind = MatKind.mma ∧ (mmP 2).arrayGrants 0 = true ∧
      (((mmP 2).plane 0).mat mm0.hand).release = none ∧ mm0.kdone = 0 ∧ 1 ≤ mm0.ta ∧ mm0.ta ≤ 6 ∧ (1 ≤ if mm0.tb
      = 7 then if mm0.buf = 0 then (((mmP 2).plane 0).mat mm0.hand).tag0 else (((mmP 2).plane 0).mat
      mm0.hand).tag1 else mm0.tb) ∧ ((if mm0.tb = 7 then if mm0.buf = 0 then (((mmP 2).plane 0).mat
      mm0.hand).tag0 else (((mmP 2).plane 0).mat mm0.hand).tag1 else mm0.tb) ≤ 6) ∧ mm0.buf < 2 ∧ ((((mmP
      2).plane 0).mat mm0.hand).kpos + 512 / max (widthOf mm0.ta) (widthOf (if mm0.tb = 7 then if mm0.buf = 0
      then (((mmP 2).plane 0).mat mm0.hand).tag0 else (((mmP 2).plane 0).mat mm0.hand).tag1 else mm0.tb)) =
      (((mmP 2).plane 0).mat mm0.hand).cfg.kblock) ∧ ((((mmP 2).plane 0).mat mm0.hand).cfg.rlev ≠ 0 ∨ (((mmP
      2).plane 0).mat mm0.hand).nblk + 1 ≠ (((mmP 2).plane 0).mat mm0.hand).cfg.count)) ∧
    (opMayStart (mmP 1) 0 0 mm0 ∧ ((mmP 1).die (0 / 1024 : Nat)).fenced = false ∧ ((mmP 1).plane 0).eotLeft =
      false ∧ mm0.useH = false ∧ mm0.adv = false ∧ mm0.kind = MatKind.mma ∧ (mmP 1).arrayGrants 0 = true ∧
      (((mmP 1).plane 0).mat mm0.hand).release = none ∧ mm0.kdone = 0 ∧ 1 ≤ mm0.ta ∧ mm0.ta ≤ 6 ∧ (1 ≤ if mm0.tb
      = 7 then if mm0.buf = 0 then (((mmP 1).plane 0).mat mm0.hand).tag0 else (((mmP 1).plane 0).mat
      mm0.hand).tag1 else mm0.tb) ∧ ((if mm0.tb = 7 then if mm0.buf = 0 then (((mmP 1).plane 0).mat
      mm0.hand).tag0 else (((mmP 1).plane 0).mat mm0.hand).tag1 else mm0.tb) ≤ 6) ∧ mm0.buf < 2 ∧ ((((mmP
      1).plane 0).mat mm0.hand).kpos + 512 / max (widthOf mm0.ta) (widthOf (if mm0.tb = 7 then if mm0.buf = 0
      then (((mmP 1).plane 0).mat mm0.hand).tag0 else (((mmP 1).plane 0).mat mm0.hand).tag1 else mm0.tb)) =
      (((mmP 1).plane 0).mat mm0.hand).cfg.kblock) ∧ (((mmP 1).plane 0).mat mm0.hand).cfg.rlev = 0 ∧ (((mmP
      1).plane 0).mat mm0.hand).nblk + 1 = (((mmP 1).plane 0).mat mm0.hand).cfg.count) ∧
    (opMayStart (matOp (mo MatKind.mrel)) 0 0 (mo MatKind.mrel) ∧ ((matOp (mo MatKind.mrel)).die (0 / 1024 :
      Nat)).fenced = false ∧ ((matOp (mo MatKind.mrel)).plane 0).eotLeft = false ∧ (mo MatKind.mrel).useH =
      false ∧ (mo MatKind.mrel).adv = false ∧ (mo MatKind.mrel).kind = MatKind.mrel ∧ (((matOp (mo
      MatKind.mrel)).plane 0).mat (mo MatKind.mrel).hand).release = none) ∧
    (opMayStart (mhS 2) 0 0 mh0 ∧ ((mhS 2).die (0 / 1024 : Nat)).fenced = false ∧ ((mhS 2).plane 0).eotLeft =
      false ∧ mh0.useH = true ∧ mh0.kind = MatKind.mma ∧ (mhS 2).arrayGrants 0 = true ∧ ((mhS 2).plane
      0).opBehindCommit mh0 = false ∧ (∀ (e : MatOp), e ∈ List.take 0 ((mhS 2).plane 0).mq → ¬(e.useH = true ∧
      e.h = mh0.h)) ∧ (mhS 2).takeWindow 0 mh0 = Took.got (mhG 2).fst (mhG 2).snd ∧ mh0.resId = 0 ∧ (((mhS
      2).plane 0).mat mh0.hand).release = none ∧ mh0.kdone = 0 ∧ (((mhS 2).plane 0).mat mh0.hand).cfg.rlev ≠ 0 ∧
      (∃ e, e ∈ (mhG 2).snd ∧ (((mhS 2).plane 0).mat mh0.hand).cfg.rlev ≤ markLevel (sideMark e.fst))) ∧
    (opMayStart (mhS 1) 0 0 mh0 ∧ ((mhS 1).die (0 / 1024 : Nat)).fenced = false ∧ ((mhS 1).plane 0).eotLeft =
      false ∧ mh0.useH = true ∧ mh0.kind = MatKind.mma ∧ (mhS 1).arrayGrants 0 = true ∧ ((mhS 1).plane
      0).opBehindCommit mh0 = false ∧ (∀ (e : MatOp), e ∈ List.take 0 ((mhS 1).plane 0).mq → ¬(e.useH = true ∧
      e.h = mh0.h)) ∧ (mhS 1).takeWindow 0 mh0 = Took.got (mhG 1).fst (mhG 1).snd ∧ mh0.resId = 0 ∧ (((mhS
      1).plane 0).mat mh0.hand).release = none ∧ mh0.kdone = 0 ∧ (((mhS 1).plane 0).mat mh0.hand).cfg.rlev ≠ 0 ∧
      (∀ (e : Side × Gran), e ∈ (mhG 1).snd → markLevel (sideMark e.fst) < (((mhS 1).plane 0).mat
      mh0.hand).cfg.rlev)) ∧
    ((x15.plane 0).mq[0]? = some x16 ∧ x16.started = true ∧ (x15.die (0 / 1024 : Nat)).fenced = false ∧
      (x15.plane 0).eotLeft = false ∧ (x16.kind = MatKind.mrel ∨ x16.kind = MatKind.mma) ∧ ((x15.plane 0).mat
      x16.hand).release ≠ none) ∧
    ((x17.plane 0).mq[0]? = some x16 ∧ x16.started = true ∧ (x17.die (0 / 1024 : Nat)).fenced = false ∧
      (x17.plane 0).eotLeft = false ∧ (x16.kind = MatKind.mrel ∨ x16.kind = MatKind.mma) ∧ ((x17.plane 0).mat
      x16.hand).release = none ∧ (x16.kind = MatKind.mma → 128 < x16.kdone)) :=
  by
  and_intros <;> first
    | exact forAll (by decide +kernel)
    | decide +kernel
    | unfold opMayStart; decide +kernel

/-- The hypotheses of ReleasesAndDrains can be met together, clause by clause. -/
theorem witness_ReleasesAndDrains :
    (((x18.plane 0).mat (0 == 1)).release = some pr0 ∧ ((x18.plane 0).mat (0 == 1)).drain = none ∧ ((x18.plane
      0).mat (0 == 1)).kpos = 0 ∧ (x18.die (0 / 1024 : Nat)).fenced = false) ∧
    (((x19.plane 0).mat (0 == 1)).drain = some x20 ∧ x19.ringOf x20.cfg.out = some rgO ∧ rgO.key =
      x20.cfg.out.key ∧ (x19.die (0 / 1024 : Nat)).fenced = false ∧ rgO.granted = [] ∧ rgO.passedPlace
      (Claimant.drain 0 (0 == 1)) x19.clk = false ∧ rgO.queue = [] ∧ 2 * widthOf x20.cfg.otag ≤ rgO.free) ∧
    (((drS.plane 0).mat (0 == 1)).drain = some dr0 ∧ drS.ringOf dr0.cfg.out = some rgG ∧ rgG.key =
      dr0.cfg.out.key ∧ (drS.die (0 / 1024 : Nat)).fenced = false ∧ rgG.granted = [(Claimant.drain 0 (0 == 1),
      List.range 64)] ∧ (List.range 64).length = 2 * widthOf dr0.cfg.otag ∧ (List.map rgG.gran (List.range
      64)).Nodup ∧ (∀ (o : MemOp), o ∈ (drS.plane 0).memq → o.isWrite = true → o.colour = dr0.colour → dr0.upTo
      ≤ o.id) ∧ (drS.plane 0).commits = [] ∧ (drS.plane 0).stash = [] ∧ drS.exits = [] ∧ (drS.plane 0).kills =
      [] ∧ (drS.plane 0).eotLeft = false ∧ rgG.live ≠ (0 : BitVec 8)) ∧
    (matS.rP opM.g.toNat ^^^ opM.gn = (1 : BitVec 1)) ∧
    ((x21.plane 0).running = true ∧ (x21.plane 0).firing.wait = WaitKind.mwait ∧ (∀ (m : MatOp), m ∈ (x21.plane
      0).mq → m.hand ≠ ((x21.plane 0).firing.colour == 15)) ∧ ((x21.plane 0).mat ((x21.plane 0).firing.colour ==
      15)).release = none ∧ ((x21.plane 0).mat ((x21.plane 0).firing.colour == 15)).drain = none ∧ (x21.die (0 /
      1024 : Nat)).fenced = false) ∧
    (matS.rP opM.g.toNat ^^^ opM.gn = (1 : BitVec 1) ∧ ((∀ (m : MatOp), m ∈ matS.pl.mq → m.hand ≠
      (matS.pl.firing.colour == 15)) ∧ (matS.pl.mat (matS.pl.firing.colour == 15)).release = none ∧ (matS.pl.mat
      (matS.pl.firing.colour == 15)).drain = none)) ∧
    ((mat plD).rP opM.g.toNat ^^^ opM.gn = (1 : BitVec 1) ∧ (¬((∀ (m : MatOp), m ∈ (mat plD).pl.mq → m.hand ≠
      ((mat plD).pl.firing.colour == 15)) ∧ ((mat plD).pl.mat ((mat plD).pl.firing.colour == 15)).release = none
      ∧ ((mat plD).pl.mat ((mat plD).pl.firing.colour == 15)).drain = none))) :=
  by and_intros <;> decide +kernel

end Sys2Proof.Tests.Matrix
end

