-- ==== Sys2Proof/Tests/Parses.lean ====
section
/-!
SUPPORT. For each hypothesis list of the script statements, a concrete state and operands that meet all of it together:
one conjunct for each clause of a statement.
-/
namespace Sys2Proof.Tests.Parses
open Sys2Proof Sys2Proof.Machine Sys2Proof.Tests
set_option maxRecDepth 20000
set_option Elab.async false

def ntS : State := scr [0x48000000, 0x0C400009] rg {}
def ntN : State := scr [0x48000000, 0x14000000] rg {}
def chS : State := scr [0x0C400009, 0x14000000] rg atC
def chL : State := scr [0x0C400009, 0x08600000] rg atC
def chW : State := scr [0x0C400009, 0x14000000] rgE atC
def chA : State := scr [0x0C800009, 0x0C400009] rg atC
def chM : State := scr [0x0C800009, 0x14000000] rg atC
def lk0 : State := scr [0x0C000009, 0x08600000] rg atL
def lkW : State := scr [0x0C400009, 0x08600000] rg atL
def lkA : State := scr [0x0C000009, 0x08800000, 0x0C400009] rg atL
def lkM : State := scr [0x0C000009, 0x08800000, 0x14000000] rg atL
def lkL : State := scr [0x0C000009, 0x08800000, 0x08800000] rg atL
def x1 := (scr [] rgE {})
def x2 := (scr [] rg {})
def x3 := (scr [] rgH {})
def x4 := (scr [] rg {lastlvl := [(2,3)]})
def deep : State := scr [] rg {stack := List.replicate 32 1}
def x5 := (scr [] rg {stack := [4, 1]})
def sc (x : Ctx) : State := scr [] rg x
def hz : Ctx := {coord := {row := 5}, horizon := some {row := 4}}
def hz2 : Ctx := {coord := {row := 5}, horizon := some {row := 5}, trigcnt := 1, trigpl := 1, args := [8, 9]}
def x1b := ({row := 4}:Coord)
def x2b := (sc {tplane := 1})
def x3b := (sc {})
def full : State := {sc {} with cores := [(0, {tokQ := List.replicate 16 (0, tk7)})]}
def rgF : Ring := {rg with tail := 8}
def x4b := (scr [] rgF {})
def x5b := (sc {sent := 1})
def lchH : State := {lchS with takes := [(7, {take7 with shadow := true})]}
def kl : Ctx := {lastSlot := some 1}
def x1c := (scr [] rg {state := .scan, blind := true})
def rgS : Ring := {rg with reclaim := 0, tail := 8, slots := (List.range 8).map fun n => (n, {}) }
def x2c := (scr [] rgS {state := .decide, blind := true})
def x3c := (scr [] rg {state := .call, childDone := 3})
def x4c := (scr [] rg {state := .call, childDone := 2})
def x5c := (scr [] rg {state := .window, waitHit := true})
def x6c := (scr [] rg {state := .mismatch, code := 0x801})
def c1 : Nat × Nat × Nat × Bool × Nat := (10, 1, 1, false, 0)
def x7c := (recS 0x24048000 rg {state := .mismatch, code := 0x801})
def x8c := (recS 0x24048000 rg {state := .recover, code := 0x801})
def x9c := (recS 0x2404cc00 rg {state := .recover, code := 0x801, synced := some 1, coordAt := {seq := 5}})

/-- The hypotheses of ScriptWordsParse can be met together, clause by clause. -/
theorem witness_ScriptWordsParse :
    ((∃ a b, ntS.fetchScriptAt ntS.curCtx (if ∃ a b d e, ntS.fetchScriptAt ntS.curCtx ((ntS.ctx ntS.curCtx).pc +
      1) (ntS.ctx ntS.curCtx).pc = Instr.onerr a b d e then (ntS.ctx ntS.curCtx).pc + 2 else (ntS.ctx
      ntS.curCtx).pc + 1) (ntS.ctx ntS.curCtx).pc = Instr.choose a b)) ∧
    ((∀ (a : BitVec 4) (b : BitVec 12), ntN.fetchScriptAt ntN.curCtx (if ∃ a b d e, ntN.fetchScriptAt ntN.curCtx
      ((ntN.ctx ntN.curCtx).pc + 1) (ntN.ctx ntN.curCtx).pc = Instr.onerr a b d e then (ntN.ctx ntN.curCtx).pc +
      2 else (ntN.ctx ntN.curCtx).pc + 1) (ntN.ctx ntN.curCtx).pc ≠ Instr.choose a b)) ∧
    ((ntS.ctx ntS.curCtx).head ≠ Head.atChoose) ∧
    ((chS.ctx chS.curCtx).head = Head.atChoose ∧ ((1 : BitVec 4) = (8 : BitVec 4) ∨ ∃ e, (if (1 : BitVec 4) = (0
      : BitVec 4) then (chS.terms chS.curCtx).head? else (List.filter (fun e => e.snd != 0) (chS.terms
      chS.curCtx)).head?) = some e ∧ e.snd = BitVec.toNat (1 : BitVec 4)) ∧ chS.isLook chS.curCtx ((chS.ctx
      chS.curCtx).pc + 1) = false ∧ chS.isLiteral chS.curCtx (BitVec.toNat (9 : BitVec 12)) = false) ∧
    ((chL.ctx chL.curCtx).head = Head.atChoose ∧ ((1 : BitVec 4) = (8 : BitVec 4) ∨ ∃ e, (if (1 : BitVec 4) = (0
      : BitVec 4) then (chL.terms chL.curCtx).head? else (List.filter (fun e => e.snd != 0) (chL.terms
      chL.curCtx)).head?) = some e ∧ e.snd = BitVec.toNat (1 : BitVec 4)) ∧ chL.isLook chL.curCtx ((chL.ctx
      chL.curCtx).pc + 1) = true) ∧
    ((chW.ctx chW.curCtx).head = Head.atChoose ∧ (1 : BitVec 4) ≠ (8 : BitVec 4) ∧ ((if (1 : BitVec 4) = (0 :
      BitVec 4) then (chW.terms chW.curCtx).head? else (List.filter (fun e => e.snd != 0) (chW.terms
      chW.curCtx)).head?) = none)) ∧
    ((chA.ctx chA.curCtx).head = Head.atChoose ∧ (2 : BitVec 4) ≠ (8 : BitVec 4) ∧ ((if (2 : BitVec 4) = (0 :
      BitVec 4) then (chA.terms chA.curCtx).head? else (List.filter (fun e => e.snd != 0) (chA.terms
      chA.curCtx)).head?) = some (2, 1)) ∧ (2, 1).snd ≠ BitVec.toNat (2 : BitVec 4) ∧ chA.isLook chA.curCtx
      ((chA.ctx chA.curCtx).pc + 1) = false ∧ chA.isChoose chA.curCtx ((chA.ctx chA.curCtx).pc + 1) = true) ∧
    ((chM.ctx chM.curCtx).head = Head.atChoose ∧ (2 : BitVec 4) ≠ (8 : BitVec 4) ∧ ((if (2 : BitVec 4) = (0 :
      BitVec 4) then (chM.terms chM.curCtx).head? else (List.filter (fun e => e.snd != 0) (chM.terms
      chM.curCtx)).head?) = some (2, 1)) ∧ (2, 1).snd ≠ BitVec.toNat (2 : BitVec 4) ∧ chM.isLook chM.curCtx
      ((chM.ctx chM.curCtx).pc + 1) = false ∧ chM.isChoose chM.curCtx ((chM.ctx chM.curCtx).pc + 1) = false) ∧
    ((lkW.ctx lkW.curCtx).head = Head.atLook 0 ∧ lkW.fetchScriptAt lkW.curCtx 0 0 = Instr.choose (1 : BitVec 4)
      (9 : BitVec 12) ∧ ((if 1 ≤ BitVec.toNat (1 : BitVec 4) ∧ BitVec.toNat (1 : BitVec 4) ≤ 7 then (List.filter
      (fun e => e.snd != 0) (lkW.terms lkW.curCtx))[1]? else (List.filter (fun e => e.snd != 0) (lkW.terms
      lkW.curCtx))[0]?) = none)) ∧
    ((lk0.ctx lk0.curCtx).head = Head.atLook 0 ∧ lk0.fetchScriptAt lk0.curCtx 0 0 = Instr.choose (0 : BitVec 4)
      (9 : BitVec 12) ∧ ((if 1 ≤ BitVec.toNat (0 : BitVec 4) ∧ BitVec.toNat (0 : BitVec 4) ≤ 7 then (List.filter
      (fun e => e.snd != 0) (lk0.terms lk0.curCtx))[1]? else (List.filter (fun e => e.snd != 0) (lk0.terms
      lk0.curCtx))[0]?) = some (2, 1)) ∧ (if (1 : BitVec 1) = (1 : BitVec 1) then BitVec.toNat (1 : BitVec 4) ≤
      markLevel (2, 1).snd else (2, 1).snd = BitVec.toNat (1 : BitVec 4)) ∧ lk0.isLiteral lk0.curCtx
      (BitVec.toNat (9 : BitVec 12)) = false) ∧
    ((lkA.ctx lkA.curCtx).head = Head.atLook 0 ∧ lkA.fetchScriptAt lkA.curCtx 0 0 = Instr.choose (0 : BitVec 4)
      (9 : BitVec 12) ∧ ((if 1 ≤ BitVec.toNat (0 : BitVec 4) ∧ BitVec.toNat (0 : BitVec 4) ≤ 7 then (List.filter
      (fun e => e.snd != 0) (lkA.terms lkA.curCtx))[1]? else (List.filter (fun e => e.snd != 0) (lkA.terms
      lkA.curCtx))[0]?) = some (2, 1)) ∧ (¬if (0 : BitVec 1) = (1 : BitVec 1) then BitVec.toNat (2 : BitVec 4) ≤
      markLevel (2, 1).snd else (2, 1).snd = BitVec.toNat (2 : BitVec 4)) ∧ lkA.isLook lkA.curCtx (0 + 1) = true
      ∧ lkA.isChoose lkA.curCtx (0 + 2) = true) ∧
    ((lkM.ctx lkM.curCtx).head = Head.atLook 0 ∧ lkM.fetchScriptAt lkM.curCtx 0 0 = Instr.choose (0 : BitVec 4)
      (9 : BitVec 12) ∧ ((if 1 ≤ BitVec.toNat (0 : BitVec 4) ∧ BitVec.toNat (0 : BitVec 4) ≤ 7 then (List.filter
      (fun e => e.snd != 0) (lkM.terms lkM.curCtx))[1]? else (List.filter (fun e => e.snd != 0) (lkM.terms
      lkM.curCtx))[0]?) = some (2, 1)) ∧ (¬if (0 : BitVec 1) = (1 : BitVec 1) then BitVec.toNat (2 : BitVec 4) ≤
      markLevel (2, 1).snd else (2, 1).snd = BitVec.toNat (2 : BitVec 4)) ∧ lkM.isLook lkM.curCtx (0 + 1) = true
      ∧ lkM.isChoose lkM.curCtx (0 + 2) = false ∧ lkM.isLook lkM.curCtx (0 + 2) = false) ∧
    ((lkL.ctx lkL.curCtx).head = Head.atLook 0 ∧ lkL.fetchScriptAt lkL.curCtx 0 0 = Instr.choose (0 : BitVec 4)
      (9 : BitVec 12) ∧ ((if 1 ≤ BitVec.toNat (0 : BitVec 4) ∧ BitVec.toNat (0 : BitVec 4) ≤ 7 then (List.filter
      (fun e => e.snd != 0) (lkL.terms lkL.curCtx))[1]? else (List.filter (fun e => e.snd != 0) (lkL.terms
      lkL.curCtx))[0]?) = some (2, 1)) ∧ (¬if (0 : BitVec 1) = (1 : BitVec 1) then BitVec.toNat (2 : BitVec 4) ≤
      markLevel (2, 1).snd else (2, 1).snd = BitVec.toNat (2 : BitVec 4)) ∧ lkL.isLook lkL.curCtx (0 + 1) = true
      ∧ lkL.isChoose lkL.curCtx (0 + 2) = false ∧ lkL.isLook lkL.curCtx (0 + 2) = true) ∧
    (x1.terms x1.curCtx = []) ∧
    (x2.terms x2.curCtx = [(0, 0), (1, 0), (2, 1)] ∧ (0, 0).snd = 0) ∧
    (x3.terms x3.curCtx = [(2, 1), (3, 0)] ∧ (2, 1).snd ≠ 0) ∧
    ((1 : BitVec 4) ≠ (0 : BitVec 4) ∧ x4.terms x4.curCtx = [(0, 0), (1, 0)] ++ [(2, 1)] ∧ (∀ (d : Nat × Nat), d
      ∈ [(0, 0), (1, 0)] → d.snd = 0) ∧ (2, 1).snd ≠ 0 ∧ (if (0 : BitVec 1) = (1 : BitVec 1) then BitVec.toNat
      (1 : BitVec 4) ≤ markLevel (2, 1).snd else (2, 1).snd = BitVec.toNat (1 : BitVec 4))) ∧
    ((2 : BitVec 4) ≠ (0 : BitVec 4) ∧ x2.terms x2.curCtx = [(0, 0), (1, 0)] ++ [(2, 1)] ∧ (∀ (d : Nat × Nat), d
      ∈ [(0, 0), (1, 0)] → d.snd = 0) ∧ (2, 1).snd ≠ 0 ∧ (¬if (0 : BitVec 1) = (1 : BitVec 1) then BitVec.toNat
      (2 : BitVec 4) ≤ markLevel (2, 1).snd else (2, 1).snd = BitVec.toNat (2 : BitVec 4))) ∧
    (x2.ntAt x2.curCtx (BitVec.toNat (2 : BitVec 8)) = none) ∧
    (x2.ntAt x2.curCtx (BitVec.toNat (1 : BitVec 8)) = some 9 ∧ (x2.ctx x2.curCtx).stack.length < 32) ∧
    (deep.ntAt deep.curCtx (BitVec.toNat (1 : BitVec 8)) = some 9 ∧ 32 ≤ (deep.ctx deep.curCtx).stack.length) ∧
    ((x5.ctx x5.curCtx).stack = [4] ++ [1] ∧ x5.ntAt x5.curCtx 1 = some 9) ∧
    ((x2.ctx x2.curCtx).stack = []) :=
  ⟨by rw [if_neg (by rintro ⟨a, b, c, d, h⟩; exact Instr.noConfusion (h.symm.trans (by decide +kernel : _ = Instr.choose 1 9)))]; exact ⟨_, _, (by decide +kernel : _ = Instr.choose 1 9)⟩,
    by rw [if_neg (by rintro ⟨a, b, c, d, h⟩; exact Instr.noConfusion (h.symm.trans (by decide +kernel : _ = Instr.retn)))]; intro a b h; exact Instr.noConfusion (h.symm.trans (by decide +kernel : _ = Instr.retn)),
    by and_intros <;> decide +kernel⟩

/-- The hypotheses of ScriptWordsAct can be met together, clause by clause. -/
theorem witness_ScriptWordsAct :
    (((sc hz).ctx (sc hz).curCtx).horizon = some x1b ∧ x1b.lt ((sc hz).ctx (sc hz).curCtx).coord = true) ∧
    ((∀ (h : Coord), (x2b.ctx x2b.curCtx).horizon = some h → h.lt (x2b.ctx x2b.curCtx).coord = false) ∧
      x2b.partnerPlane x2b.curCtx (x2b.ctx x2b.curCtx).tplane = false) ∧
    ((∀ (h : Coord), (x3b.ctx x3b.curCtx).horizon = some h → h.lt (x3b.ctx x3b.curCtx).coord = false) ∧
      x3b.partnerPlane x3b.curCtx (x3b.ctx x3b.curCtx).tplane = true ∧ x3b.stageCells x3b.curCtx (x3b.ctx
      x3b.curCtx).tplane (BitVec.toNat (2 : BitVec 8)) = []) ∧
    ((∀ (h : Coord), (full.ctx full.curCtx).horizon = some h → h.lt (full.ctx full.curCtx).coord = false) ∧
      full.partnerPlane full.curCtx (full.ctx full.curCtx).tplane = true ∧ full.stageCells full.curCtx (full.ctx
      full.curCtx).tplane (BitVec.toNat (3 : BitVec 8)) ≠ [] ∧ (∃ q, q ∈ full.stageCells full.curCtx (full.ctx
      full.curCtx).tplane (BitVec.toNat (3 : BitVec 8)) ∧ full.tokenRoom q = false)) ∧
    ((∀ (h : Coord), ((sc hz2).ctx (sc hz2).curCtx).horizon = some h → h.lt ((sc hz2).ctx (sc hz2).curCtx).coord
      = false) ∧ (sc hz2).partnerPlane (sc hz2).curCtx ((sc hz2).ctx (sc hz2).curCtx).tplane = true ∧ (sc
      hz2).stageCells (sc hz2).curCtx ((sc hz2).ctx (sc hz2).curCtx).tplane (BitVec.toNat (3 : BitVec 8)) ≠ [] ∧
      (∀ (q : Nat), q ∈ (sc hz2).stageCells (sc hz2).curCtx ((sc hz2).ctx (sc hz2).curCtx).tplane (BitVec.toNat
      (3 : BitVec 8)) → (sc hz2).tokenRoom q = true)) ∧
    (x3b.ctxHandle x3b.curCtx (x3b.ctx x3b.curCtx).tplane (BitVec.toNat (1 : BitVec 4)) = none) ∧
    (x3b.ctxHandle x3b.curCtx (x3b.ctx x3b.curCtx).tplane (BitVec.toNat (3 : BitVec 4)) = some hd ∧ x3b.ringOf
      hd = some rg ∧ rg.granted = [] ∧ rg.queue = [] ∧ x3b.exits = [] ∧ rg.live ≠ (0 : BitVec 8) ∧ 1 ≤ rg.free)
      ∧
    (x4b.ctxHandle x4b.curCtx (x4b.ctx x4b.curCtx).tplane (BitVec.toNat (3 : BitVec 4)) = some hd ∧ x4b.ringOf
      hd = some rgF ∧ rgF.granted = [] ∧ rgF.queue = [] ∧ x4b.exits = [] ∧ rgF.live ≠ (0 : BitVec 8) ∧ rgF.free
      = 0) ∧
    ((x5b.ctx x5b.curCtx).sent ≠ 0) ∧
    ((x3b.ctx x3b.curCtx).sent = 0 ∧ x3b.headRing x3b.curCtx = some rg ∧ x3b.ring rg.key = some rg ∧ x3b.terms
      x3b.curCtx = [(0, 0), (1, 0)] ++ [(2, 1)] ∧ (∀ (d : Nat × Nat), d ∈ [(0, 0), (1, 0)] → markLevel d.snd <
      BitVec.toNat (1 : BitVec 3)) ∧ BitVec.toNat (1 : BitVec 3) ≤ markLevel (2, 1).snd) ∧
    ((x3b.ctx x3b.curCtx).sent = 0 ∧ x3b.headRing x3b.curCtx = some rg ∧ x3b.ring rg.key = some rg ∧ (∀ (d : Nat
      × Nat), d ∈ x3b.terms x3b.curCtx → markLevel d.snd < BitVec.toNat (2 : BitVec 3))) ∧
    (calS.take (calS.ctx calS.curCtx).tid = some take7c ∧ take7c.tid = (calS.ctx calS.curCtx).tid ∧
      take7c.source = Source.call 4 70 ∧ 4 ≠ calS.curCtx ∧ (calS.ctx 4).tid = 70 ∧ (calS.ctx 4).state =
      CtxState.call ∧ (calS.ctx 4).childDone = 0) ∧
    (lchS.launchRegion lchS.curCtx (BitVec.toNat (3 : BitVec 6)) = none) ∧
    (lchS.launchRegion lchS.curCtx (BitVec.toNat (3 : BitVec 6)) = none) ∧
    (lchS.launchRegion lchS.curCtx (BitVec.toNat (2 : BitVec 6)) = some (rgnL, lch) ∧ lchS.shadowCtx lchS.curCtx
      = false) ∧
    (lchS.launchRegion lchS.curCtx (BitVec.toNat (2 : BitVec 6)) = some (rgnL, lch) ∧ lchS.shadowCtx lchS.curCtx
      = false) ∧
    (lchH.launchRegion lchH.curCtx (BitVec.toNat (2 : BitVec 6)) = some (rgnL, lch) ∧ lchH.shadowCtx lchH.curCtx
      = true) ∧
    ((wtw WinState.armed).take ((wtw WinState.armed).ctx (wtw WinState.armed).curCtx).tid = some take7 ∧ (wtw
      WinState.armed).ownsWindow take7.job ((BitVec.toNat (0 : BitVec 3) * 64 + BitVec.toNat (0 : BitVec 6)) *
      64 + BitVec.toNat (6 : BitVec 6)) = false) ∧
    ((wtw WinState.triggered).take ((wtw WinState.triggered).ctx (wtw WinState.triggered).curCtx).tid = some
      take7 ∧ (wtw WinState.triggered).ownsWindow take7.job ((BitVec.toNat (0 : BitVec 3) * 64 + BitVec.toNat (0
      : BitVec 6)) * 64 + BitVec.toNat (5 : BitVec 6)) = true ∧ ((wtw WinState.triggered).win ((BitVec.toNat (0
      : BitVec 3) * 64 + BitVec.toNat (0 : BitVec 6)) * 64 + BitVec.toNat (5 : BitVec 6))).state =
      WinState.triggered) ∧
    ((wtw WinState.armed).take ((wtw WinState.armed).ctx (wtw WinState.armed).curCtx).tid = some take7 ∧ (wtw
      WinState.armed).ownsWindow take7.job ((BitVec.toNat (0 : BitVec 3) * 64 + BitVec.toNat (0 : BitVec 6)) *
      64 + BitVec.toNat (5 : BitVec 6)) = true ∧ ((wtw WinState.armed).win ((BitVec.toNat (0 : BitVec 3) * 64 +
      BitVec.toNat (0 : BitVec 6)) * 64 + BitVec.toNat (5 : BitVec 6))).state ≠ WinState.triggered) ∧
    ((0 : BitVec 1) = (0 : BitVec 1)) ∧
    ((1 : BitVec 1) = (1 : BitVec 1) ∧ (sc kl).headRing (sc kl).curCtx = some rg ∧ ((sc kl).ctx (sc
      kl).curCtx).lastSlot = some 1) :=
  by and_intros <;> decide +kernel

/-- The hypotheses of ParseContextEvents can be met together, clause by clause. -/
theorem witness_ParseContextEvents :
    ((x1c.ctx (0 * 16 + 5)).blind = true ∧ ((x1c.ctx (0 * 16 + 5)).state = CtxState.decide ∨ (x1c.ctx (0 * 16 +
      5)).state = CtxState.scan) ∧ x1c.scanShows (0 * 16 + 5) = true) ∧
    (x2c.headRing (0 * 16 + 5) = some rgS ∧ (x2c.ctx (0 * 16 + 5)).state = CtxState.decide ∧ (x2c.ctx (0 * 16 +
      5)).blind = true ∧ rgS.free = 0 ∧ rgS.reclaim < rgS.tail ∧ sideColour (x2c.side rgS rgS.reclaim) =
      x2c.ctxColour (0 * 16 + 5) ∧ (x2c.ctx (0 * 16 + 5)).pos ≤ rgS.reclaim) ∧
    ((x3c.ctx (0 * 16 + 5)).state = CtxState.call ∧ ((x3c.ctx (0 * 16 + 5)).childDone = 1 ∨ (x3c.ctx (0 * 16 +
      5)).childDone = 3)) ∧
    ((x4c.ctx (0 * 16 + 5)).state = CtxState.call ∧ (x4c.ctx (0 * 16 + 5)).childDone = 2) ∧
    ((x5c.ctx (0 * 16 + 5)).state = CtxState.window ∧ (x5c.ctx (0 * 16 + 5)).waitHit = true) ∧
    ((x6c.ctx (0 * 16 + 5)).state = CtxState.mismatch ∧ x6c.clause (0 * 16 + 5) = none) ∧
    ((x7c.ctx (0 * 16 + 5)).state = CtxState.mismatch ∧ x7c.clause (0 * 16 + 5) = some c1 ∧ x7c.take (x7c.ctx (0
      * 16 + 5)).tid = some take7) ∧
    ((x8c.ctx (0 * 16 + 5)).state = CtxState.recover ∧ x8c.clause (0 * 16 + 5) = some (10, 1, 1, false, 0) ∧
      (x8c.ctx (0 * 16 + 5)).synced = none ∧ (x8c.ctx (0 * 16 + 5)).sent = 0 ∧ x8c.headRing (0 * 16 + 5) = some
      rg ∧ x8c.ring rg.key = some rg ∧ syncScan (x8c.ctx (0 * 16 + 5)).offend 1 (x8c.termsFrom (0 * 16 + 5)
      (x8c.ctx (0 * 16 + 5)).pos) = ([(0, 0), (1, 0), (2, 1)], some 1) ∧ x8c.ntAt (0 * 16 + 5) 1 = some 9) ∧
    (((x9c.ctx (0 * 16 + 5)).state = CtxState.recover ∨ (x9c.ctx (0 * 16 + 5)).state = CtxState.space ∧
      x9c.scriptTries (0 * 16 + 5) = true) ∧ x9c.clause (0 * 16 + 5) = some (10, 1, 1, true, 3) ∧ (x9c.ctx (0 *
      16 + 5)).synced = some 1 ∧ x9c.ctxHandle (0 * 16 + 5) (x9c.ctx (0 * 16 + 5)).tplane 3 = some hd ∧
      x9c.ringOf hd = some rg ∧ rg.granted = [] ∧ rg.queue = [] ∧ 2 ≤ rg.free ∧ 1 ≤ rg.lg ∧ x9c.exits = [] ∧
      rg.live ≠ (0 : BitVec 8) ∧ x9c.ntAt (0 * 16 + 5) 1 = some 9) :=
  by and_intros <;> decide +kernel

end Sys2Proof.Tests.Parses
end

