-- ==== Sys2Proof/Tests/Rings.lean ====
section
/-!
SUPPORT. For each hypothesis list of the ring statements, a concrete state and operands that meet all of it together:
one conjunct for each clause of a statement.
-/
namespace Sys2Proof.Tests.Rings
open Sys2Proof Sys2Proof.Machine Sys2Proof.Tests
set_option maxRecDepth 20000
set_option Elab.async false

def hdR : Handle := {hd with res := 1, resColour := 2, resTid := 7, resId := 4}
def resS3 : Machine.State := rings rg {plR with h := [(3, hdR)], resid := [(4, {key := 16, branch := 0, nw := 1, slots := [0]})]}
def x4 := {opH with nw := 4}
def x5 := (rings rg {plR with firing := {fir with wait := .window}, prog := [(4, 0x30040A6204020000)]})
def x6 := {opH with nw := 6}
def q0 : ClaimReq := { who := .firing 0 3 3, nw := 2, colour := 2, tid := 7, fid := 3, dtag := 5 }
def rgQ3 : Ring := { rg with queue := [q0] }
def me3 : Claimant := .firing 0 3 3
def rgG3 : Ring := { rgC with granted := [(me3, [0, 1])] }
def rgP3 : Ring := { rg with lastGrant := (0, 9) }
def x7 := ([] : List (Claimant × List Nat))
def x8 := (rings rgQ3 {plR with firing := {fir with wait := .claim}})
def pc0 : PendCommit := { id := 1, bind := hd, slots := [0,1], fid := 3, tid := 7, h := 3, upTo := 1 }
def x9 := (rings rgC {plR with commits := [pc0]})
def x10 := (rings rgC {plR with commits := [pc0, {pc0 with id := 0}]})
def x11 := [{pc0 with id := 0}]
def x12 := {opH with ml := 1, nw := 5}
def bindS : Machine.State := rings rg {plR with regs := {s := [(4, BitVec.ofNat 64 (5 * 2 ^ 36 + 3 * 2 ^ 28 + 16 * 2 ^ 18))]}}
def x14 := (rings rgE {plR with regs := {s := [(4, BitVec.ofNat 64 (3 + 100 * 2 ^ 16))]}})
def x15 := (rings {rg with live := 3} plR)
def x16 := {rg with live := 3}
def farS : Machine.State := rings rg {plR with h := [(3, {hd with far := 9})]}
def rgD3 : Ring := { rg with slots := [(0, { filled := true, retired := 1 }), (1, { filled := true, retired := 1 }), (2, { filled := true }), (3, {})], timeout := 10, since := [(0, 5)] }
def x17 := {rings rgD3 plR with clk := 15}
def x18 := {opH with h := 4}
def x19 := {opH with nw := 9}
def x20 : Resid := {key := 16, branch := 0, nw := 1, slots := [0]}
def rgB3 : Ring := { rg with live := 2, bad := [(0, { side := mkSide 7 0 0 2, retired := true })] }
def rgF3 : Ring := { rg with live := 2 }
def x21 := {opK with kreg := 5, a := 5}
def x22 := {opK with kreg := 5}
def x23 := {opK with a := 5}
def detU : State := match execRetireArrival 16 (ringS.setRing 16 {rg with live := rg.live &&& ~~~1#8}) with | .next t => t | _ => ringS

theorem rgD3_slots (n : Nat) : find rgD3.slots n ≠ none ↔ rgD3.reclaim ≤ n ∧ n < rgD3.tail := by
  show find [(0, _), (1, _), (2, _), (3, _)] n ≠ none ↔ 0 ≤ n ∧ n < 4
  simp only [find]
  constructor
  · intro h
    split at h
    · omega
    · split at h
      · omega
      · split at h
        · omega
        · split at h
          · omega
          · exact absurd rfl h
  · rintro ⟨-, h⟩
    have : n = 0 ∨ n = 1 ∨ n = 2 ∨ n = 3 := by omega
    rcases this with rfl | rfl | rfl | rfl <;> simp

/-- The hypotheses of ConsumersReadOrWaitForTheirWindow can be met together, clause by clause. -/
theorem witness_ConsumersReadOrWaitForTheirWindow :
    (ringS.rP opH.g.toNat ^^^ opH.gn = (1 : BitVec 1) ∧ onRing ringS opH.h.toNat hd rg ∧ opH.nw.toNat ≤ rg.size
      ∧ (opH.am ≠ (0 : BitVec 2) → ringS.commitPending opH.h.toNat = false) ∧ ringS.lookAt hd rg
      ringS.pl.firing.colour opH.nw.toNat (opH.am != (0 : BitVec 2)) = RingLook.window [0, 1]) ∧
    (ringS.rP x4.g.toNat ^^^ x4.gn = (1 : BitVec 1) ∧ onRing ringS x4.h.toNat hd rg ∧ x4.nw.toNat ≤ rg.size ∧
      (x4.am ≠ (0 : BitVec 2) → ringS.commitPending x4.h.toNat = false) ∧ ringS.lookAt hd rg
      ringS.pl.firing.colour x4.nw.toNat (x4.am != (0 : BitVec 2)) = RingLook.wait) ∧
    ((x5.plane 0).running = true ∧ (x5.plane 0).firing.wait = WaitKind.window ∧ x5.windowReady 0 = true ∧
      (x5.die (0 / 1024 : Nat)).fenced = false) :=
  by
  and_intros <;> first
    | decide +kernel
    | unfold onRing; decide +kernel

/-- The hypotheses of ClaimsGrantWholeWindowsInOrder can be met together, clause by clause. -/
theorem witness_ClaimsGrantWholeWindowsInOrder :
    (emptyS.rP opH.g.toNat ^^^ opH.gn = (1 : BitVec 1) ∧ onRing emptyS opH.h.toNat hd rgE ∧ opH.nw.toNat ≤
      rgE.size ∧ hd.key = rgE.key ∧ (∀ (g : Claimant × List Nat), g ∈ rgE.granted → g.fst ≠ Claimant.firing
      emptyS.cur emptyS.pl.firing.fid opH.h.toNat) ∧ rgE.passedPlace (Claimant.firing emptyS.cur
      emptyS.pl.firing.fid opH.h.toNat) emptyS.clk = false ∧ rgE.queue = [] ∧ opH.nw.toNat ≤ rgE.free) ∧
    (ringS.rP x6.g.toNat ^^^ x6.gn = (1 : BitVec 1) ∧ onRing ringS x6.h.toNat hd rg ∧ x6.nw.toNat ≤ rg.size ∧ (∀
      (g : Claimant × List Nat), g ∈ rg.granted → g.fst ≠ Claimant.firing ringS.cur ringS.pl.firing.fid
      x6.h.toNat) ∧ rg.passedPlace (Claimant.firing ringS.cur ringS.pl.firing.fid x6.h.toNat) ringS.clk = false
      ∧ (rg.queue ≠ [] ∨ rg.free < x6.nw.toNat)) ∧
    ((rings rgG3 plR).rP opH.g.toNat ^^^ opH.gn = (1 : BitVec 1) ∧ onRing (rings rgG3 plR) opH.h.toNat hd rgG3 ∧
      opH.nw.toNat ≤ rgG3.size ∧ rgG3.granted = (Claimant.firing (rings rgG3 plR).cur (rings rgG3
      plR).pl.firing.fid opH.h.toNat, [0, 1]) :: x7) ∧
    ((rings rgP3 plR).rP opH.g.toNat ^^^ opH.gn = (1 : BitVec 1) ∧ onRing (rings rgP3 plR) opH.h.toNat hd rgP3 ∧
      opH.nw.toNat ≤ rgP3.size ∧ (∀ (g : Claimant × List Nat), g ∈ rgP3.granted → g.fst ≠ Claimant.firing (rings
      rgP3 plR).cur (rings rgP3 plR).pl.firing.fid opH.h.toNat) ∧ rgP3.passedPlace (Claimant.firing (rings rgP3
      plR).cur (rings rgP3 plR).pl.firing.fid opH.h.toNat) (rings rgP3 plR).clk = true) ∧
    (x8.ring 16 = some rgQ3 ∧ rgQ3.queue = [q0] ∧ q0.nw ≤ rgQ3.free ∧ q0.who = Claimant.firing 0 3 3 ∧ (x8.plane
      0).running = true ∧ (x8.plane 0).firing.fid = 3 ∧ (x8.plane 0).firing.wait = WaitKind.claim ∧ (x8.die (16
      / 2 ^ 18)).fenced = false) :=
  by
  and_intros <;> first
    | decide +kernel
    | unfold onRing; decide +kernel

/-- The hypotheses of ProducersWriteAndCommitSlots can be met together, clause by clause. -/
theorem witness_ProducersWriteAndCommitSlots :
    (claimS.rP opH.g.toNat ^^^ opH.gn = (1 : BitVec 1) ∧ onRing claimS opH.h.toNat hd rgC ∧ opH.nw.toNat ≤
      rgC.size ∧ hd.key = rgC.key ∧ List.take opH.nw.toNat (claimS.claimed opH.h.toNat) = [0, 1] ∧ [0, 1].length
      = opH.nw.toNat ∧ (List.map rgC.gran [0, 1]).Nodup) ∧
    (claimS.rP opH.g.toNat ^^^ opH.gn = (1 : BitVec 1) ∧ onRing claimS opH.h.toNat hd rgC ∧ opH.nw.toNat ≤
      rgC.size ∧ hd.key = rgC.key ∧ List.take opH.nw.toNat (claimS.claimed opH.h.toNat) = [0, 1] ∧ [0, 1].length
      = opH.nw.toNat ∧ (List.map rgC.gran [0, 1]).Nodup ∧ opH.nw.toNat ≤ 2) ∧
    (claimS.rP opH.g.toNat ^^^ opH.gn = (1 : BitVec 1) ∧ onRing claimS opH.h.toNat hd rgC ∧ opH.nw.toNat ≤
      rgC.size ∧ hd.key = rgC.key ∧ List.take opH.nw.toNat (claimS.claimed opH.h.toNat) = [0, 1] ∧ [0, 1].length
      = opH.nw.toNat ∧ (List.map rgC.gran [0, 1]).Nodup ∧ [0, 1][opH.go.toNat]? = some 1) ∧
    (claimS.rP opH.g.toNat ^^^ opH.gn = (1 : BitVec 1) ∧ onRing claimS opH.h.toNat hd rgC ∧ opH.nw.toNat ≤
      rgC.size ∧ opH.nw.toNat ≤ (claimS.claimed opH.h.toNat).length) ∧
    ((x9.plane 0).commits = [pc0] ∧ (x9.plane 0).stash = [] ∧ (∀ (d : PendCommit), d ∈ [] → pc0.id ≤ d.id) ∧ (∀
      (e : Nat × Resid), e ∈ (x9.plane 0).resid → e.snd.ended = false) ∧ (x9.plane 0).eotLeft = false ∧
      (x9.plane 0).writesDone pc0.fid pc0.upTo = true ∧ x9.exitOf pc0.bind.key = none ∧ x9.ringOf pc0.bind =
      some rgC ∧ rgC.live ≠ (0 : BitVec 8) ∧ (x9.plane 0).killsCoord pc0.tid pc0.coord = false ∧ (x9.die (0 /
      1024 : Nat)).fenced = false) ∧
    ((x10.plane 0).commits = pc0 :: x11 ∧ ((x10.plane 0).writesDone pc0.fid pc0.upTo = false ∨ x10.farAway
      pc0.bind = true ∨ ∃ d, d ∈ x11 ∧ d.id < pc0.id ∧ d.bind.key = pc0.bind.key)) :=
  by
  and_intros <;> first
    | decide +kernel
    | unfold onRing; decide +kernel

/-- The hypotheses of RetireAndAdvance can be met together, clause by clause. -/
theorem witness_RetireAndAdvance :
    (ringS.rP opH.g.toNat ^^^ opH.gn = (1 : BitVec 1) ∧ onRing ringS opH.h.toNat hd rg ∧ opH.nw.toNat ≤ rg.size
      ∧ ringS.commitPending opH.h.toNat = false ∧ hd.resId = 0 ∧ ringS.windowPast (ringS.pl.taken hd.key
      hd.branch) rg hd.branch ringS.pl.firing.colour opH.nw.toNat = some [0, 1]) ∧
    (ringS.rP x12.g.toNat ^^^ x12.gn = (1 : BitVec 1) ∧ onRing ringS x12.h.toNat hd rg ∧ x12.nw.toNat ≤ rg.size
      ∧ ringS.commitPending x12.h.toNat = false ∧ hd.resId = 0 ∧ ([0, 1, 2] <+: List.filter (fun n =>
      !(ringS.pl.taken hd.key hd.branch).contains n) (ringS.visible rg hd.branch ringS.pl.firing.colour)) ∧ [0,
      1, 2] ≠ [] ∧ (∀ (n : Nat), n ∈ [0, 1, 2] → rg.isFilled n = true) ∧ (∀ (n : Nat), n ∈ [0, 1, 2].dropLast →
      levelAtLeast (sideMark (ringS.side rg n)) x12.ml.toNat = false) ∧ (∀ (n : Nat), n ∈ [0, 1, 2].getLast? →
      levelAtLeast (sideMark (ringS.side rg n)) x12.ml.toNat = true) ∧ (if true = true then [0, 1, 2].length ≤
      x12.nw.toNat else [0, 1, 2].length = x12.nw.toNat)) :=
  by
  and_intros <;> first
    | decide +kernel
    | unfold onRing; decide +kernel

/-- The hypotheses of BindingMulticastAndStatus can be met together, clause by clause. -/
theorem witness_BindingMulticastAndStatus :
    (bindS.rP opK.g.toNat ^^^ opK.gn = (1 : BitVec 1) ∧ bindS.ringBusy (opK.kreg.toNat % 16) = false ∧
      bindS.away (opK.kreg.toNat % 16) = false ∧ bindS.badGone (opK.kreg.toNat % 16) = false ∧ bindS.handleInUse
      (opK.kreg.toNat % 16) = false ∧ 0 < 16 ∧ 0 < 16 ∧ 16 < 1024 ∧ 2 ≤ 3 ∧ 3 ≤ 10 ∧ 0 < 8 ∧ 5 < 8 ∧
      BitVec.toNat (bindS.rS opK.a.toNat) = 5 * 2 ^ 36 + 0 * 2 ^ 32 + 3 * 2 ^ 28 + 16 * 2 ^ 18 + 0 * 16 + 0 ∧
      bindS.ring ((bindS.cur / 1024 * 256 + 0 * 16 + 0) * 1024 + 16) = some rg ∧ rg.job = bindS.pl.job ∧ rg.lg =
      3 ∧ rg.live.getLsbD 0 = true) ∧
    (bindS.rP opK.g.toNat ^^^ opK.gn = (1 : BitVec 1) ∧ bindS.ringBusy (opK.kreg.toNat % 16) = false ∧
      bindS.away (opK.kreg.toNat % 16) = false ∧ bindS.badGone (opK.kreg.toNat % 16) = false ∧ bindS.handleInUse
      (opK.kreg.toNat % 16) = false) ∧
    (x14.rP opK.g.toNat ^^^ opK.gn = (1 : BitVec 1) ∧ onRing x14 (opK.kreg.toNat % 16) hd rgE ∧ 3 < 2 ^ 8 ∧ 100
      < 2 ^ 24 ∧ BitVec.toNat (x14.rS opK.a.toNat) = 3 + 100 * 2 ^ 16 ∧ (rgE.slots = [] ∨ BitVec.ofNat 8 3 &&&
      ~~~rgE.live = (0 : BitVec 8)) ∧ ((∀ (e : Nat × Slot), e ∈ rgE.slots → e.snd.filled = true → BitVec.ofNat 8
      3 &&& ~~~e.snd.retired ≠ (0 : BitVec 8)) ∧ (x14.plane rgE.pid).eotLeft = false)) ∧
    (x15.rP opK.g.toNat ^^^ opK.gn = (1 : BitVec 1) ∧ onRing x15 (opK.kreg.toNat % 16) hd x16 ∧ ((∀ (e : Nat ×
      Slot), e ∈ x16.slots → e.snd.filled = true → x16.live &&& ~~~(BitVec.ofNat 8 1 <<< hd.branch) &&&
      ~~~e.snd.retired ≠ (0 : BitVec 8)) ∧ (x15.plane x16.pid).eotLeft = false)) ∧
    (ringS.rP opK.g.toNat ^^^ opK.gn = (1 : BitVec 1) ∧ onRing ringS (opK.kreg.toNat % 16) hd rg) ∧
    (farS.rP opK.g.toNat ^^^ opK.gn = (1 : BitVec 1) ∧ farS.ringBusy (opK.kreg.toNat % 16) = false ∧ farS.away
      (opK.kreg.toNat % 16) = true ∧ Instr.rbind opK ∈ [Instr.rbind opK, Instr.runbind opK, Instr.rcast opK,
      Instr.rdet opK, Instr.rstat opK]) ∧
    (farS.rP opH.g.toNat ^^^ opH.gn = (1 : BitVec 1) ∧ farS.ringBusy opH.h.toNat = false ∧ farS.away opH.h.toNat
      = true ∧ Instr.await opH ∈ [Instr.rld opH, Instr.rst opH, Instr.rpeek opH, Instr.rmark opH, Instr.rfmt
      opH, Instr.claim opH, Instr.commit opH, Instr.await opH, Instr.retire opH, Instr.radv opH]) ∧
    (ringS.rP opK.g.toNat ^^^ opK.gn = (1 : BitVec 1) ∧ onRing ringS (opK.kreg.toNat % 16) hd rg ∧ (ringS.die (hd.key / 2 ^ 18)).fenced = false ∧ exec (Instr.retireArrival hd.key) (ringS.setRing hd.key { rg with live := rg.live &&& ~~~(BitVec.ofNat 8 1 <<< hd.branch) }) = Host.Outcome.next detU) :=
  by
  and_intros <;> first
    | decide +kernel
    | unfold onRing; decide +kernel
    | rfl

/-- The hypotheses of ReclamationAndDetachment can be met together, clause by clause. -/
theorem witness_ReclamationAndDetachment :
    ((rings rgD3 plR).ring 16 = some rgD3 ∧ (∀ (n : Nat), n ∈ rgD3.leaving → sideMark ((rings rgD3 plR).side
      rgD3 n) ≠ 4) ∧ ((rings rgD3 plR).plane rgD3.pid).eotLeft = false ∧ (∀ (n : Nat), find rgD3.slots n ≠ none
      ↔ rgD3.reclaim ≤ n ∧ n < rgD3.tail) ∧ List.length rgD3.slots = rgD3.tail - rgD3.reclaim ∧ ((rings rgD3
      plR).die (16 / 2 ^ 18)).fenced = false) ∧
    (0 < 8 ∧ x17.ring 16 = some rgD3 ∧ rgD3.oldestHeld 0 = some 2 ∧ rgD3.timeout ≠ 0 ∧ rgD3.isLive 0 = true ∧ look 0 rgD3.since 0 + rgD3.timeout ≤ x17.clk ∧ (∀ (n : Nat), n ∈ { rgD3 with live := rgD3.live &&& ~~~(BitVec.ofNat 8 1 <<< 0) }.leaving → sideMark (x17.side rgD3 n) ≠ 4) ∧ (x17.plane rgD3.pid).eotLeft = false ∧ (x17.die (16 / 2 ^ 18)).fenced = false) :=
  by
  and_intros <;> first
    | decide +kernel
    | exact rgD3_slots

/-- The hypotheses of RingFaultsHaveTheirSubcodes can be met together, clause by clause. -/
theorem witness_RingFaultsHaveTheirSubcodes :
    (ringS.rP x18.g.toNat ^^^ x18.gn = (1 : BitVec 1) ∧ ringS.ringBusy x18.h.toNat = false ∧ find ringS.pl.h
      x18.h.toNat = none) ∧
    (ringS.rP x19.g.toNat ^^^ x19.gn = (1 : BitVec 1) ∧ ringS.ringBusy x19.h.toNat = false ∧ onRing ringS
      x19.h.toNat hd rg ∧ rg.size < x19.nw.toNat) ∧
    (ringS.rP opH.g.toNat ^^^ opH.gn = (1 : BitVec 1) ∧ ringS.ringBusy opH.h.toNat = false ∧ onRing ringS
      opH.h.toNat hd rg ∧ opH.nw.toNat ≤ rg.size ∧ (ringS.claimed opH.h.toNat).length < opH.nw.toNat) ∧
    (resS3.rP opH.g.toNat ^^^ opH.gn = (1 : BitVec 1) ∧ resS3.ringBusy opH.h.toNat = false ∧ onRing resS3
      opH.h.toNat hdR rg ∧ opH.nw.toNat ≤ rg.size ∧ resS3.commitPending opH.h.toNat = false ∧ resS3.pl.residOf
      hdR = some x20 ∧ (x20.nw < opH.nw.toNat ∨ opH.am ≠ (0 : BitVec 2) ∨ rg.shared = false ∧ hdR.res ≠ 0 ∧
      hdR.resColour ≠ resS3.pl.firing.colour)) ∧
    ((rings rgB3 plR).rP opH.g.toNat ^^^ opH.gn = (1 : BitVec 1) ∧ (rings rgB3 plR).ringBusy opH.h.toNat = false
      ∧ (rings rgB3 plR).handle opH.h.toNat = some (hd, rgB3) ∧ opH.nw.toNat ≤ rgB3.size ∧ (rings rgB3
      plR).badGone opH.h.toNat = true ∧ Instr.await opH ∈ [Instr.rld opH, Instr.rst opH, Instr.rpeek opH,
      Instr.rmark opH, Instr.rfmt opH, Instr.claim opH, Instr.commit opH, Instr.await opH, Instr.retire opH,
      Instr.radv opH]) ∧
    ((rings rgF3 plR).rP opH.g.toNat ^^^ opH.gn = (1 : BitVec 1) ∧ (rings rgF3 plR).ringBusy opH.h.toNat = false
      ∧ (rings rgF3 plR).handle opH.h.toNat = some (hd, rgF3) ∧ rgF3.isLive hd.branch = false ∧ find rgF3.bad
      hd.branch = none ∧ opH.nw.toNat ≤ rgF3.size ∧ (rings rgF3 plR).commitPending opH.h.toNat = false ∧
      Instr.await opH ∈ [Instr.rld opH, Instr.rpeek opH, Instr.await opH, Instr.retire opH, Instr.radv opH]) ∧
    ((rings rgB3 plR).rP opK.g.toNat ^^^ opK.gn = (1 : BitVec 1) ∧ (rings rgB3 plR).ringBusy (fld opK.kreg 0 4)
      = false ∧ (rings rgB3 plR).away (fld opK.kreg 0 4) = false ∧ (rings rgB3 plR).badGone (fld opK.kreg 0 4) =
      true) ∧
    (claimS.rP opK.g.toNat ^^^ opK.gn = (1 : BitVec 1) ∧ claimS.ringBusy (fld opK.kreg 0 4) = false ∧
      claimS.away (fld opK.kreg 0 4) = false ∧ claimS.badGone (fld opK.kreg 0 4) = false ∧ claimS.handleInUse
      (fld opK.kreg 0 4) = true) ∧
    (ringS.rP x21.g.toNat ^^^ x21.gn = (1 : BitVec 1) ∧ ringS.ringBusy (fld x21.kreg 0 4) = false ∧ ringS.away
      (fld x21.kreg 0 4) = false ∧ ringS.badGone (fld x21.kreg 0 4) = false ∧ ringS.handleInUse (fld x21.kreg 0
      4) = false ∧ 2 ^ 39 ≤ BitVec.toNat (ringS.rS x21.a.toNat)) ∧
    (ringS.rP x22.g.toNat ^^^ x22.gn = (1 : BitVec 1) ∧ ringS.ringBusy (fld x22.kreg 0 4) = false ∧ ringS.away
      (fld x22.kreg 0 4) = false ∧ ringS.badGone (fld x22.kreg 0 4) = false ∧ find ringS.pl.h (fld x22.kreg 0 4)
      = none) ∧
    (ringS.rP x23.g.toNat ^^^ x23.gn = (1 : BitVec 1) ∧ ringS.ringBusy (fld x23.kreg 0 4) = false ∧ ringS.away
      (fld x23.kreg 0 4) = false ∧ ringS.badGone (fld x23.kreg 0 4) = false ∧ onRing ringS (fld x23.kreg 0 4) hd
      rg ∧ 2 ^ 40 ≤ BitVec.toNat (ringS.rS x23.a.toNat)) ∧
    (claimS.rP opA.g.toNat ^^^ opA.gn = (1 : BitVec 1) ∧ claimS.pl.firing.claims = [(3, [0, 1, 2])]) ∧
    (resS3.rP opH.g.toNat ^^^ opH.gn = (1 : BitVec 1) ∧ resS3.ringBusy opH.h.toNat = false ∧ onRing resS3
      opH.h.toNat hdR rg ∧ opH.nw.toNat ≤ rg.size ∧ resS3.commitPending opH.h.toNat = false ∧ resS3.pl.residOf
      hdR = some x20 ∧ Instr.retire opH ∈ [Instr.retire opH, Instr.radv opH]) :=
  by
  and_intros <;> first
    | decide +kernel
    | unfold onRing; decide +kernel

end Sys2Proof.Tests.Rings
end

