-- ==== Sys2Proof/Tests/Scalar.lean ====
section
/-!
SUPPORT. For each hypothesis list of the scalar, branch and vector statements, a concrete state and operands that meet all of it together:
one conjunct for each clause of a statement.
-/
namespace Sys2Proof.Tests.Scalar
open Sys2Proof Sys2Proof.Machine Sys2Proof.Tests
set_option maxRecDepth 20000
set_option Elab.async false

def opA3 : OpA := { opA with w := 0, a := 6, b := 5 }
def x6 := {opA with d := 3, a := 2, b := 0}
def x9 := {opB with off := 12}
def x11 := (st {pl0 with progSize := 9})
def tk : Take := { tid := 7, job := 1, region := 2048, colour := 2, ctx := 5, source := .slate, slate := {}, born := 0 }
def endS : Machine.State := { scal with takes := [(7, tk)], ctxs := [(5, { tid := 7, state := .run, sent := 3 })] }
def resd1 : Resid := { key := 16, branch := 0, nw := 1, slots := [0] }
def plE1 : Plane := { plR with h := [(3, { hd with res := 0, resColour := 2, resTid := 7, resId := 4 })], resid := [(4, resd1)], firing := { fir with retireAtEnd := [4] } }
def rgnE : Region := { rgn with cellsLeft := [0] }
def eotS : Machine.State := { st { pl0 with eotLeft := true } with regions := [(2048, rgnE)], jobs := [(1, jbR)] }
def x12 := {opI with imm := 64}
def x13 := (Instr.shli {opI with imm := 64})
def x14 := {opF with imm := 0x3F01}
def x15 := (Instr.bfx {opF with imm := 0x3F01})
def x6b := {opV with t := 0}
def x8b := {opV with t := 1}
def x10b := {opV with t := 4}
def x13b := {opV with t := 5, imm := 0x80067}
def x15b := {opV with t := 0, imm := 0x3}
def x17b := {opV with m := 0, imm := 0x0C4A}
def x19b := {opV with imm := 0x3E4}
def x20b := {opV with imm := 0x1048}

/-- The hypotheses of ShiftsCountsAndBitFields can be met together, clause by clause. -/
theorem witness_ShiftsCountsAndBitFields :
    (opI.imm.toNat < widthN opI.w) ∧
    (opF.imm.toNat % 64 + (opF.imm.toNat / 2 ^ 8 % 64 + 1) ≤ 64) ∧
    (widthN x12.w ≤ x12.imm.toNat ∧ x13 ∈ [Instr.shli x12, Instr.shri x12, Instr.sari x12, Instr.rotli x12]) ∧
    (64 < x14.imm.toNat % 64 + x14.imm.toNat / 2 ^ 8 % 64 + 1 ∧ x15 ∈ [Instr.bfx x14, Instr.bfxu x14, Instr.bfi
      x14]) :=
  by and_intros <;> decide +kernel

/-- The hypotheses of ComparesAndPredicateLogic can be met together, clause by clause. -/
theorem witness_ComparesAndPredicateLogic :
    (x6.predOk = true) ∧
    ((false = true ↔ condAsks Cond.lt (scal.rS opC.a.toNat) (scal.rS opC.b.toNat))) ∧
    ((true = true ↔ condAsks Cond.lt (scal.rS opC.a.toNat) (BitVec.ofInt 64 opC.imm.toInt))) :=
  by
  and_intros <;> first
    | decide +kernel
    | exact ⟨fun h => absurd h (by decide), fun h => absurd h (by show ¬ (_ < _); decide +kernel)⟩
    | exact ⟨fun _ => by show _ < _; decide +kernel, fun _ => rfl⟩

/-- The hypotheses of BranchesAndTheEndOfAFiring can be met together, clause by clause. -/
theorem witness_BranchesAndTheEndOfAFiring :
    (↑8 = ↑scal.pc + opB.off.toInt ∧ 8 < scal.pl.progSize) ∧
    (scal.rP x9.g.toNat ^^^ x9.gn = (1 : BitVec 1) ∧ (↑scal.pc + x9.off.toInt < (0 : Int) ∨ ↑scal.pl.progSize ≤
      ↑scal.pc + x9.off.toInt)) ∧
    (x11.rP opA3.g.toNat ^^^ opA3.gn = (1 : BitVec 1)) ∧
    ((∀ (e : Nat × List Nat), e ∈ endS.pl.firing.claims → e.snd = []) ∧ endS.pl.firing.retireAtEnd = [] ∧
      endS.pl.eotLeft = false ∧ endS.take endS.pl.firing.tid = some tk ∧ (endS.ctx tk.ctx).tid = tk.tid) ∧
    ((rings rg plE1).rP opA3.g.toNat ^^^ opA3.gn = (1 : BitVec 1) ∧ (∀ (e : Nat × List Nat), e ∈ (rings rg
      plE1).pl.firing.claims → e.snd = []) ∧ (rings rg plE1).pl.firing.retireAtEnd = [4] ∧ 4 ≠ 0 ∧ find (rings
      rg plE1).pl.resid 4 = some resd1 ∧ resd1.bad = false ∧ resd1.slots ≠ [] ∧ (rings rg plE1).pl.holdsBack 4
      resd1 = false ∧ (rings rg plE1).ring resd1.key ≠ none ∧ (rings rg plE1).pl.eotLeft = false) ∧
    (eotS.rP opA3.g.toNat ^^^ opA3.gn = (1 : BitVec 1) ∧ eotS.pl.firing.claims = [] ∧ eotS.pl.firing.retireAtEnd
      = [] ∧ eotS.pl.eotLeft = true ∧ eotS.region eotS.pl.owner = some rgnE ∧ rgnE.key = eotS.pl.owner ∧
      rgnE.place = Placement.eligible ∧ rgnE.cellsLeft = [cellNoOf eotS.cur] ∧ eotS.pl.tokens = [] ∧ eotS.pl.mq
      = [] ∧ eotS.pl.stash = [] ∧ eotS.pl.ownParks = [] ∧ eotS.pl.user.release = none ∧ eotS.pl.user.drain =
      none ∧ eotS.pl.handler.release = none ∧ eotS.pl.handler.drain = none ∧ eotS.rings = [] ∧ eotS.takes = [] ∧
      eotS.cores = []) ∧
    (BitVec.toNat (scal.rS 31) < scal.pl.progSize) ∧
    (BitVec.toNat (scal.rS opA.a.toNat) < scal.pl.progSize) ∧
    (x11.rP opA3.g.toNat ^^^ opA3.gn = (1 : BitVec 1) ∧ x11.pl.progSize ≤ BitVec.toNat (x11.rS 31)) ∧
    (x11.rP opA3.g.toNat ^^^ opA3.gn = (1 : BitVec 1) ∧ x11.pl.progSize ≤ BitVec.toNat (x11.rS opA3.a.toNat)) :=
  by and_intros <;> decide +kernel

/-- The hypotheses of VectorIntegerLanes can be met together, clause by clause. -/
theorem witness_VectorIntegerLanes :
    (opV.rm = (0 : BitVec 3)) ∧
    (opV.rm = (0 : BitVec 3) ∧ isFloatTag opV.t = false) :=
  by and_intros <;> decide +kernel

/-- The hypotheses of VectorFloatingLanes can be met together, clause by clause. -/
theorem witness_VectorFloatingLanes :
    (isFloatTag x6b.t = true ∧ (x6b.rm = (5 : BitVec 3) → scal.pl.drawsQueued = false)) ∧
    (isFloatTag x8b.t = true ∧ x8b.rm = (0 : BitVec 3)) ∧
    (isFloatTag x6b.t = true ∧ (x6b.rm = (5 : BitVec 3) → scal.pl.drawsQueued = false) ∧ x6b.t.toNat ≤ 2) :=
  by and_intros <;> decide +kernel

/-- The hypotheses of ReductionsSelectionsAndCompares can be met together, clause by clause. -/
theorem witness_ReductionsSelectionsAndCompares :
    ((opV.rm = (5 : BitVec 3) → scal.pl.drawsQueued = false)) ∧
    (opV.rm = (0 : BitVec 3)) ∧
    (opV.rm = (0 : BitVec 3) ∧ opV.vd.toNat < 8) ∧
    ((opV.rm = (5 : BitVec 3) → scal.pl.drawsQueued = false) ∧ isFloatTag opV.t = false) ∧
    ((x10b.rm = (5 : BitVec 3) → scal.pl.drawsQueued = false) ∧ isFloatTag x10b.t = true) ∧
    ((opV.rm = (5 : BitVec 3) → scal.pl.drawsQueued = false) ∧ opV.t = (7 : BitVec 3)) ∧
    ((x6b.rm = (5 : BitVec 3) → scal.pl.drawsQueued = false) ∧ x6b.t = (0 : BitVec 3)) :=
  by and_intros <;> decide +kernel

/-- The hypotheses of VectorMovesAndConversion can be met together, clause by clause. -/
theorem witness_VectorMovesAndConversion :
    (opV.rm = (0 : BitVec 3)) ∧
    ((x15b.rm = (5 : BitVec 3) → scal.pl.drawsQueued = false) ∧ x15b.imm.toNat / 8 % 8 < max (elemWidth x15b.t /
      elemWidth (BitVec.ofNat 3 x15b.imm.toNat)) (elemWidth (BitVec.ofNat 3 x15b.imm.toNat) / elemWidth x15b.t))
      ∧
    (opV.rm = (0 : BitVec 3) ∧ opV.imm.toNat < 2 ^ 19) ∧
    (x13b.rm = (0 : BitVec 3) ∧ 2 ^ 19 ≤ x13b.imm.toNat) ∧
    (x19b.rm = (0 : BitVec 3) ∧ x19b.imm.toNat / 2 ^ 5 % 256 < 1024 / elemWidth x19b.t) :=
  by and_intros <;> decide +kernel

/-- The hypotheses of VectorCompactionAndMerge can be met together, clause by clause. -/
theorem witness_VectorCompactionAndMerge :
    (opV.rm = (0 : BitVec 3) ∧ 2 ^ (opV.imm.toNat / 2 ^ 8 % 8) ≤ 1024 / elemWidth opV.t ∧ opV.imm.toNat / 2 ^ 11
      % 128 < 2 ^ (opV.imm.toNat / 2 ^ 8 % 8)) ∧
    (x17b.rm = (0 : BitVec 3)) ∧
    ((¬(2 ^ (x20b.imm.toNat / 2 ^ 8 % 8) ≤ 1024 / elemWidth x20b.t ∧ x20b.imm.toNat / 2 ^ 11 % 128 < 2 ^
      (x20b.imm.toNat / 2 ^ 8 % 8)))) :=
  by and_intros <;> decide +kernel

end Sys2Proof.Tests.Scalar
end

