-- ==== Sys2Proof/Tests/Words.lean ====
section
/-!
SUPPORT. Words written out from the spec's encodings, one or more for every instruction that has a word, and the
instruction that each stands for (R41, R43 to R51, R233, R366 and the field table of each class).
-/
namespace Sys2Proof.Tests
open Sys2Proof
set_option Elab.async false

/-- Every stage word of a list decodes to the instruction beside it. -/
def stageWordsDecode (l : List (BitVec 64 × Instr)) : Bool :=
  l.all fun p => match decodeStage p.1 with | .ok i => i == p.2 | .error _ => false

/-- What decodeCommand answers, from a check that computes. -/
theorem commandDecodes {c : Cmd} {i : Instr}
    (h : (match decodeCommand c with | .ok j => j == i | .error _ => false) = true) : decodeCommand c = .ok i := by
  split at h
  · next j hj => rw [hj, beq_iff_eq.1 h]
  · exact absurd h (by decide)

/-- Every script word of a list, with the word after it, decodes to the instruction beside it. -/
def scriptWordsDecode (l : List (BitVec 32 × BitVec 32 × Instr)) : Bool :=
  l.all fun p => match decodeScript p.1 p.2.1 with | .ok i => i == p.2.2 | .error _ => false

theorem test_words_00_1 : stageWordsDecode [
    (0x0004800000000000, .nop ⟨1, 0, 0, 0, 0, 0⟩),
    (0x000A400000000000, .endFiring ⟨4, 1, 0, 0, 0, 0⟩),
    (0x0043951C40000000, .add ⟨7, 0, 10, 17, 24, 2⟩),
    (0x00457E6680000000, .sub ⟨2, 1, 31, 6, 13, 0⟩),
    (0x004AA9B120000000, .mul ⟨5, 0, 20, 27, 2, 1⟩),
    (0x004C530BC0000000, .mulh ⟨0, 1, 9, 16, 23, 2⟩),
    (0x0051BC5600000000, .mulhu ⟨3, 0, 30, 5, 12, 0⟩),
    (0x005767A0A0000000, .div ⟨6, 1, 19, 26, 1, 1⟩),
    (0x005890FB40000000, .divu ⟨1, 0, 8, 15, 22, 2⟩),
    (0x005E7A4580000000, .rem ⟨4, 1, 29, 4, 11, 0⟩),
    (0x0063A59020000000, .remu ⟨7, 0, 18, 25, 0, 1⟩),
    (0x00814EEAC0000000, .andS ⟨2, 1, 7, 14, 21, 2⟩),
    (0x0086B83500000000, .andn ⟨5, 0, 28, 3, 10, 0⟩),
    (0x0088638FA0000000, .orS ⟨0, 1, 17, 24, 31, 1⟩),
    (0x008D8CDA40000000, .xorS ⟨3, 0, 6, 13, 20, 2⟩),
    (0x00A3762480000000, .shl ⟨6, 1, 27, 2, 9, 0⟩)] = true := by
  decide +kernel

theorem test_words_00_2 : stageWordsDecode [
    (0x00A4A17F20000000, .shr ⟨1, 0, 16, 23, 30, 1⟩),
    (0x00AA4AC9C0000000, .sar ⟨4, 1, 5, 12, 19, 2⟩),
    (0x00AFB41400000000, .rotl ⟨7, 0, 26, 1, 8, 0⟩),
    (0x00E15F6EA0000000, .min ⟨2, 1, 15, 22, 29, 1⟩),
    (0x00E688B940000000, .max ⟨5, 0, 4, 11, 18, 2⟩),
    (0x00E8720380000000, .minu ⟨0, 1, 25, 0, 7, 0⟩),
    (0x00ED9D5E20000000, .maxu ⟨3, 0, 14, 21, 28, 1⟩),
    (0x010746A8C0000000, .sel ⟨6, 1, 3, 10, 17, 2⟩),
    (0x00C0B1F000000000, .clz ⟨1, 0, 24, 31, 0, 0⟩),
    (0x00C64CD020000000, .ctz ⟨4, 1, 6, 13, 0, 1⟩),
    (0x00CBA9B040000000, .popc ⟨7, 0, 20, 27, 0, 2⟩),
    (0x0101449000000000, .mov ⟨2, 1, 2, 9, 0, 0⟩),
    (0x012ABF10A0000000, .addsh 2 ⟨5, 0, 31, 17, 1, 1⟩)] = true := by
  decide +kernel

theorem test_words_01 : stageWordsDecode [
    (0x04406178FEDC001D, .addi ⟨0, 1, 16, 23, 2, 4275830813⟩),
    (0x0481BC50FEDC001E, .andi ⟨3, 0, 30, 5, 0, 4275830814⟩),
    (0x048B5934FEDC001F, .ori ⟨6, 1, 12, 19, 1, 4275830815⟩),
    (0x048CB418FEDC0020, .xori ⟨1, 0, 26, 1, 2, 4275830816⟩),
    (0x04A250F00000001F, .shli ⟨4, 1, 8, 15, 0, 31⟩),
    (0x04A7ADD40000001F, .shri ⟨7, 0, 22, 29, 1, 31⟩),
    (0x04A948B80000001F, .sari ⟨2, 1, 4, 11, 2, 31⟩),
    (0x04AEA5900000001F, .rotli ⟨5, 0, 18, 25, 0, 31⟩),
    (0x050052A080000001, .lui ⟨0, 1, 9, 10, 0, 2147483649⟩),
    (0x0541807000003708, .bfx ⟨3, 0, 0, 7, 0, 14088⟩),
    (0x05475D5000003708, .bfxu ⟨6, 1, 14, 21, 0, 14088⟩),
    (0x0548B83000003708, .bfi ⟨1, 0, 28, 3, 0, 14088⟩)] = true := by
  decide +kernel

theorem test_words_02 : stageWordsDecode [
    (0x08126FE000000000, .cmp .ltu ⟨4, 1, 5, 31, 16, 0⟩),
    (0x08279841FFFFFFFE, .cmpi .leu ⟨7, 0, 3, 1, 0, 4294967294⟩)] = true := by
  decide +kernel

theorem test_words_03 : stageWordsDecode [
    (0x0C054E2080000000, .pand ⟨2, 1, 7, 2, 1, 0⟩),
    (0x0C0A8E0380000000, .por ⟨5, 0, 7, 0, 7, 0⟩),
    (0x0C0C4E6280000000, .pxor ⟨0, 1, 7, 6, 5, 0⟩),
    (0x0C118C1000000000, .pnot ⟨3, 0, 6, 1, 0, 0⟩)] = true := by
  decide +kernel

theorem test_words_04 : stageWordsDecode [
    (0x10074000FFFFFFF0, .br ⟨6, 1, 4294967280⟩),
    (0x1008800000000123, .bl ⟨1, 0, 291⟩)] = true := by
  decide +kernel

theorem test_words_05 : stageWordsDecode [
    (0x1406400000000000, .ret ⟨4, 1, 0, 0, 0, 0⟩),
    (0x140B81F000000000, .jmpr ⟨7, 0, 0, 31, 0, 0⟩)] = true := by
  decide +kernel

theorem test_words_0C : stageWordsDecode [
    (0x30057E420A000000, .rld ⟨2, 1, 15, 9, 2, 0, 2, 4, 0⟩),
    (0x300AA3C100000000, .rst ⟨5, 0, 8, 15, 1, 0, 0, 0, 0⟩),
    (0x300C50FFF03E0000, .rpeek ⟨0, 1, 4, 3, 63, 15, 0, 0, 62⟩),
    (0x301190C600050000, .rmark ⟨3, 0, 4, 3, 6, 0, 0, 0, 5⟩),
    (0x3017478200010000, .rfmt ⟨6, 1, 1, 14, 2, 0, 0, 0, 1⟩),
    (0x304081E100000000, .claim ⟨1, 0, 0, 7, 33, 0, 0, 0, 0⟩),
    (0x304641D100000000, .commit ⟨4, 1, 0, 7, 17, 0, 0, 0, 0⟩),
    (0x304B808504000000, .await ⟨7, 0, 0, 2, 5, 0, 1, 0, 0⟩),
    (0x304D407F00000000, .retire ⟨2, 1, 0, 1, 63, 0, 0, 0, 0⟩),
    (0x3052B5A808800000, .radv ⟨5, 0, 13, 6, 40, 0, 2, 1, 0⟩)] = true := by
  decide +kernel

theorem test_words_0D : stageWordsDecode [
    (0x340441500F000000, .rbind ⟨0, 1, 0, 21, 15, 0⟩),
    (0x3409800009000000, .runbind ⟨3, 0, 0, 0, 9, 0⟩),
    (0x340F41E004000000, .rcast ⟨6, 1, 0, 30, 4, 0⟩),
    (0x3410800001000000, .rdet ⟨1, 0, 0, 0, 1, 0⟩),
    (0x341666000C000000, .rstat ⟨4, 1, 19, 0, 12, 0⟩)] = true := by
  decide +kernel

theorem test_words_10 : stageWordsDecode [
    (0x400792C80CB00000, .vadd ⟨7, 0, 4, 11, 2, 0, 1, 4, 5, 1, 0⟩),
    (0x400D41F82CB00000, .vsub ⟨2, 1, 0, 7, 14, 0, 5, 4, 5, 1, 0⟩),
    (0x4012B0E80CB00000, .vmul ⟨5, 0, 12, 3, 10, 0, 1, 4, 5, 1, 0⟩),
    (0x400878E43D000000, .vadds ⟨0, 1, 14, 3, 9, 0, 7, 5, 0, 0, 0⟩),
    (0x4015A3DB66600000, .vfma ⟨3, 0, 8, 15, 6, 13, 4, 6, 3, 0, 0⟩),
    (0x401B6CA43E600000, .vfms ⟨6, 1, 11, 2, 9, 0, 7, 6, 3, 0, 0⟩),
    (0x401CB97019000000, .vmin ⟨1, 0, 14, 5, 12, 0, 3, 1, 0, 0, 0⟩),
    (0x4022686039000000, .vmax ⟨4, 1, 10, 1, 8, 0, 7, 1, 0, 0, 0⟩),
    (0x40279B4027000000, .vabs ⟨7, 0, 6, 13, 0, 0, 4, 7, 0, 0, 0⟩),
    (0x40296C800F000000, .vneg ⟨2, 1, 11, 2, 0, 0, 1, 7, 0, 0, 0⟩)] = true := by
  decide +kernel

theorem test_words_11 : stageWordsDecode [
    (0x440681F82A000000, .vand ⟨5, 0, 0, 7, 14, 0, 5, 2, 0, 0, 0⟩),
    (0x440870E80A000000, .vor ⟨0, 1, 12, 3, 10, 0, 1, 2, 0, 0, 0⟩),
    (0x440DA3D82A000000, .vxor ⟨3, 0, 8, 15, 6, 0, 5, 2, 0, 0, 0⟩),
    (0x441F52C80A000000, .vsel ⟨6, 1, 4, 11, 2, 0, 1, 2, 0, 0, 0⟩),
    (0x441081F82D000000, .vshl ⟨1, 0, 0, 7, 14, 0, 5, 5, 0, 0, 0⟩),
    (0x441670E80D000000, .vshr ⟨4, 1, 12, 3, 10, 0, 1, 5, 0, 0, 0⟩),
    (0x441BA3D82D000000, .vsar ⟨7, 0, 8, 15, 6, 0, 5, 5, 0, 0, 0⟩),
    (0x444D5FE013000000, .vcmp .ge ⟨2, 1, 7, 15, 8, 0, 2, 3, 0, 0, 0⟩)] = true := by
  decide +kernel

theorem test_words_12 : stageWordsDecode [
    (0x4806A5000B50000A, .vcvt ⟨5, 0, 9, 4, 0, 0, 1, 3, 2, 1, 10⟩),
    (0x480852C012900000, .vrcp ⟨0, 1, 4, 11, 0, 0, 2, 2, 4, 1, 0⟩),
    (0x480DA4003A900000, .vrsq ⟨3, 0, 9, 0, 0, 0, 7, 2, 4, 1, 0⟩),
    (0x4813794022900000, .vexp2 ⟨6, 1, 14, 5, 0, 0, 4, 2, 4, 1, 0⟩),
    (0x48148E800A900000, .vlog2 ⟨1, 0, 3, 10, 0, 0, 1, 2, 4, 1, 0⟩),
    (0x481A44801E3001FF, .vscale ⟨4, 1, 1, 2, 0, 0, 3, 6, 1, 1, 511⟩)] = true := by
  decide +kernel

theorem test_words_13 : stageWordsDecode [
    (0x4C07BE0021A00000, .vredadd ⟨7, 0, 15, 8, 0, 0, 4, 1, 5, 0, 0⟩),
    (0x4C0963C02D000000, .vredmax ⟨2, 1, 8, 15, 0, 0, 5, 5, 0, 0, 0⟩),
    (0x4C0E8F0036000000, .vredmin ⟨5, 0, 3, 12, 0, 0, 6, 6, 0, 0, 0⟩),
    (0x4C10568038400000, .vscan ⟨0, 1, 5, 10, 0, 0, 7, 0, 2, 0, 0⟩),
    (0x4C1580003300001F, .vcnt ⟨3, 0, 0, 0, 0, 0, 6, 3, 0, 0, 31⟩)] = true := by
  decide +kernel

theorem test_words_14 : stageWordsDecode [
    (0x500745B417000000, .vperm ⟨6, 1, 1, 6, 13, 0, 2, 7, 0, 0, 0⟩),
    (0x500898002B0800A5, .vsplat ⟨1, 0, 6, 0, 0, 0, 5, 3, 0, 0, 524453⟩),
    (0x500E424004000FF1, .vext ⟨4, 1, 0, 9, 0, 0, 0, 4, 0, 0, 4081⟩),
    (0x5013B00006001FFE, .vins ⟨7, 0, 12, 0, 0, 0, 0, 6, 0, 0, 8190⟩),
    (0x501549EC00000000, .vpack ⟨2, 1, 2, 7, 11, 0, 0, 0, 0, 0, 0⟩),
    (0x501AAD0000000001, .vunpk ⟨5, 0, 11, 4, 0, 0, 0, 0, 0, 0, 1⟩),
    (0x501C69401F003BD5, .vcomp ⟨0, 1, 10, 5, 0, 0, 3, 7, 0, 0, 15317⟩),
    (0x50219230070007FF, .vmrg ⟨3, 0, 4, 8, 12, 0, 0, 7, 0, 0, 2047⟩)] = true := by
  decide +kernel

theorem test_words_18 : stageWordsDecode [
    (0x60077C0003500000, .mma ⟨6, 1, 30, 0, 0, 0, 0, 0, 6, 5, 0⟩),
    (0x6008800E83A00000, .mmaAdv ⟨1, 0, 0, 0, 1, 13, 0, 0, 7, 2, 0⟩),
    (0x604242E0F0000000, .mldbHandle ⟨4, 1, 0, 11, 32, 15, 0, 0, 0⟩),
    (0x604781D000600000, .mldbBank ⟨7, 0, 0, 29, 0, 0, 0, 0, 0, 6, 0⟩),
    (0x6049416004000000, .mldbtHandle ⟨2, 1, 0, 5, 32, 0, 1, 0, 0⟩),
    (0x604E811000100000, .mldbtBank ⟨5, 0, 0, 17, 0, 0, 0, 0, 0, 1, 0⟩)] = true := by
  decide +kernel

theorem test_words_19 : stageWordsDecode [
    (0x6404400C80000000, .mscaHandle ⟨0, 1, 0, 0, 1, 9, 0, 0, 0, 0, 0⟩),
    (0x6405BE0000000000, .mscaBank ⟨3, 0, 31, 0, 0, 0, 0, 0, 0, 0, 0⟩),
    (0x640B400068000000, .mscbHandle ⟨6, 1, 0, 0, 0, 0, 1, 10, 0, 0, 0⟩),
    (0x640881F000000000, .mscbRegister ⟨1, 0, 0, 31, 0, 0, 0, 0, 0, 0, 0⟩),
    (0x640E676AF8740000, .mkb ⟨4, 1, 19, 22, 1, 5, 1, 14, 0, 7, 2⟩),
    (0x6413800000000000, .mzero ⟨7, 0, 0, 0, 0, 0, 0, 0, 0, 0, 0⟩),
    (0x6415400000000000, .mrel ⟨2, 1, 0, 0, 0, 0, 0, 0, 0, 0, 0⟩),
    (0x641A800000000000, .mwait ⟨5, 0, 0, 0, 0, 0, 0, 0, 0, 0, 0⟩)] = true := by
  decide +kernel

theorem test_words_1A : stageWordsDecode [
    (0x680474000000001F, .mrd ⟨0, 1, 13, 0, 0, 0, 0, 0, 0, 0, 31⟩),
    (0x6809834000000011, .mwr ⟨3, 0, 0, 13, 0, 0, 0, 0, 0, 0, 17⟩)] = true := by
  decide +kernel

theorem test_words_1B : stageWordsDecode [
    (0x6C074121B0800000, .msave ⟨6, 1, 0, 18, 0, 6, 3, 8388608⟩),
    (0x6C088050907FFFC0, .mload ⟨1, 0, 0, 5, 0, 2, 1, 8388544⟩)] = true := by
  decide +kernel

theorem test_words_20 : stageWordsDecode [
    (0x80067E1590FFFFFC, .ld ⟨4, 1, 31, 1, 2, 6, 1, 16777212⟩),
    (0x800B83F720000008, .st ⟨7, 0, 1, 31, 3, 4, 2, 8⟩),
    (0x800D7CCF50123480, .vld ⟨2, 1, 30, 12, 7, 5, 1, 1193088⟩),
    (0x801284D860000010, .vst ⟨5, 0, 2, 13, 4, 1, 2, 16⟩),
    (0x8044464200000002, .ldBk ⟨0, 1, 3, 4, 1, 0, 0, 2⟩),
    (0x80498E8000ABCDEF, .stBk ⟨3, 0, 7, 8, 0, 0, 0, 11259375⟩),
    (0x804F604A00000020, .vldBk ⟨6, 1, 16, 4, 5, 0, 0, 32⟩),
    (0x8050B46C00000040, .vstBk ⟨1, 0, 26, 6, 6, 0, 0, 64⟩)] = true := by
  decide +kernel

theorem test_words_21 : stageWordsDecode [
    (0x840640EC00000040, .swbLine ⟨4, 1, 0, 14, 6, 0, 0, 64⟩),
    (0x8407800E00000000, .swbAll ⟨7, 0, 0, 0, 7, 0, 0, 0⟩),
    (0x840940FC00000080, .sinvLine ⟨2, 1, 0, 15, 6, 0, 0, 128⟩),
    (0x840A800E00000000, .sinvAll ⟨5, 0, 0, 0, 7, 0, 0, 0⟩),
    (0x840C530C000000C0, .spin ⟨0, 1, 9, 16, 6, 0, 0, 192⟩),
    (0x8411951C00000100, .sunpin ⟨3, 0, 10, 17, 6, 0, 0, 256⟩),
    (0x8417400170000000, .fence ⟨6, 1, 0, 0, 0, 5, 3, 0⟩)] = true := by
  decide +kernel

theorem test_words_22 : stageWordsDecode [
    (0x880490FB01880000, .aadd ⟨1, 0, 8, 15, 22, 0, 3, 0, 2⟩),
    (0x880A7A45822C0000, .aadds ⟨4, 1, 29, 4, 11, 0, 4, 1, 3⟩),
    (0x880FA59002C80000, .amin ⟨7, 0, 18, 25, 0, 0, 5, 2, 2⟩),
    (0x88114EEA836C0000, .amax ⟨2, 1, 7, 14, 21, 0, 6, 3, 3⟩),
    (0x8816B83500080000, .aminu ⟨5, 0, 28, 3, 10, 0, 0, 0, 2⟩),
    (0x8818638F80AC0000, .amaxu ⟨0, 1, 17, 24, 31, 0, 1, 1, 3⟩),
    (0x881D8CDA01480000, .aand ⟨3, 0, 6, 13, 20, 0, 2, 2, 2⟩),
    (0x8823762481EC0000, .aor ⟨6, 1, 27, 2, 9, 0, 3, 3, 3⟩),
    (0x8824A17F02080000, .axor ⟨1, 0, 16, 23, 30, 0, 4, 0, 2⟩),
    (0x882A4AC982AC0000, .aswp ⟨4, 1, 5, 12, 19, 0, 5, 1, 3⟩),
    (0x882F8221FF6C0000, .acas ⟨7, 0, 1, 2, 3, 31, 6, 3, 3⟩),
    (0x88316B6B82D80000, .atopk ⟨2, 1, 21, 22, 23, 0, 5, 2, 6⟩)] = true := by
  decide +kernel

theorem test_words_23 : stageWordsDecode [
    (0x8C06864FC5000007, .awarm ⟨5, 0, 3, 4, 4037, 7⟩),
    (0x8C084A007F000001, .awdis ⟨0, 1, 5, 0, 127, 1⟩),
    (0x8C0D8C0082000002, .awrd ⟨3, 0, 6, 0, 130, 2⟩)] = true := by
  decide +kernel

theorem test_words_28 : stageWordsDecode [
    (0xA0074C4783580000, .qpush ⟨6, 1, 6, 4, 15, 0, 6, 2, 6⟩),
    (0xA0088E8480000000, .ddec ⟨1, 0, 7, 8, 9, 0, 0, 0, 0⟩),
    (0xA00E54B600000000, .dset ⟨4, 1, 10, 11, 12, 0, 0, 0, 0⟩)] = true := by
  decide +kernel

theorem test_words_29 : stageWordsDecode [
    (0xA4078E57FF000006, .twait ⟨7, 0, 7, 5, 2047, 6⟩),
    (0xA40950003F000003, .tread ⟨2, 1, 8, 0, 63, 3⟩),
    (0xA40E8000000001FF, .bar ⟨5, 0, 0, 0, 0, 511⟩),
    (0xA410400000000040, .yield ⟨0, 1, 0, 0, 0, 64⟩)] = true := by
  decide +kernel

theorem test_words_2A : stageWordsDecode [
    (0xA80584300F000000, .front ⟨3, 0, 2, 3, 15, 0⟩),
    (0xA80B485000000000, .fdone ⟨6, 1, 4, 5, 0, 0⟩),
    (0xA80C8C7000000001, .fsave ⟨1, 0, 6, 7, 0, 1⟩),
    (0xA812509007000000, .frest ⟨4, 1, 8, 9, 7, 0⟩)] = true := by
  decide +kernel

theorem test_words_2C : stageWordsDecode [
    (0xB0078CFFC9000000, .sreq ⟨7, 0, 6, 15, 4041, 0⟩),
    (0xB00943F08F000000, .sprog ⟨2, 1, 1, 31, 143, 0⟩),
    (0xB00E80E01F000000, .slayout ⟨5, 0, 0, 14, 31, 0⟩),
    (0xB01046C841000000, .scfg ⟨0, 1, 3, 12, 2113, 0⟩),
    (0xB0158801C8000001, .sstop ⟨3, 0, 4, 0, 456, 1⟩)] = true := by
  decide +kernel

theorem test_words_2E : stageWordsDecode [
    (0xB8074C4000000000, .xput ⟨6, 1, 6, 4, 0, 0⟩),
    (0xB8088E5000000000, .xget ⟨1, 0, 7, 5, 0, 0⟩),
    (0xB80E460007000000, .xrateRead ⟨4, 1, 3, 0, 7, 0⟩),
    (0xB80F8E500A000000, .xrateWrite ⟨7, 0, 7, 5, 10, 0⟩),
    (0xB81152A006000000, .xpath ⟨2, 1, 9, 10, 6, 0⟩),
    (0xB816800000000000, .xflush ⟨5, 0, 0, 0, 0, 0⟩),
    (0xB818520063000000, .xstat ⟨0, 1, 9, 0, 99, 0⟩)] = true := by
  decide +kernel

theorem test_words_30 : stageWordsDecode [
    (0xC0058A0301000000, .krd ⟨3, 0, 5, 0, 769, 0⟩),
    (0xC00B409100000000, .kwr ⟨6, 1, 0, 9, 256, 0⟩)] = true := by
  decide +kernel

theorem test_words_31 : stageWordsDecode [
    (0xC404800000FFFFFF, .trap ⟨1, 0, 0, 0, 0, 16777215⟩),
    (0xC40A480000000001, .eret ⟨4, 1, 4, 0, 0, 1⟩),
    (0xC40F800000800001, .brk ⟨7, 0, 0, 0, 0, 8388609⟩),
    (0xC4114C5000000001, .purge ⟨2, 1, 6, 5, 0, 1⟩),
    (0xC416800000000009, .idle ⟨5, 0, 0, 0, 0, 9⟩),
    (0xC41840B000000000, .haltp ⟨0, 1, 0, 11, 0, 0⟩),
    (0xC41D9E0000000000, .errpop ⟨3, 0, 15, 0, 0, 0⟩)] = true := by
  decide +kernel

theorem test_words_script : scriptWordsDecode [
    (0x05200000, 0x00000000, .expect 4 1),
    (0x09C00000, 0x00000000, .look 7 0),
    (0x0E000ABC, 0x00000000, .choose 8 2748),
    (0x11680000, 0x00000000, .pushn 90),
    (0x14000000, 0x00000000, .retn),
    (0x1F680000, 0x00000000, .emit 13 5),
    (0x21800000, 0x00000000, .sync 3),
    (0x270D6C00, 0x00000000, .onerr 195 2 1 11),
    (0x28000000, 0x00000000, .accept),
    (0x30000000, 0x00000000, .sret),
    (0x3A00BEEF, 0x00000000, .trig 2 48879),
    (0x3F000000, 0x00000000, .plsw 3),
    (0x42C3F000, 0x00000000, .waitw 5 33 62),
    (0x46000000, 0x00000000, .kill 1),
    (0x49F80000, 0x00000000, .ntdef 126),
    (0x1A97C3C0, 0xDEADBEEF, .fire 0xA5 0x3C3 6 0xDEADBEEF),
    (0x2FF00000, 0x80000001, .scall 63 0x80000001),
    (0x34900000, 0x00000007, .spawn 9 7)] = true := by
  decide +kernel

/-- The descriptor words of R256's program rowsg. -/
theorem test_words_descriptor :
    decodeDesc 0x0100000003000000 = .ok (.sbase 0x3000000) ∧
    decodeDesc 0x0200000100000040 = .ok (.sdim 0 0 1 64) ∧
    decodeDesc 0x0524400000000000 = .ok (.sfmt 1 1 0 1) ∧
    decodeDesc 0x0608000000000000 = .ok (.smark 0 1) ∧
    decodeDesc 0x0A800000000003E8 = .ok (.spol 1 1000) ∧
    decodeDesc 0x0B00000000001040 = .ok (.scoal 16 64) ∧
    decodeDesc 0x0CC0000000000000 = .ok (.seot 1 1 0 0 0) ∧
    decodeDesc 0x0700000040800011 = .ok (.sdest 0 0 4 32 1 1) := by
  refine ⟨?_, ?_, ?_, ?_, ?_, ?_, ?_, ?_⟩ <;> rfl

theorem test_command_cqsetup :
    decodeCommand ⟨1, 0x000000000000000000000000000000000000000000000000000000000000000000000000000001100000000000003000000000000000BEEFA1B2C3D4E5F60101⟩ =
      .ok (.cqsetup ⟨1, 0x000000000000000000000000000000000000000000000000000000000000000000000000000001100000000000003000000000000000BEEFA1B2C3D4E5F60101⟩) :=
  commandDecodes (by decide +kernel)
theorem test_command_admit :
    decodeCommand ⟨1, 0x00000000000000000000000000000000000000000000000000000000000000000000000000000000123456789ABCDEF0000000000000BEEFA1B2C3D4E5F60102⟩ =
      .ok (.admitJob ⟨1, 0x00000000000000000000000000000000000000000000000000000000000000000000000000000000123456789ABCDEF0000000000000BEEFA1B2C3D4E5F60102⟩) :=
  commandDecodes (by decide +kernel)
theorem test_command_cancel :
    decodeCommand ⟨1, 0x000000000000000000000000000000000000000000000000000000000000000000000000000000000000000000000000000000000000BEEFA1B2C3D4E5F60103⟩ =
      .ok (.cancel ⟨1, 0x000000000000000000000000000000000000000000000000000000000000000000000000000000000000000000000000000000000000BEEFA1B2C3D4E5F60103⟩) :=
  commandDecodes (by decide +kernel)
theorem test_command_map :
    decodeCommand ⟨1, 0x000000000000000000000000000000000000000000000000800000000000000700000000000000020000000000040000000000000000BEEFA1B2C3D4E5F60104⟩ =
      .ok (.map ⟨1, 0x000000000000000000000000000000000000000000000000800000000000000700000000000000020000000000040000000000000000BEEFA1B2C3D4E5F60104⟩) :=
  commandDecodes (by decide +kernel)
theorem test_command_faultsvc :
    decodeCommand ⟨1, 0x000000000000000000000000000000000000000000000000000000000000000000000000000000010000000000ABC000000000000000BEEFA1B2C3D4E5F60105⟩ =
      .ok (.faultsvc ⟨1, 0x000000000000000000000000000000000000000000000000000000000000000000000000000000010000000000ABC000000000000000BEEFA1B2C3D4E5F60105⟩) :=
  commandDecodes (by decide +kernel)
theorem test_command_pload :
    decodeCommand ⟨1, 0x000000000000000000000000000000000000000000000000000000000000000000000000000000050000000000007000000000000000BEEFA1B2C3D4E5F60106⟩ =
      .ok (.pload ⟨1, 0x000000000000000000000000000000000000000000000000000000000000000000000000000000050000000000007000000000000000BEEFA1B2C3D4E5F60106⟩) :=
  commandDecodes (by decide +kernel)
theorem test_command_qreg :
    decodeCommand ⟨1, 0x000000000000000000000000000000000000000000000000000000000000000000000000000000000000000000008040000000000000BEEFA1B2C3D4E5F60107⟩ =
      .ok (.qreg ⟨1, 0x000000000000000000000000000000000000000000000000000000000000000000000000000000000000000000008040000000000000BEEFA1B2C3D4E5F60107⟩) :=
  commandDecodes (by decide +kernel)
theorem test_command_query :
    decodeCommand ⟨1, 0x000000000000000000000000000000000000000000000000000000000000000000000000000090000000000000000003000000000000BEEFA1B2C3D4E5F60108⟩ =
      .ok (.query ⟨1, 0x000000000000000000000000000000000000000000000000000000000000000000000000000090000000000000000003000000000000BEEFA1B2C3D4E5F60108⟩) :=
  commandDecodes (by decide +kernel)
theorem test_command_attest :
    decodeCommand ⟨1, 0x0000000000000000000000000000A0002200000000000000000000000000000000000000000000000000000000000011000000000000BEEFA1B2C3D4E5F60109⟩ =
      .ok (.attest ⟨1, 0x0000000000000000000000000000A0002200000000000000000000000000000000000000000000000000000000000011000000000000BEEFA1B2C3D4E5F60109⟩) :=
  commandDecodes (by decide +kernel)
theorem test_command_reset :
    decodeCommand ⟨1, 0x0000000000000000000000000000000000000000000000000000000000000000000000000000000052455345545A5858000000000000BEEFA1B2C3D4E5F6010A⟩ =
      .ok (.reset ⟨1, 0x0000000000000000000000000000000000000000000000000000000000000000000000000000000052455345545A5858000000000000BEEFA1B2C3D4E5F6010A⟩) :=
  commandDecodes (by decide +kernel)
theorem test_command_power :
    decodeCommand ⟨1, 0x000000000000000000000000000000000000000000000000000000000000000001020304050607080000000000000102000000000000BEEFA1B2C3D4E5F6010B⟩ =
      .ok (.power ⟨1, 0x000000000000000000000000000000000000000000000000000000000000000001020304050607080000000000000102000000000000BEEFA1B2C3D4E5F6010B⟩) :=
  commandDecodes (by decide +kernel)
theorem test_command_ras :
    decodeCommand ⟨1, 0x000000000000000000000000000000000000000000000000000000000000000000000000000000000000000000000001000000000000BEEFA1B2C3D4E5F6010C⟩ =
      .ok (.ras ⟨1, 0x000000000000000000000000000000000000000000000000000000000000000000000000000000000000000000000001000000000000BEEFA1B2C3D4E5F6010C⟩) :=
  commandDecodes (by decide +kernel)
theorem test_command_resume :
    decodeCommand ⟨1, 0x0000000000000000000000000000000000000000000000000000000000000000000000000000000000000000000FC807000000000000BEEFA1B2C3D4E5F6010D⟩ =
      .ok (.resume ⟨1, 0x0000000000000000000000000000000000000000000000000000000000000000000000000000000000000000000FC807000000000000BEEFA1B2C3D4E5F6010D⟩) :=
  commandDecodes (by decide +kernel)
theorem test_command_apmap :
    decodeCommand ⟨1, 0x00000000000000000000000000000000000000000000000000000000000000000000000400000000000000000000013F000000000000BEEFA1B2C3D4E5F6010E⟩ =
      .ok (.apmap ⟨1, 0x00000000000000000000000000000000000000000000000000000000000000000000000400000000000000000000013F000000000000BEEFA1B2C3D4E5F6010E⟩) :=
  commandDecodes (by decide +kernel)
theorem test_command_patch :
    decodeCommand ⟨1, 0x00000000000000000000000000000000000000000000000000000000000000000000000000010000000000000000B000000000000000BEEFA1B2C3D4E5F6010F⟩ =
      .ok (.patch ⟨1, 0x00000000000000000000000000000000000000000000000000000000000000000000000000010000000000000000B000000000000000BEEFA1B2C3D4E5F6010F⟩) :=
  commandDecodes (by decide +kernel)

end Sys2Proof.Tests
end

