-- ==== Sys2Proof/Tests/Slice0.lean ====
section
/-!
SUPPORT. The smoke test of WellFormed with an ill-formed term for each of its checks, the state after reset, and
witnesses for the statements about encodings, guards, rounding and every step.
-/
namespace Sys2Proof.Tests
open Sys2Proof Sys2Proof.Machine
set_option Elab.async false

/-- No instruction of a list is well formed. -/
def allRefused (l : List Instr) : Bool := l.all fun i => !i.wf

/-- Operands of each format that the common checks accept. -/
def oA : OpA := ⟨0, 0, 1, 2, 3, 0⟩
def oI : OpI := ⟨0, 0, 1, 2, 0, 0⟩
def oC : OpC := ⟨0, 0, 1, 2, 0, 0⟩
def oH : OpH := ⟨0, 0, 0, 1, 2, 0, 0, 0, 0⟩
def oV : OpV := ⟨0, 0, 1, 2, 0, 0, 0, 5, 0, 0, 0⟩
def oM : OpM := ⟨0, 0, 0, 0, 0, 0, 0, 0, 0, 0, 0⟩
def oN : OpN := ⟨0, 0, 2, 4, 3, 0, 0, 0⟩
def oX : OpX := ⟨0, 0, 1, 2, 3, 0, 0, 0, 3⟩
def oK : OpK := ⟨0, 0, 0, 0, 0, 0⟩

/-- W of 3, unused fields, predicates above 7, immediate shifts and bit fields out of range, and I (R45, R83 to R94). -/
theorem test_refuses_scalar : allRefused [
    .nop oA, .endFiring { oA with d := 0, a := 0, b := 0, w := 1 }, .add { oA with w := 3 }, .sel { oA with w := 3 },
    .clz oA, .mov oA, .addi { oI with w := 3 }, .shli { oI with imm := 64 }, .shri { oI with w := 1, imm := 32 },
    .lui { oI with w := 1 }, .bfx { oI with imm := 0x40 }, .bfxu { oI with imm := 0x4000 },
    .bfi { oI with imm := 0x3F01 }, .cmp .eq { oC with imm := 1 }, .cmpi .eq { oC with b := 1 },
    .pand { oA with d := 8 }, .por { oA with w := 1 }, .pnot oA, .ret oA, .jmpr oA] = true := by
  decide +kernel

/-- NW, AM, ML, GO and ST of format H, the forms that consume nothing, and the handle forms (R45, R115, R121). -/
theorem test_refuses_rings : allRefused [
    .rld { oH with nw := 0 }, .rld { oH with am := 3 }, .rld { oH with am := 2 }, .rld { oH with ml := 1 },
    .rpeek { oH with go := 2 }, .rpeek { oH with st := 1, am := 1 }, .rld { oH with nw := 3 }, .rst { oH with st := 1 },
    .rmark { oH with am := 1 }, .claim { oH with v := 1 }, .await { oH with go := 1 }, .retire { oH with st := 1 },
    .radv oH, .rbind { oK with kreg := 16 }, .rcast { oK with imm := 1 }, .rdet { oK with a := 1 },
    .rstat { oK with a := 1 }] = true := by
  decide +kernel

/-- Tags, rounding, saturation and the immediates of format V (R45, R128, R135, R141 to R143). -/
theorem test_refuses_vector : allRefused [
    .vadd { oV with rm := 1 }, .vadd { oV with sat := 1 }, .vadd { oV with t := 0, rm := 6 }, .vadds { oV with t := 0 },
    .vmin { oV with imm := 1 }, .vabs { oV with vb := 1 }, .vshl { oV with t := 1 }, .vcmp .ltu { oV with t := 0 },
    .vcmp .lt { oV with vd := 8 }, .vcvt { oV with imm := 0x40 }, .vcvt { oV with t := 0, imm := 0x8 },
    .vrcp { oV with t := 3 }, .vscale { oV with t := 0, imm := 512 }, .vscan { oV with t := 1 },
    .vcnt { oV with vd := 0, va := 0, imm := 32 }, .vperm { oV with t := 6 }, .vsplat { oV with va := 0, imm := 32 },
    .vsplat { oV with va := 0, imm := 0x80100 }, .vext { oV with vd := 0, imm := 0x1000 }, .vunpk { oV with t := 0, imm := 2 },
    .vcomp { oV with imm := 0x40000 }, .vcomp { oV with t := 7, imm := 0x600 }, .vcomp { oV with imm := 0x1100 },
    .vmrg { oV with t := 0 }] = true := by
  decide +kernel

/-- Format M and the drain, and formats N and X (R45, R162, R201, R211, R286). -/
theorem test_refuses_memory : allRefused [
    .mma oM, .mma { oM with sa := 31, ta := 1, tb := 1 }, .mma { oM with ta := 7, tb := 1 }, .mmaAdv { oM with ta := 1, tb := 1 },
    .mldbHandle { oH with nw := 31 }, .mldbBank { oM with sb := 31, tb := 1 }, .mscaHandle oM, .mscbRegister { oM with bh := 1 },
    .mkb oM, .mkb { oM with bh := 1, ta := 5 }, .mzero { oM with kb := 1 }, .mrd { oV with t := 0, imm := 32 },
    .msave { oN with sz := 1 }, .ld { oN with sz := 4 }, .ld { oN with sc := 7 }, .ld { oN with ord := 2 },
    .st { oN with ord := 1 }, .vld oN, .vst { oN with d := 3, sz := 4 }, .ldBk { oN with sc := 1 }, .swbLine oN,
    .sinvAll { oN with sz := 7 }, .spin oN, .fence oN, .aadd { oX with c := 1 }, .aadd { oX with sz := 1 },
    .acas { oX with sc := 7 }, .atopk oX, .qpush { oX with sz := 6 }, .ddec oX] = true := by
  decide +kernel

/-- Format K by class (R217, R251, R263, R286, R311, R340). -/
theorem test_refuses_system : allRefused [
    .awarm { oK with imm := 8 }, .awrd { oK with a := 1 }, .twait { oK with kreg := 0x100 }, .tread { oK with a := 1 },
    .bar { oK with imm := 512 }, .yield oK, .front { oK with kreg := 16 }, .fdone { oK with imm := 1 },
    .fsave { oK with imm := 2 }, .sreq { oK with kreg := 16 }, .sreq { oK with a := 16 }, .slayout { oK with kreg := 32 },
    .sstop { oK with imm := 2 }, .xput { oK with kreg := 1 }, .xrateRead { oK with kreg := 8 }, .xrateWrite oK,
    .xpath { oK with kreg := 8 }, .xflush { oK with d := 1 }, .xstat { oK with kreg := 0x70 }, .krd { oK with kreg := 6 },
    .kwr { oK with d := 1 }, .trap { oK with kreg := 1 }, .eret { oK with imm := 2 }, .purge { oK with kreg := 1 },
    .idle oK, .idle { oK with a := 1, imm := 1 }, .haltp { oK with imm := 1 }, .errpop { oK with d := 16 }] = true := by
  decide +kernel

/-- Script words and command records (R185, R366). -/
theorem test_refuses_script : allRefused [
    .expect 8 0, .expect 0 1, .look 0 0, .look 5 1, .choose 9 0, .fire 0 0 7 0, .emit 0 0, .sync 5, .onerr 0 0 1 0,
    .onerr 0 1 0 1, .trig 0 0, .cqsetup ⟨0, 0x02⟩, .cancel ⟨2, 0x03⟩, .reset ⟨0, 0x20A⟩] = true := by
  decide +kernel

/-- Each descriptor word's own limits (R233). -/
theorem test_refuses_descriptors : ([
    .sdim 0 0 0 1, .sidx 0 1, .swin 0 0 1 1 0 1, .sfmt 0 0 5 0, .sfmt 5 7 1 0, .smark 0 0, .sdest 0 0 1 0 0 0,
    .ssrc 0 0 0 11 0 0 0, .scoal 0 1, .scoal 1 65] : List Desc).all (fun d => !d.wf) = true := by
  decide +kernel

/-- A word of the opcode table and the reserved words around it (R46, R50). -/
theorem test_table_words :
    decodeTableWord 64 0x0440080002000000 = some (.addi ⟨0, 0, 4, 0, 0, 0x2000000⟩)
      ∧ decodeTableWord 64 0x0004000060000000 = none ∧ decodeTableWord 64 0x3004040204020000 = none
      ∧ decodeTableWord 64 0x1800000000000000 = none ∧ decodeTableWord 32 0x14000000 = some .retn
      ∧ decodeTableWord 32 0x14000001 = none ∧ decodeTableWord 32 0x4C000000 = none := by
  decide +kernel

theorem reset_memWf : State.reset.memWf := by decide

/-- The word that withFetchWord stores is the one that the next step runs: MOV S6, S4 in the first plane. -/
theorem test_fetch_word :
    (match step (State.reset.withFetchWord 64 0x0100000000000000) with
      | .next t => t.pc == 1 && t.turn == .agenda
      | _ => false) = true := by
  decide +kernel

/-! ## Witnesses -/

/-- A decoder's answer by a test that the kernel evaluates. -/
theorem is_ok {e : Except Reject Instr} {i : Instr} (h : (match e with | .ok j => decide (j = i) | .error _ => false) = true) :
    e = .ok i := by
  cases e <;> simp_all
theorem is_err {e : Except Reject Instr} (h : (match e with | .ok _ => false | .error _ => true) = true) : ∃ r, e = .error r := by
  cases e <;> simp_all

/-- A well-formed instruction of each kind of word, a descriptor word, and a command with its record. -/
theorem witness_DecodeOfEncodeIsTheInstruction :
    Instr.wf (.add oA) = true ∧ Instr.wf (.look 1 0) = true ∧ Instr.wf (.fire 0 0 0 0) = true ∧ Desc.wf (.sbase 0) = true
      ∧ (Instr.wf (.cancel ⟨1, 3⟩) = true ∧ encodeCommand (.cancel ⟨1, 3⟩) = some ⟨1, 3⟩) := by
  decide +kernel

/-- A stage word, script words of one and two words, descriptor words, command records, and of each one that is rejected. -/
theorem witness_OnlyEncodingsDecode :
    decodeStage 0x0440080002000000 = .ok (.addi ⟨0, 0, 4, 0, 0, 0x2000000⟩) ∧ decodeScript 0x08400000 5 = .ok (.look 1 0)
      ∧ decodeScript 0x18000000 5 = .ok (.fire 0 0 0 5) ∧ decodeStage 0 = .error .unallocated
      ∧ (∃ d, decodeDesc (encodeDesc (.sbase 64)) = .ok d) ∧ (∃ r, decodeDesc 0 = .error r)
      ∧ decodeCommand ⟨1, 3⟩ = .ok (.cancel ⟨1, 3⟩) ∧ (∃ r, decodeCommand ⟨0, 0⟩ = .error r)
      ∧ (⟨0, 15⟩ : Cmd).shaped 15 = true :=
  ⟨rfl, rfl, rfl, rfl, ⟨_, rfl⟩, ⟨_, rfl⟩, is_ok (by decide +kernel), is_err (by decide +kernel), by decide +kernel⟩

/-- ADD with P0 negated as its guard. -/
theorem witness_FalseGuardChangesNothing :
    encode (.add { oA with gn := 1 }) = .stage 0x0040422180000000 ∧ (∀ o, Instr.add { oA with gn := 1 } ≠ .sel o)
      ∧ scal.rP (fld (0x0040422180000000 : Word) 47 3) ^^^ BitVec.ofNat 1 (fld (0x0040422180000000 : Word) 46 1) = 0 :=
  ⟨by decide +kernel, nofun, by decide +kernel⟩

/-- Both values of a guard, which every guarded instruction of the scalar and vector statements rests on. -/
theorem witness_guards :
    scal.rP opA.g.toNat ^^^ opA.gn = 1 ∧ scal.rP oA.g.toNat ^^^ ({ oA with gn := 1 } : OpA).gn = 0 := by
  decide +kernel
theorem witness_RegisterArithmeticAndDivision : scal.rP opA.g.toNat ^^^ opA.gn = 1 := by decide +kernel
theorem witness_LogicImmediatesAndMoves : scal.rP opI.g.toNat ^^^ opI.gn = 1 := by decide +kernel

/-- Tag 6 has 16 encodings. -/
theorem value_low (w : Nat) : value 6 false w = value 6 false (w % 16) := by
  have h1 : w % 16 % 8 = w % 8 := by omega
  have h2 : w % 16 / 8 % 2 = w / 8 % 2 := by omega
  simp [value, isFlt, magOf, signOf, isNanEnc, fmtOf, h1, h2]

/-- Not between the values of encodings 1 and 2 of tag 6. -/
def apart : Machine.Num → Bool
  | .fin false z false => decide (z ≤ 2 ^ 511) || decide (2 ^ 512 ≤ z)
  | _ => true
theorem all_apart : ∀ v < 16, apart (value 6 false v) = true := by decide +kernel
theorem adjacent (w z : Nat) (h : value 6 false w = .fin false z false) : z ≤ 2 ^ 511 ∨ 2 ^ 512 ≤ z := by
  have k := all_apart (w % 16) (Nat.mod_lt _ (by decide))
  rw [← value_low, h] at k
  simpa [apart] using k

/-- 1.5 of F32, the largest value of E4M3 with a number below it and a directed mode, and a value between two encodings of tag 6. -/
theorem witness_RoundingIsExactOrNearest :
    (0 < 8 ∧ isFlt 0 = true ∧ 0x3FC00000 < 2 ^ widthOf 0 ∧ ∃ m, value 0 false 0x3FC00000 = .fin false m false)
      ∧ (3 < 8 ∧ isFlt 3 = true ∧ ∃ top, value 3 false (fmtOf 3).maxEnc = .fin false top false ∧ 1 ≤ top)
      ∧ (1 ≤ 2 ∧ 2 ≤ 4)
      ∧ (6 < 8 ∧ isFlt 6 = true ∧ 1 < 2 ^ widthOf 6 ∧ 2 < 2 ^ widthOf 6 ∧ value 6 false 1 = .fin false (2 ^ 511) false
        ∧ value 6 false 2 = .fin false (2 ^ 512) false ∧ 2 ^ 511 < 2 ^ 511 + 1 ∧ 2 ^ 511 + 1 < 2 ^ 512
        ∧ ∀ w z, value 6 false w = .fin false z false → z ≤ 2 ^ 511 ∨ 2 ^ 512 ≤ z) :=
  ⟨⟨by decide, by decide, by decide, _, rfl⟩, ⟨by decide, by decide, _, rfl, by decide +kernel⟩, by decide,
    ⟨by decide, by decide, by decide, by decide, by decide +kernel, by decide +kernel, by decide +kernel, by decide +kernel,
      adjacent⟩⟩

theorem witness_StepKeepsMemoryCanonical : State.reset.memWf ∧ ∃ t, step State.reset = .next t := ⟨by decide, _, rfl⟩

/-- A firing that its instruction keeps waiting. -/
def held : State := scal.modFiring scal.cur fun f => { f with wait := .retry }

/-- A plane at a word that decodes, at an illegal word and past its program; a context at NTDEF, at an illegal word, at a one-word
and a two-word instruction in the last place of its share, and past it; an event on the agenda. -/
def atWord : State := st { pl0 with prog := [(4, 0x0440080002000000), (5, 0)] }
def pastEnd : State := st { pl0 with progSize := 4 }
def atScript : State := { scr [0x48000000, 0x14000000] rg {} with turn := .context }
def atBadScript : State := { scr [0x4C000000] rg {} with turn := .context }
def lastScript (w : BitVec 32) (pc : Nat) : State :=
  { scr (List.replicate 255 0 ++ [w]) rg { pc } with turn := .context }
theorem witness_StepRunsTheDecodedInstruction :
    (({ atWord with turn := .plane } : State).pc < atWord.pl.progSize
        ∧ decodeStage (look 0 atWord.pl.prog atWord.pc) = .ok (.addi ⟨0, 0, 4, 0, 0, 0x2000000⟩))
      ∧ (scal.pc < scal.pl.progSize ∧ decodeStage (look 0 scal.pl.prog scal.pc) = .error .unallocated)
      ∧ pastEnd.pl.progSize ≤ pastEnd.pc
      ∧ (atScript.turn = .context ∧ (atScript.ctx atScript.curCtx).pc + 1 < (atScript.share atScript.curCtx).2
        ∧ decodeScript (atScript.scriptWord atScript.curCtx (atScript.ctx atScript.curCtx).pc)
            (atScript.scriptWord atScript.curCtx ((atScript.ctx atScript.curCtx).pc + 1)) = .ok (.ntdef 0))
      ∧ (0 < (atBadScript.share 5).2 ∧ hasLiteral (atBadScript.scriptWord 5 0) = false
        ∧ ∃ r, decodeScript (atBadScript.scriptWord 5 0) (atBadScript.scriptWord 5 1) = .error r)
      ∧ (255 < ((lastScript 0x14000000 255).share 5).2 ∧ hasLiteral ((lastScript 0x14000000 255).scriptWord 5 255) = false
        ∧ decodeScript ((lastScript 0x14000000 255).scriptWord 5 255) ((lastScript 0x14000000 255).scriptWord 5 256) = .ok .retn)
      ∧ (255 + 1 = ((lastScript 0x18000000 255).share 5).2 ∧ hasLiteral ((lastScript 0x18000000 255).scriptWord 5 255) = true)
      ∧ ((lastScript 0x14000000 256).turn = .context ∧ ((lastScript 0x14000000 256).share 5).2 ≤ 256)
      ∧ (State.reset.turn = .agenda ∧ isEvent .watchdog = true)
      ∧ (held.pl.running = true ∧ held.pl.firing.fid = scal.pl.firing.fid ∧ held.pl.firing.wait = .retry)
      ∧ (scal.pl.running = true ∧ scal.pl.firing.wait = .none) :=
  ⟨⟨by decide +kernel, rfl⟩, ⟨by decide +kernel, rfl⟩, by decide +kernel, ⟨by decide +kernel, by decide +kernel, rfl⟩,
    ⟨by decide +kernel, by decide +kernel, _, rfl⟩,
    ⟨by decide +kernel, by decide +kernel, is_ok (by decide +kernel)⟩, by decide +kernel,
    by decide +kernel, by decide +kernel, by decide +kernel, by decide +kernel⟩

end Sys2Proof.Tests
end

