-- ==== Sys2Proof/Tests/Streams.lean ====
section
/-!
SUPPORT. For each hypothesis list of the streamer statements, a concrete state and operands that meet all of it together:
one conjunct for each clause of a statement.
-/
namespace Sys2Proof.Tests.Streams
open Sys2Proof Sys2Proof.Machine Sys2Proof.Tests
set_option maxRecDepth 20000
set_option Elab.async false

def s0 : State := strS strX [] rg
def x1 := {opZ with a := 5}
def x2 := {opZ with kreg := 3}
def x3 := (Instr.sreq {opZ with kreg := 3})
def sI : State := strS {strX with state := .idle} [] rg
def s8 : State := strS {strX with ops := List.replicate 8 (sop 1)} [] rg
def ssS : State := strS {strX with state := .walk, walk := {strW with sectors := [(64, [1, 2, 3])]}, ops := [sop 1]} [] rg
def x5 := {opZ with kreg := 5}
def x6 := {opZ with kreg := 4, a := 3}
def layR : Vec := BitVec.ofNat 1024 (1 + 2 ^ 8 + 2 ^ 32 + 64 * 2 ^ 64 + 2 ^ 128 + 2 ^ 160 + 2 ^ 192 + 2 ^ 224)
def sL : State := {s0 with planes := [(0, {plR with regs := {plG.regs with v := [(3, layR)]}})]}
def ld (ws : List Word) : State := strS {strX with state := .load, ops := [sop 0]} (strMem ws) rg
def x7 := ((checkProg 0 strWords).1)
def rq (p : BitVec 512) : StrOp := {sop 1 with packet := p}
def rqS (p : BitVec 512) (x : Stream) : State := strS {x with walk := {}, ops := [rq p]} [] rg
def pk : BitVec 512 := BitVec.ofNat 512 (1 + 2 * 2 ^ 16 + 64 * 2 ^ 64 + 5 * 2 ^ 128 + 6 * 2 ^ 160)
def x9 := (rqS pk {strX with prog := {strP with ring := none}})
def wk : Stream := {strX with state := .walk, ops := [sop 1]}
def wkW : State := strS {wk with prog := {strP with src := true}} [] rg
def wkV : State := {wkW with sideband := [(16, mkSide 0 5 16 2)]}
def flO : StrOp := {sop 3 with num := 5, flush := true}
def wkL : State := strS {wk with ops := [sop 1, flO]} [] rg
def wkO : State := strS {wk with owed := some (2, 2, 7)} [] rg
def wkE : State := strS {wk with walk := {strW with finished := true}} [] rg
def wkF : State := strS {wk with state := .fault, back := .walk, stalled := true} [] rg

/-- The hypotheses of StreamerRequests can be met together, clause by clause. -/
theorem witness_StreamerRequests :
    (s0.rP x1.g.toNat ^^^ x1.gn = (1 : BitVec 1) ∧ s0.shadowed = false ∧ BitVec.toNat (s0.rS x1.a.toNat) % 64 ≠
      0) ∧
    (s0.rP x2.g.toNat ^^^ x2.gn = (1 : BitVec 1) ∧ s0.shadowed = false ∧ s0.pl.acquired s0.pl.firing.fid = true
      ∧ (¬((s0.stream ((s0.cur / 1024 * 64 + x2.kreg.toNat / 64 % 64) * 32 + x2.kreg.toNat % 16)).job =
      s0.pl.job ∧ (s0.stream ((s0.cur / 1024 * 64 + x2.kreg.toNat / 64 % 64) * 32 + x2.kreg.toNat % 16)).job ≠
      0)) ∧ x3 ∈ [Instr.sreq x2, Instr.scfg x2, Instr.sstop x2]) ∧
    (s0.rP x2.g.toNat ^^^ x2.gn = (1 : BitVec 1) ∧ s0.shadowed = false ∧ s0.pl.acquired s0.pl.firing.fid = true
      ∧ (¬((s0.stream ((s0.cur / 1024 * 64 + x2.kreg.toNat / 64 % 64) * 32 + x2.kreg.toNat % 16)).job =
      s0.pl.job ∧ (s0.stream ((s0.cur / 1024 * 64 + x2.kreg.toNat / 64 % 64) * 32 + x2.kreg.toNat % 16)).job ≠
      0)) ∧ BitVec.toNat (s0.rS x2.a.toNat) % 64 = 0) ∧
    (sI.rP opZ.g.toNat ^^^ opZ.gn = (1 : BitVec 1) ∧ sI.shadowed = false ∧ sI.pl.acquired sI.pl.firing.fid =
      true ∧ ((sI.stream ((sI.cur / 1024 * 64 + opZ.kreg.toNat / 64 % 64) * 32 + opZ.kreg.toNat % 16)).job =
      sI.pl.job ∧ (sI.stream ((sI.cur / 1024 * 64 + opZ.kreg.toNat / 64 % 64) * 32 + opZ.kreg.toNat % 16)).job ≠
      0) ∧ BitVec.toNat (sI.rS opZ.a.toNat) % 64 = 0) ∧
    (sI.rP opZ.g.toNat ^^^ opZ.gn = (1 : BitVec 1) ∧ sI.shadowed = false ∧ sI.pl.acquired sI.pl.firing.fid =
      true ∧ ((sI.stream ((sI.cur / 1024 * 64 + opZ.kreg.toNat / 64 % 64) * 32 + opZ.kreg.toNat % 16)).job =
      sI.pl.job ∧ (sI.stream ((sI.cur / 1024 * 64 + opZ.kreg.toNat / 64 % 64) * 32 + opZ.kreg.toNat % 16)).job ≠
      0) ∧ (¬((sI.stream ((sI.cur / 1024 * 64 + opZ.kreg.toNat / 64 % 64) * 32 + opZ.kreg.toNat % 16)).state =
      StrState.held ∨ (sI.stream ((sI.cur / 1024 * 64 + opZ.kreg.toNat / 64 % 64) * 32 + opZ.kreg.toNat %
      16)).state = StrState.walk ∧ (sI.stream ((sI.cur / 1024 * 64 + opZ.kreg.toNat / 64 % 64) * 32 +
      opZ.kreg.toNat % 16)).prog.hold = true))) ∧
    (s0.rP opZ.g.toNat ^^^ opZ.gn = (1 : BitVec 1) ∧ s0.shadowed = false ∧ s0.pl.acquired s0.pl.firing.fid =
      true ∧ ((s0.stream ((s0.cur / 1024 * 64 + opZ.kreg.toNat / 64 % 64) * 32 + opZ.kreg.toNat % 16)).job =
      s0.pl.job ∧ (s0.stream ((s0.cur / 1024 * 64 + opZ.kreg.toNat / 64 % 64) * 32 + opZ.kreg.toNat % 16)).job ≠
      0) ∧ ((s0.stream ((s0.cur / 1024 * 64 + opZ.kreg.toNat / 64 % 64) * 32 + opZ.kreg.toNat % 16)).state =
      StrState.held ∨ (s0.stream ((s0.cur / 1024 * 64 + opZ.kreg.toNat / 64 % 64) * 32 + opZ.kreg.toNat %
      16)).state = StrState.walk ∧ (s0.stream ((s0.cur / 1024 * 64 + opZ.kreg.toNat / 64 % 64) * 32 +
      opZ.kreg.toNat % 16)).prog.hold = true) ∧ ((List.filter (fun x => x.kind == 1 && !x.fin && !((s0.stream
      ((s0.cur / 1024 * 64 + opZ.kreg.toNat / 64 % 64) * 32 + opZ.kreg.toNat % 16)).state == StrState.walk &&
      (s0.stream ((s0.cur / 1024 * 64 + opZ.kreg.toNat / 64 % 64) * 32 + opZ.kreg.toNat % 16)).current == some
      x)) (s0.stream ((s0.cur / 1024 * 64 + opZ.kreg.toNat / 64 % 64) * 32 + opZ.kreg.toNat % 16)).ops).length <
      8)) ∧
    (s8.rP opZ.g.toNat ^^^ opZ.gn = (1 : BitVec 1) ∧ s8.shadowed = false ∧ s8.pl.acquired s8.pl.firing.fid =
      true ∧ ((s8.stream ((s8.cur / 1024 * 64 + opZ.kreg.toNat / 64 % 64) * 32 + opZ.kreg.toNat % 16)).job =
      s8.pl.job ∧ (s8.stream ((s8.cur / 1024 * 64 + opZ.kreg.toNat / 64 % 64) * 32 + opZ.kreg.toNat % 16)).job ≠
      0) ∧ ((s8.stream ((s8.cur / 1024 * 64 + opZ.kreg.toNat / 64 % 64) * 32 + opZ.kreg.toNat % 16)).state =
      StrState.held ∨ (s8.stream ((s8.cur / 1024 * 64 + opZ.kreg.toNat / 64 % 64) * 32 + opZ.kreg.toNat %
      16)).state = StrState.walk ∧ (s8.stream ((s8.cur / 1024 * 64 + opZ.kreg.toNat / 64 % 64) * 32 +
      opZ.kreg.toNat % 16)).prog.hold = true) ∧ (8 ≤ (List.filter (fun x => x.kind == 1 && !x.fin &&
      !((s8.stream ((s8.cur / 1024 * 64 + opZ.kreg.toNat / 64 % 64) * 32 + opZ.kreg.toNat % 16)).state ==
      StrState.walk && (s8.stream ((s8.cur / 1024 * 64 + opZ.kreg.toNat / 64 % 64) * 32 + opZ.kreg.toNat %
      16)).current == some x)) (s8.stream ((s8.cur / 1024 * 64 + opZ.kreg.toNat / 64 % 64) * 32 + opZ.kreg.toNat
      % 16)).ops).length)) ∧
    (s8.rP opZ.g.toNat ^^^ opZ.gn = (1 : BitVec 1) ∧ s8.shadowed = false ∧ s8.pl.acquired s8.pl.firing.fid =
      true ∧ ((s8.stream ((s8.cur / 1024 * 64 + opZ.kreg.toNat / 64 % 64) * 32 + opZ.kreg.toNat % 16)).job =
      s8.pl.job ∧ (s8.stream ((s8.cur / 1024 * 64 + opZ.kreg.toNat / 64 % 64) * 32 + opZ.kreg.toNat % 16)).job ≠
      0) ∧ ((s8.stream ((s8.cur / 1024 * 64 + opZ.kreg.toNat / 64 % 64) * 32 + opZ.kreg.toNat % 16)).state =
      StrState.held ∨ (s8.stream ((s8.cur / 1024 * 64 + opZ.kreg.toNat / 64 % 64) * 32 + opZ.kreg.toNat %
      16)).state = StrState.walk ∧ (s8.stream ((s8.cur / 1024 * 64 + opZ.kreg.toNat / 64 % 64) * 32 +
      opZ.kreg.toNat % 16)).prog.hold = true)) ∧
    (s8.rP opZ.g.toNat ^^^ opZ.gn = (1 : BitVec 1) ∧ s8.shadowed = false ∧ s8.pl.acquired s8.pl.firing.fid =
      true ∧ ((s8.stream ((s8.cur / 1024 * 64 + opZ.kreg.toNat / 64 % 64) * 32 + opZ.kreg.toNat % 16)).job =
      s8.pl.job ∧ (s8.stream ((s8.cur / 1024 * 64 + opZ.kreg.toNat / 64 % 64) * 32 + opZ.kreg.toNat % 16)).job ≠
      0) ∧ (∀ (e : Nat × Ring), e ∈ s8.rings → e.snd.queue = [] ∧ e.snd.granted = []) ∧ (s8.stream ((s8.cur /
      1024 * 64 + opZ.kreg.toNat / 64 % 64) * 32 + opZ.kreg.toNat % 16)).walk.sectors = []) ∧
    (ssS.rP opZ.g.toNat ^^^ opZ.gn = (1 : BitVec 1) ∧ ssS.shadowed = false ∧ ssS.pl.acquired ssS.pl.firing.fid =
      true ∧ ((ssS.stream ((ssS.cur / 1024 * 64 + opZ.kreg.toNat / 64 % 64) * 32 + opZ.kreg.toNat % 16)).job =
      ssS.pl.job ∧ (ssS.stream ((ssS.cur / 1024 * 64 + opZ.kreg.toNat / 64 % 64) * 32 + opZ.kreg.toNat %
      16)).job ≠ 0) ∧ (ssS.stream ((ssS.cur / 1024 * 64 + opZ.kreg.toNat / 64 % 64) * 32 + opZ.kreg.toNat %
      16)).state = StrState.walk ∧ (∀ (y : StrOp), (ssS.stream ((ssS.cur / 1024 * 64 + opZ.kreg.toNat / 64 % 64)
      * 32 + opZ.kreg.toNat % 16)).current = some y → y.kind ≠ 3) ∧ (ssS.stream ((ssS.cur / 1024 * 64 +
      opZ.kreg.toNat / 64 % 64) * 32 + opZ.kreg.toNat % 16)).walk.sectors ≠ [] ∧ ssS.strRing ((ssS.cur / 1024 *
      64 + opZ.kreg.toNat / 64 % 64) * 32 + opZ.kreg.toNat % 16) = some rg ∧ ssS.strMiss ((ssS.cur / 1024 * 64 +
      opZ.kreg.toNat / 64 % 64) * 32 + opZ.kreg.toNat % 16) 4 (List.map Prod.fst (ssS.stream ((ssS.cur / 1024 *
      64 + opZ.kreg.toNat / 64 % 64) * 32 + opZ.kreg.toNat % 16)).walk.sectors) = none) ∧
    (s0.rP x5.g.toNat ^^^ x5.gn = (1 : BitVec 1) ∧ s0.shadowed = false ∧ (BitVec.toNat (s0.rS (x5.kreg.toNat %
      32)) % 64 ≠ 0 ∨ 2 ^ 52 ≤ BitVec.toNat (s0.rS (x5.kreg.toNat % 32)))) ∧
    (s0.rP x6.g.toNat ^^^ x6.gn = (1 : BitVec 1) ∧ s0.shadowed = false ∧ BitVec.toNat (s0.rS (x6.kreg.toNat %
      32)) % 64 = 0 ∧ BitVec.toNat (s0.rS (x6.kreg.toNat % 32)) < 2 ^ 52 ∧ layoutBad (BitVec.extractLsb' 0 512
      (s0.rV x6.a.toNat)) = some 1) ∧
    (sL.rP x6.g.toNat ^^^ x6.gn = (1 : BitVec 1) ∧ sL.shadowed = false ∧ BitVec.toNat (sL.rS (x6.kreg.toNat %
      32)) % 64 = 0 ∧ BitVec.toNat (sL.rS (x6.kreg.toNat % 32)) < 2 ^ 52 ∧ layoutBad (BitVec.extractLsb' 0 512
      (sL.rV x6.a.toNat)) = none ∧ sL.pl.acquired sL.pl.firing.fid = true ∧ sL.pl.memq.length < 64 ∧ sL.pl.stash
      = [] ∧ sL.tlbFind (translatingSlice sL.cur) (sL.asid sL.pl.job) (BitVec.toNat (sL.rS (x6.kreg.toNat %
      32))) true = some pg ∧ sL.farRoom sL.cur (physOf pg.pte pg.level (BitVec.toNat (sL.rS (x6.kreg.toNat %
      32)))).die 256 = true) :=
  by and_intros <;> decide +kernel

/-- The hypotheses of StreamWalks can be met together, clause by clause. -/
theorem witness_StreamWalks :
    (2 < 16 ∧ ((ld []).die (0 / 64 : Nat)).fenced = false ∧ ((ld []).stream (0 * 32 + 2)).ops = [sop 0] ∧ (∀ (y
      : StrOp), y ∈ [] → y.num ≠ (sop 0).num) ∧ ((ld []).slice 0).tlb = [pg] ∧ (sop 0).run = false ∧ ((ld
      []).plane (sop 0).pid).writesDone (sop 0).fid (sop 0).upTo = true ∧ ((ld []).plane (sop 0).pid).stash = []
      ∧ nothingWaits (ld []) ∧ (sop 0).kind = 0 ∧ (sop 0).fin = false ∧ ((ld []).stream (0 * 32 + 2)).loaded =
      false ∧ ((ld []).stream (0 * 32 + 2)).state = StrState.load ∧ BitVec.toNat (sop 0).word % 64 = 0 ∧ ((∀ (x
      : Nat), BitVec.toNat (sop 0).word / 64 * 64 ≤ x → x < BitVec.toNat (sop 0).word + 64 → pg.covers ((ld
      []).asid ((ld []).stream (0 * 32 + 2)).job) x = true) ∧ BitVec.toNat (sop 0).word + 64 < 2 ^ 52 ∧ (ld
      []).poison = [] ∧ ∀ (d : Nat), ((ld []).die d).fenced = false) ∧ (¬(1 ≤ (ld []).num (physOf pg.pte
      pg.level (BitVec.toNat (sop 0).word)).key 2 ∧ (ld []).num ((physOf pg.pte pg.level (BitVec.toNat (sop
      0).word)).key + 2) 2 + (ld []).num (physOf pg.pte pg.level (BitVec.toNat (sop 0).word)).key 2 ≤ 256 ∧ (ld
      []).num ((physOf pg.pte pg.level (BitVec.toNat (sop 0).word)).key + 4) 4 = 0 ∧ (ld []).num ((physOf pg.pte
      pg.level (BitVec.toNat (sop 0).word)).key + 8) 8 % 64 = 0 ∧ (ld []).num ((physOf pg.pte pg.level
      (BitVec.toNat (sop 0).word)).key + 8) 8 < 2 ^ 52 ∧ (ld []).num ((physOf pg.pte pg.level (BitVec.toNat (sop
      0).word)).key + 16) 48 = 0))) ∧
    (2 < 16 ∧ ((ld [(0 : Word)]).die (0 / 64 : Nat)).fenced = false ∧ ((ld [(0 : Word)]).stream (0 * 32 +
      2)).ops = [sop 0] ∧ (∀ (y : StrOp), y ∈ [] → y.num ≠ (sop 0).num) ∧ ((ld [(0 : Word)]).slice 0).tlb = [pg]
      ∧ (sop 0).run = false ∧ ((ld [(0 : Word)]).plane (sop 0).pid).writesDone (sop 0).fid (sop 0).upTo = true ∧
      ((ld [(0 : Word)]).plane (sop 0).pid).stash = [] ∧ nothingWaits (ld [(0 : Word)]) ∧ (sop 0).kind = 0 ∧
      (sop 0).fin = false ∧ ((ld [(0 : Word)]).stream (0 * 32 + 2)).loaded = false ∧ ((ld [(0 : Word)]).stream
      (0 * 32 + 2)).state = StrState.load ∧ BitVec.toNat (sop 0).word % 64 = 0 ∧ ((∀ (x : Nat), BitVec.toNat
      (sop 0).word / 64 * 64 ≤ x → x < BitVec.toNat (sop 0).word + (64 + 8 * (ld [(0 : Word)]).num (physOf
      pg.pte pg.level (BitVec.toNat (sop 0).word)).key 2) → pg.covers ((ld [(0 : Word)]).asid ((ld [(0 :
      Word)]).stream (0 * 32 + 2)).job) x = true) ∧ BitVec.toNat (sop 0).word + (64 + 8 * (ld [(0 : Word)]).num
      (physOf pg.pte pg.level (BitVec.toNat (sop 0).word)).key 2) < 2 ^ 52 ∧ (ld [(0 : Word)]).poison = [] ∧ ∀
      (d : Nat), ((ld [(0 : Word)]).die d).fenced = false) ∧ (1 ≤ (ld [(0 : Word)]).num (physOf pg.pte pg.level
      (BitVec.toNat (sop 0).word)).key 2 ∧ (ld [(0 : Word)]).num ((physOf pg.pte pg.level (BitVec.toNat (sop
      0).word)).key + 2) 2 + (ld [(0 : Word)]).num (physOf pg.pte pg.level (BitVec.toNat (sop 0).word)).key 2 ≤
      256 ∧ (ld [(0 : Word)]).num ((physOf pg.pte pg.level (BitVec.toNat (sop 0).word)).key + 4) 4 = 0 ∧ (ld [(0
      : Word)]).num ((physOf pg.pte pg.level (BitVec.toNat (sop 0).word)).key + 8) 8 % 64 = 0 ∧ (ld [(0 :
      Word)]).num ((physOf pg.pte pg.level (BitVec.toNat (sop 0).word)).key + 8) 8 < 2 ^ 52 ∧ (ld [(0 :
      Word)]).num ((physOf pg.pte pg.level (BitVec.toNat (sop 0).word)).key + 16) 48 = 0) ∧ (checkProg ((ld [(0
      : Word)]).num ((physOf pg.pte pg.level (BitVec.toNat (sop 0).word)).key + 2) 2) (List.map (fun i => w64
      ((ld [(0 : Word)]).num (physOf pg.pte pg.level (BitVec.toNat (sop 0).word + 64 + 8 * i)).key 8))
      (List.range ((ld [(0 : Word)]).num (physOf pg.pte pg.level (BitVec.toNat (sop 0).word)).key 2))) =
      ((checkProg 0 [(0 : Word)]).fst, some (0, 2)))) ∧
    (2 < 16 ∧ ((ld strWords).die (0 / 64 : Nat)).fenced = false ∧ ((ld strWords).stream (0 * 32 + 2)).ops = [sop
      0] ∧ (∀ (y : StrOp), y ∈ [] → y.num ≠ (sop 0).num) ∧ ((ld strWords).slice 0).tlb = [pg] ∧ (sop 0).run =
      false ∧ ((ld strWords).plane (sop 0).pid).writesDone (sop 0).fid (sop 0).upTo = true ∧ ((ld
      strWords).plane (sop 0).pid).stash = [] ∧ nothingWaits (ld strWords) ∧ (sop 0).kind = 0 ∧ (sop 0).fin =
      false ∧ ((ld strWords).stream (0 * 32 + 2)).loaded = false ∧ ((ld strWords).stream (0 * 32 + 2)).state =
      StrState.load ∧ BitVec.toNat (sop 0).word % 64 = 0 ∧ ((∀ (x : Nat), BitVec.toNat (sop 0).word / 64 * 64 ≤
      x → x < BitVec.toNat (sop 0).word + (64 + 8 * (ld strWords).num (physOf pg.pte pg.level (BitVec.toNat (sop
      0).word)).key 2) → pg.covers ((ld strWords).asid ((ld strWords).stream (0 * 32 + 2)).job) x = true) ∧
      BitVec.toNat (sop 0).word + (64 + 8 * (ld strWords).num (physOf pg.pte pg.level (BitVec.toNat (sop
      0).word)).key 2) < 2 ^ 52 ∧ (ld strWords).poison = [] ∧ ∀ (d : Nat), ((ld strWords).die d).fenced = false)
      ∧ (1 ≤ (ld strWords).num (physOf pg.pte pg.level (BitVec.toNat (sop 0).word)).key 2 ∧ (ld strWords).num
      ((physOf pg.pte pg.level (BitVec.toNat (sop 0).word)).key + 2) 2 + (ld strWords).num (physOf pg.pte
      pg.level (BitVec.toNat (sop 0).word)).key 2 ≤ 256 ∧ (ld strWords).num ((physOf pg.pte pg.level
      (BitVec.toNat (sop 0).word)).key + 4) 4 = 0 ∧ (ld strWords).num ((physOf pg.pte pg.level (BitVec.toNat
      (sop 0).word)).key + 8) 8 % 64 = 0 ∧ (ld strWords).num ((physOf pg.pte pg.level (BitVec.toNat (sop
      0).word)).key + 8) 8 < 2 ^ 52 ∧ (ld strWords).num ((physOf pg.pte pg.level (BitVec.toNat (sop
      0).word)).key + 16) 48 = 0) ∧ (checkProg ((ld strWords).num ((physOf pg.pte pg.level (BitVec.toNat (sop
      0).word)).key + 2) 2) (List.map (fun i => w64 ((ld strWords).num (physOf pg.pte pg.level (BitVec.toNat
      (sop 0).word + 64 + 8 * i)).key 8)) (List.range ((ld strWords).num (physOf pg.pte pg.level (BitVec.toNat
      (sop 0).word)).key 2))) = (x7, none))) ∧
    (2 < 16 ∧ ((rqS (2 : BitVec 512) strX).die (0 / 64 : Nat)).fenced = false ∧ ((rqS (2 : BitVec 512)
      strX).stream (0 * 32 + 2)).ops = [rq (2 : BitVec 512)] ∧ (∀ (y : StrOp), y ∈ [] → y.num ≠ (rq (2 : BitVec
      512)).num) ∧ ((rqS (2 : BitVec 512) strX).slice 0).tlb = [pg] ∧ (rq (2 : BitVec 512)).run = false ∧ ((rqS
      (2 : BitVec 512) strX).plane (rq (2 : BitVec 512)).pid).writesDone (rq (2 : BitVec 512)).fid (rq (2 :
      BitVec 512)).upTo = true ∧ ((rqS (2 : BitVec 512) strX).plane (rq (2 : BitVec 512)).pid).stash = [] ∧
      nothingWaits (rqS (2 : BitVec 512) strX) ∧ (rq (2 : BitVec 512)).kind = 1 ∧ (rq (2 : BitVec 512)).fin =
      false ∧ ((rqS (2 : BitVec 512) strX).stream (0 * 32 + 2)).state = StrState.held ∧ ((rqS (2 : BitVec 512)
      strX).stream (0 * 32 + 2)).walk.active = false ∧ packetOk (rq (2 : BitVec 512)).packet = false) ∧
    (2 < 16 ∧ (x9.die (0 / 64 : Nat)).fenced = false ∧ (x9.stream (0 * 32 + 2)).ops = [rq pk] ∧ (∀ (y : StrOp),
      y ∈ [] → y.num ≠ (rq pk).num) ∧ (x9.slice 0).tlb = [pg] ∧ (rq pk).run = false ∧ (x9.plane (rq
      pk).pid).writesDone (rq pk).fid (rq pk).upTo = true ∧ (x9.plane (rq pk).pid).stash = [] ∧ nothingWaits x9
      ∧ (rq pk).kind = 1 ∧ (rq pk).fin = false ∧ (x9.stream (0 * 32 + 2)).state = StrState.held ∧ (x9.stream (0
      * 32 + 2)).walk.active = false ∧ packetOk (rq pk).packet = true ∧ x9.progRing (0 * 32 + 2) = none ∧
      x9.strAway (0 * 32 + 2) = false) ∧
    (2 < 16 ∧ ((rqS pk strX).die (0 / 64 : Nat)).fenced = false ∧ ((rqS pk strX).stream (0 * 32 + 2)).ops = [rq
      pk] ∧ (∀ (y : StrOp), y ∈ [] → y.num ≠ (rq pk).num) ∧ ((rqS pk strX).slice 0).tlb = [pg] ∧ (rq pk).run =
      false ∧ ((rqS pk strX).plane (rq pk).pid).writesDone (rq pk).fid (rq pk).upTo = true ∧ ((rqS pk
      strX).plane (rq pk).pid).stash = [] ∧ nothingWaits (rqS pk strX) ∧ (rq pk).kind = 1 ∧ (rq pk).fin = false
      ∧ ((rqS pk strX).stream (0 * 32 + 2)).state = StrState.held ∧ ((rqS pk strX).stream (0 * 32 +
      2)).walk.active = false ∧ packetOk (rq pk).packet = true ∧ fld (rq pk).packet 0 8 = 1 ∧ (rqS pk
      strX).progRing (0 * 32 + 2) = some rg ∧ countedOf (gatherDims ((rqS pk strX).stream (0 * 32 + 2)).prog
      (fld (rq pk).packet 16 16)) = []) ∧
    (2 < 16 ∧ ((strS wk [] rg).die (0 / 64 : Nat)).fenced = false ∧ ((strS wk [] rg).stream (0 * 32 + 2)).ops =
      [sop 1] ∧ (∀ (y : StrOp), y ∈ [] → y.num ≠ (sop 1).num) ∧ ((strS wk [] rg).slice 0).tlb = [pg] ∧ (sop
      1).run = false ∧ ((strS wk [] rg).plane (sop 1).pid).writesDone (sop 1).fid (sop 1).upTo = true ∧ ((strS
      wk [] rg).plane (sop 1).pid).stash = [] ∧ nothingWaits (strS wk [] rg) ∧ ((strS wk [] rg).stream (0 * 32 +
      2)).state = StrState.walk ∧ ((strS wk [] rg).stream (0 * 32 + 2)).walk.active = true ∧ (sop 1).fin = false
      ∧ (sop 1).kind ≠ 3 ∧ ((strS wk [] rg).stream (0 * 32 + 2)).prog.fmt = some (1, 1, 0, false) ∧ ((strS wk []
      rg).stream (0 * 32 + 2)).walk.finished = false ∧ ((strS wk [] rg).stream (0 * 32 + 2)).walk.box = none ∧
      ((strS wk [] rg).stream (0 * 32 + 2)).walk.idxAddrs = [] ∧ ((strS wk [] rg).stream (0 * 32 +
      2)).walk.follow = none ∧ ((strS wk [] rg).stream (0 * 32 + 2)).walk.lines = [] ∧ ((strS wk [] rg).stream
      (0 * 32 + 2)).walk.ahead = [] ∧ ((strS wk [] rg).stream (0 * 32 + 2)).walk.sectors = [] ∧ ((strS wk []
      rg).stream (0 * 32 + 2)).flushing = none ∧ ((strS wk [] rg).stream (0 * 32 + 2)).owed = none ∧ ((strS wk
      [] rg).stream (0 * 32 + 2)).walk.nestPoint ((strS wk [] rg).stream (0 * 32 + 2)).prog.limit (512 / widthOf
      1) [] = Point.run (512 : Int) 32 ∧ wrap52 (512 / 8 : Int) % min (64 * widthOf ((strS wk [] rg).stream (0 *
      32 + 2)).walk.stag / widthOf 1) 64 = 0 ∧ ((strS wk [] rg).stream (0 * 32 + 2)).walk.clampBad = false ∧
      (strS wk [] rg).strRing (0 * 32 + 2) = some rg ∧ rg.key = (strS wk [] rg).strKey (0 * 32 + 2) ∧ ((strS wk
      [] rg).stream (0 * 32 + 2)).prog.src = false ∧ grantsOne (strS wk [] rg) rg (Claimant.stream (0 * 32 + 2))
      ∧ itsTurn (strS wk [] rg) 0 2 ∧ ((∀ (x : Nat), wrap52 (512 / 8 : Int) / 64 * 64 ≤ x → x < wrap52 (512 / 8
      : Int) + (((512 : Int) % (8 : Int)).toNat + 32 * widthOf ((strS wk [] rg).stream (0 * 32 + 2)).walk.stag +
      7) / 8 → pg.covers ((strS wk [] rg).asid ((strS wk [] rg).stream (0 * 32 + 2)).job) x = true) ∧ wrap52
      (512 / 8 : Int) + (((512 : Int) % (8 : Int)).toNat + 32 * widthOf ((strS wk [] rg).stream (0 * 32 +
      2)).walk.stag + 7) / 8 < 2 ^ 52 ∧ (strS wk [] rg).poison = [] ∧ ∀ (d : Nat), ((strS wk [] rg).die
      d).fenced = false) ∧ 0 < 32 * widthOf ((strS wk [] rg).stream (0 * 32 + 2)).walk.stag) ∧
    (2 < 16 ∧ (wkW.die (0 / 64 : Nat)).fenced = false ∧ (wkW.stream (0 * 32 + 2)).ops = [sop 1] ∧ (∀ (y :
      StrOp), y ∈ [] → y.num ≠ (sop 1).num) ∧ (wkW.slice 0).tlb = [pg] ∧ (sop 1).run = false ∧ (wkW.plane (sop
      1).pid).writesDone (sop 1).fid (sop 1).upTo = true ∧ (wkW.plane (sop 1).pid).stash = [] ∧ nothingWaits wkW
      ∧ (wkW.stream (0 * 32 + 2)).state = StrState.walk ∧ (wkW.stream (0 * 32 + 2)).walk.active = true ∧ (sop
      1).fin = false ∧ (sop 1).kind ≠ 3 ∧ (wkW.stream (0 * 32 + 2)).prog.fmt = some (1, 1, 0, false) ∧
      (wkW.stream (0 * 32 + 2)).walk.finished = false ∧ (wkW.stream (0 * 32 + 2)).walk.box = none ∧ (wkW.stream
      (0 * 32 + 2)).walk.idxAddrs = [] ∧ (wkW.stream (0 * 32 + 2)).walk.follow = none ∧ (wkW.stream (0 * 32 +
      2)).walk.lines = [] ∧ (wkW.stream (0 * 32 + 2)).walk.ahead = [] ∧ (wkW.stream (0 * 32 + 2)).walk.sectors =
      [] ∧ (wkW.stream (0 * 32 + 2)).flushing = none ∧ (wkW.stream (0 * 32 + 2)).owed = none ∧ (wkW.stream (0 *
      32 + 2)).walk.nestPoint (wkW.stream (0 * 32 + 2)).prog.limit (512 / widthOf 1) [] = Point.run (512 : Int)
      32 ∧ wrap52 (512 / 8 : Int) % min (64 * widthOf (wkW.stream (0 * 32 + 2)).walk.stag / widthOf 1) 64 = 0 ∧
      (wkW.stream (0 * 32 + 2)).walk.clampBad = false ∧ wkW.strRing (0 * 32 + 2) = some rg ∧ rg.key = wkW.strKey
      (0 * 32 + 2) ∧ (wkW.stream (0 * 32 + 2)).prog.src = true ∧ (wkW.stream (0 * 32 + 2)).current = some (sop
      1) ∧ wkW.srcSlot rg (wkW.stream (0 * 32 + 2)).prog.branch (wkW.stream (0 * 32 + 2)).colour = SrcSlot.slot
      0 (mkSide 0 5 0 2) (4369 : Gran) ∧ ((512 : Int) % (8 : Int)).toNat = 0 ∧ BitVec.getLsbD pg.pte 2 = true ∧
      (∀ (q : Nat × Plane), q ∈ wkW.planes → q.snd.stash = []) ∧ (∀ (q : Nat × Slice), q ∈ wkW.slices →
      q.snd.wins = []) ∧ ((∀ (x : Nat), wrap52 (512 / 8 : Int) / 64 * 64 ≤ x → x < wrap52 (512 / 8 : Int) + (min
      ((8 * if sideValid (mkSide 0 5 0 2) = 0 then 64 else sideValid (mkSide 0 5 0 2)) / widthOf 1) 32 * widthOf
      (wkW.stream (0 * 32 + 2)).walk.stag + 7) / 8 → pg.covers (wkW.asid (wkW.stream (0 * 32 + 2)).job) x =
      true) ∧ wrap52 (512 / 8 : Int) + (min ((8 * if sideValid (mkSide 0 5 0 2) = 0 then 64 else sideValid
      (mkSide 0 5 0 2)) / widthOf 1) 32 * widthOf (wkW.stream (0 * 32 + 2)).walk.stag + 7) / 8 < 2 ^ 52 ∧
      wkW.poison = [] ∧ ∀ (d : Nat), (wkW.die d).fenced = false) ∧ (0 < (min ((8 * if sideValid (mkSide 0 5 0 2)
      = 0 then 64 else sideValid (mkSide 0 5 0 2)) / widthOf 1) 32 * widthOf (wkW.stream (0 * 32 + 2)).walk.stag
      + 7) / 8) ∧ (32 < wrap52 (512 / 8 : Int) % 32 + (min ((8 * if sideValid (mkSide 0 5 0 2) = 0 then 64 else
      sideValid (mkSide 0 5 0 2)) / widthOf 1) 32 * widthOf (wkW.stream (0 * 32 + 2)).walk.stag + 7) / 8)) ∧
    (2 < 16 ∧ (wkV.die (0 / 64 : Nat)).fenced = false ∧ (wkV.stream (0 * 32 + 2)).ops = [sop 1] ∧ (∀ (y :
      StrOp), y ∈ [] → y.num ≠ (sop 1).num) ∧ (wkV.slice 0).tlb = [pg] ∧ (sop 1).run = false ∧ (wkV.plane (sop
      1).pid).writesDone (sop 1).fid (sop 1).upTo = true ∧ (wkV.plane (sop 1).pid).stash = [] ∧ nothingWaits wkV
      ∧ (wkV.stream (0 * 32 + 2)).state = StrState.walk ∧ (wkV.stream (0 * 32 + 2)).walk.active = true ∧ (sop
      1).fin = false ∧ (sop 1).kind ≠ 3 ∧ (wkV.stream (0 * 32 + 2)).prog.fmt = some (1, 1, 0, false) ∧
      (wkV.stream (0 * 32 + 2)).walk.finished = false ∧ (wkV.stream (0 * 32 + 2)).walk.box = none ∧ (wkV.stream
      (0 * 32 + 2)).walk.idxAddrs = [] ∧ (wkV.stream (0 * 32 + 2)).walk.follow = none ∧ (wkV.stream (0 * 32 +
      2)).walk.lines = [] ∧ (wkV.stream (0 * 32 + 2)).walk.ahead = [] ∧ (wkV.stream (0 * 32 + 2)).walk.sectors =
      [] ∧ (wkV.stream (0 * 32 + 2)).flushing = none ∧ (wkV.stream (0 * 32 + 2)).owed = none ∧ (wkV.stream (0 *
      32 + 2)).walk.nestPoint (wkV.stream (0 * 32 + 2)).prog.limit (512 / widthOf 1) [] = Point.run (512 : Int)
      32 ∧ wrap52 (512 / 8 : Int) % min (64 * widthOf (wkV.stream (0 * 32 + 2)).walk.stag / widthOf 1) 64 = 0 ∧
      (wkV.stream (0 * 32 + 2)).walk.clampBad = false ∧ wkV.strRing (0 * 32 + 2) = some rg ∧ rg.key = wkV.strKey
      (0 * 32 + 2) ∧ (wkV.stream (0 * 32 + 2)).prog.src = true ∧ (wkV.stream (0 * 32 + 2)).current = some (sop
      1) ∧ wkV.srcSlot rg (wkV.stream (0 * 32 + 2)).prog.branch (wkV.stream (0 * 32 + 2)).colour = SrcSlot.slot
      0 (mkSide 0 5 16 2) (4369 : Gran) ∧ ((512 : Int) % (8 : Int)).toNat = 0 ∧ BitVec.getLsbD pg.pte 2 = true ∧
      (∀ (q : Nat × Plane), q ∈ wkV.planes → q.snd.stash = []) ∧ (∀ (q : Nat × Slice), q ∈ wkV.slices →
      q.snd.wins = []) ∧ ((∀ (x : Nat), wrap52 (512 / 8 : Int) / 64 * 64 ≤ x → x < wrap52 (512 / 8 : Int) + (min
      ((8 * if sideValid (mkSide 0 5 16 2) = 0 then 64 else sideValid (mkSide 0 5 16 2)) / widthOf 1) 32 *
      widthOf (wkV.stream (0 * 32 + 2)).walk.stag + 7) / 8 → pg.covers (wkV.asid (wkV.stream (0 * 32 + 2)).job)
      x = true) ∧ wrap52 (512 / 8 : Int) + (min ((8 * if sideValid (mkSide 0 5 16 2) = 0 then 64 else sideValid
      (mkSide 0 5 16 2)) / widthOf 1) 32 * widthOf (wkV.stream (0 * 32 + 2)).walk.stag + 7) / 8 < 2 ^ 52 ∧
      wkV.poison = [] ∧ ∀ (d : Nat), (wkV.die d).fenced = false) ∧ (0 < (min ((8 * if sideValid (mkSide 0 5 16
      2) = 0 then 64 else sideValid (mkSide 0 5 16 2)) / widthOf 1) 32 * widthOf (wkV.stream (0 * 32 +
      2)).walk.stag + 7) / 8) ∧ (wrap52 (512 / 8 : Int) % 32 + (min ((8 * if sideValid (mkSide 0 5 16 2) = 0
      then 64 else sideValid (mkSide 0 5 16 2)) / widthOf 1) 32 * widthOf (wkV.stream (0 * 32 + 2)).walk.stag +
      7) / 8 ≤ 32) ∧ itsTurn wkV 0 2) ∧
    (2 < 16 ∧ (wkL.die (0 / 64 : Nat)).fenced = false ∧ (wkL.stream (0 * 32 + 2)).ops = [sop 1, flO] ∧ (∀ (y :
      StrOp), y ∈ [flO] → y.num ≠ (sop 1).num) ∧ (wkL.slice 0).tlb = [pg] ∧ (sop 1).run = false ∧ (wkL.plane
      (sop 1).pid).writesDone (sop 1).fid (sop 1).upTo = true ∧ (wkL.plane (sop 1).pid).stash = [] ∧
      nothingWaits wkL ∧ (wkL.stream (0 * 32 + 2)).flushing = some flO ∧ wkL.opReady flO = true ∧ (wkL.plane
      flO.pid).stash = [] ∧ (wkL.stream (0 * 32 + 2)).prog.fmt = some (1, 1, 0, false) ∧ wkL.strRing (0 * 32 +
      2) = some rg ∧ rg.key = wkL.strKey (0 * 32 + 2) ∧ grantsOne wkL rg (Claimant.stream (0 * 32 + 2)) ∧
      itsTurn wkL 0 2 ∧ (∀ (y : StrOp), y ∈ (wkL.stream (0 * 32 + 2)).ops → y.num = flO.num → y = flO) ∧
      (wkL.stream (0 * 32 + 2)).owed = none) ∧
    (2 < 16 ∧ (wkO.die (0 / 64 : Nat)).fenced = false ∧ (wkO.stream (0 * 32 + 2)).ops = [sop 1] ∧ (∀ (y :
      StrOp), y ∈ [] → y.num ≠ (sop 1).num) ∧ (wkO.slice 0).tlb = [pg] ∧ (sop 1).run = false ∧ (wkO.plane (sop
      1).pid).writesDone (sop 1).fid (sop 1).upTo = true ∧ (wkO.plane (sop 1).pid).stash = [] ∧ nothingWaits wkO
      ∧ (wkO.stream (0 * 32 + 2)).owed = some (2, 2, 7) ∧ (wkO.stream (0 * 32 + 2)).prog.fmt = some (1, 1, 0,
      false) ∧ wkO.strRing (0 * 32 + 2) = some rg ∧ rg.key = wkO.strKey (0 * 32 + 2) ∧ grantsOne wkO rg
      (Claimant.stream (0 * 32 + 2)) ∧ itsTurn wkO 0 2) ∧
    (2 < 16 ∧ (wkE.die (0 / 64 : Nat)).fenced = false ∧ (wkE.stream (0 * 32 + 2)).ops = [sop 1] ∧ (∀ (y :
      StrOp), y ∈ [] → y.num ≠ (sop 1).num) ∧ (wkE.slice 0).tlb = [pg] ∧ (sop 1).run = false ∧ (wkE.plane (sop
      1).pid).writesDone (sop 1).fid (sop 1).upTo = true ∧ (wkE.plane (sop 1).pid).stash = [] ∧ nothingWaits wkE
      ∧ (wkE.stream (0 * 32 + 2)).state = StrState.walk ∧ (wkE.stream (0 * 32 + 2)).walk.active = true ∧
      (wkE.stream (0 * 32 + 2)).walk.finished = true ∧ (wkE.stream (0 * 32 + 2)).walk.follow = none ∧ (sop
      1).fin = false ∧ (wkE.stream (0 * 32 + 2)).flushing = none ∧ (wkE.stream (0 * 32 + 2)).owed = none ∧ (sop
      1).kind < 2 ∧ (sop 1).err = 0 ∧ (wkE.stream (0 * 32 + 2)).status = 0 ∧ (wkE.stream (0 * 32 + 2)).prog.dctr
      = none) ∧
    (2 < 16 ∧ (wkF.die (0 / 64 : Nat)).fenced = false ∧ (wkF.stream (0 * 32 + 2)).ops = [sop 1] ∧ (∀ (y :
      StrOp), y ∈ [] → y.num ≠ (sop 1).num) ∧ (wkF.slice 0).tlb = [pg] ∧ (sop 1).run = false ∧ (wkF.plane (sop
      1).pid).writesDone (sop 1).fid (sop 1).upTo = true ∧ (wkF.plane (sop 1).pid).stash = [] ∧ nothingWaits wkF
      ∧ (wkF.stream (0 * 32 + 2)).state = StrState.fault ∧ (wkF.die (0 / 64 : Nat)).misses = []) :=
  by
  and_intros <;> first
    | exact fun x h1 h2 => cov (by decide +kernel) (by decide +kernel) (by decide +kernel) x h1 h2
    | decide +kernel
    | exact fun _ => rfl
    | exact allDies _ rfl
    | unfold grantsOne; decide +kernel
    | unfold itsTurn; decide +kernel

end Sys2Proof.Tests.Streams
end

