-- ==== Sys2Proof/Tests/Takes.lean ====
section
/-!
SUPPORT. For each hypothesis list of the take, region, trap and system statements, a concrete state and operands that meet all of it together:
one conjunct for each clause of a statement.
-/
namespace Sys2Proof.Tests.Takes
open Sys2Proof Sys2Proof.Machine Sys2Proof.Tests
set_option maxRecDepth 20000
set_option Elab.async false

def x1 := {regS rgQ with planes := []}
def x2 := (regS {rgn with place := .loading})
def x3 := {rgn with place := .loading}
def x4 := (regS {rgn with place := .saving})
def x5 := {rgn with place := .saving}
def x6 := (regS {rgn with place := .loading, saved := [savX], core := 5})
def x7 := {rgn with place := .loading, saved := [savX], core := 5}
def tk8 : Token := {tk7 with tid := 8, colour := 15}
def hstS (l : List MemOp) : State := {gm {plG with running := false, tokens := [tk8], memq := l} with takes := [(7, takeT), (8, take8)], regions := [(2048, rgn)]}
def x8 : Core := {killQ := [(0, 7, {})]}
def x9 := {takeT with isParked := false}
def x10 := (endS {take7 with slate := {act0 := 0x40002}})
def x11 := {take7 with slate := {act0 := 0x40002}}
def failT : Take := { take7 with failing := true, failCode := 3 }
def jbB : Job := {jb with contract := [{bound := [(100, 5, 9)]}]}
def x12 := {endS take7 with clk := 100, jobs := [(1, jbB)]}
def x13 := {endS take7 with clk := 5000}
def jbP : Job := {jb with endpoints := [(9, true)]}
def x14 := {endS take7 with clk := 5000, jobs := [(1, jbP)]}
def ex1 : Exit := { region := 2048, ring := 16, shadowRing := 1040, comparator := 40, prim := [(7, 2, 0)], shad := [(70, 3, 1)] }
def ra : Ring := { rg with reclaim := 1, slots := [(1, {}), (2, {})] }
def rb : Ring := { rg with cell := 1, pid := 4, reclaim := 1, slots := [(1, {}), (3, {})] }
def exS : State := { endS {take7 with twin := 70} with rings := [(16, ra), (1040, rb)], exits := [ex1] }
def x15 := {take7 with twin := 70}
def x16 := {opY with g := 2, imm := 9}
def x17 := {opY with kreg := 0x101}
def x18 := ((0x101, 0xC0D15EED) : Nat × Nat)
def x19 := {opY with kreg := 0x200}
def x20 := {opY with kreg := 0x201}
def x21 := {opY with kreg := 0x100}
def drwS : State := st {pl0 with mq := [{ mo .mrel with sr := true }]}
def x23 := (hndlS {take8 with resolved := true})
def x24 := {take8 with resolved := true}
def x25 := {opY with a := 7}
def x26 := {gm {plG with regs := {plG.regs with s := [(7, 15)]}} with clk := 3}
def plO : Plane := {plG with regs := {plG.regs with s := [(7, 2)]}}
def x27 := {takeS with planes := [(0, plO)]}
def x28 := {scal with clk := 100}
def x30 := {st {pl0 with firing := {fir with wait := .idle, waitArg := 3}} with clk := 3}
def haltS : State := {takeS with planes := [(0, {plG with job := 1})]}

/-- The hypotheses of SlatesBecomeTakes can be met together, clause by clause. -/
theorem witness_SlatesBecomeTakes :
    ((deqS.die 0).queues = [que] ∧ (deqS.die 0).nextQueue = 0 ∧ (deqS.die 0).held.length < 256 ∧ deqS.qHead que
      ≠ deqS.qTail que ∧ deqS.jobRuns que.job = true ∧ deqS.placeOf que.job (deqS.qSlot que (deqS.qHead que))
      false = some sltX ∧ (¬sltX.key / 64 ∈ deqS.poison) ∧ (deqS.die sltX.die).fenced = false ∧ sltX.slice < 64
      ∧ (∀ (p : Nat × Plane), p ∈ deqS.planes → p.snd.stash = []) ∧ deqS.slateRefused 0 que.job (BitVec.ofNat
      512 (deqS.num sltX.key 64)) = false ∧ deqS.slices = []) ∧
    (((heldS hld).die 0).held = [hld] ∧ hld.released = true ∧ hld.slate.kind = 0 ∧ hld.start = false ∧
      hld.source = Source.slate ∧ hld.reissue = false ∧ (heldS hld).region (regionKey hld.job 0
      hld.slate.region) = some rgn ∧ rgn.place = Placement.eligible ∧ rgn.condemned = false ∧ rgn.shadow = 0 ∧
      rgn.key = regionKey hld.job 0 hld.slate.region ∧ (heldS hld).freeColour rgn.key = some 0 ∧ (heldS
      hld).freeContext rgn.driver = some 0 ∧ ((heldS hld).core rgn.driver).store.length < 896 ∧ find rgn.nts
      hld.slate.entry = some 0 ∧ Option.map Job.contract ((heldS hld).job hld.job) = some []) ∧
    ((joinS 3).arriving 0 = some (hldM 3) ∧ (hldM 3).slate = tokM 0 3 ∧ 2 ≤ (tokM 0 3).nports ∧ (tokM 0
      3).nports ≤ 6 ∧ (tokM 0 3).port < (tokM 0 3).nports ∧ (∀ (m : MatchTok), m ∈ ((joinS 3).core 0).tokensOf
      (hldM 3).job (tokM 0 3) → m.slate.nports = (tokM 0 3).nports ∧ m.slate.port ≠ (tokM 0 3).port) ∧ (((joinS
      3).core 0).tokensOf (hldM 3).job (tokM 0 3)).length + 1 ≠ (tokM 0 3).nports ∧ ((joinS 3).core
      0).store.length < 1024) ∧
    ((joinS 2).arriving 0 = some (hldM 2) ∧ (hldM 2).slate = tokM 0 2 ∧ 2 ≤ (tokM 0 2).nports ∧ (tokM 0
      2).nports ≤ 6 ∧ (tokM 0 2).port < (tokM 0 2).nports ∧ (∀ (m : MatchTok), m ∈ ((joinS 2).core 0).tokensOf
      (hldM 2).job (tokM 0 2) → m.slate.nports = (tokM 0 2).nports ∧ m.slate.port ≠ (tokM 0 2).port) ∧ (((joinS
      2).core 0).tokensOf (hldM 2).job (tokM 0 2)).length + 1 = (tokM 0 2).nports) ∧
    ((spillS.core 0).spill = [mtk 2] ∧ (spillS.core 0).store.length ≤ 960) :=
  by and_intros <;> decide +kernel

/-- The hypotheses of PlacementAndEviction can be met together, clause by clause. -/
theorem witness_PlacementAndEviction :
    (x1.regions = [(2048, rgQ)] ∧ rgQ.key = 2048 ∧ 2048 ≠ 0 ∧ rgQ.die = 0 ∧ rgQ.place = Placement.requested ∧
      rgQ.saved = [] ∧ rgQ.shadow = 0 ∧ rgQ.image.partners = [] ∧ x1.exits = [] ∧ x1.jobRuns rgQ.job = true ∧
      x1.couldFit rgQ 0 = true ∧ (∀ (c : Nat), c < 0 → x1.couldFit rgQ c = false) ∧ 0 < 16) ∧
    (x2.region 2048 = some x3 ∧ x3.key = 2048 ∧ x3.place = Placement.loading ∧ x3.saved = [] ∧ 17 ∈ x3.cells ∧
      (x2.die x3.die).fenced = false) ∧
    (x4.region 2048 = some x5 ∧ x5.key = 2048 ∧ x5.place = Placement.saving ∧ x4.saveReady x5 = true ∧ 0 ∈
      x5.pids ∧ (x4.die x5.die).fenced = false) ∧
    (abnS.region 2048 = some x5 ∧ x5.key = 2048 ∧ x5.place = Placement.saving ∧ reqX ∈ abnS.requests x5.die ∧ (∀
      (y : RegionReq), y ∈ abnS.requests x5.die → y.region.key ≠ x5.evictor) ∧ (abnS.placeFirst
      reqX.region).isSome = true ∧ 0 ∈ x5.pids ∧ (∀ (q : Nat), q ∈ x5.pids → (abnS.plane q).eotLeft = false)) ∧
    (x6.region 2048 = some x7 ∧ x7.key = 2048 ∧ x7.place = Placement.loading ∧ x6.restoreCtxs x7 = some [] ∧
      x7.saved = [savX] ∧ (x6.die x7.die).fenced = false ∧ savX.plane.eotLeft = false ∧ (∀ (e : Nat × Ring), e ∈
      savX.rings → e.snd.leaving = []) ∧ (∀ (e : Nat × Resid), e ∈ savX.plane.resid → e.snd.ended = false) ∧ (∀
      (e : Nat × Plane), e ∈ x6.planes → ∀ (x : Nat × Resid), x ∈ e.snd.resid → x.snd.ended = false)) :=
  by and_intros <;> decide +kernel

/-- The hypotheses of IssueTokensAndHandlers can be met together, clause by clause. -/
theorem witness_IssueTokensAndHandlers :
    ((tokS take7).tokensUnderWay[0]? = some (0, 0, tk7) ∧ (∀ (e : Nat × Nat × Token), e ∈ List.take 0 (tokS
      take7).tokensUnderWay → e.fst = 0 → e.snd.fst = 0 → e.snd.snd.tid ≠ tk7.tid) ∧ (tokS take7).take tk7.tid =
      some take7 ∧ ((tokS take7).die (0 / 1024 : Nat)).fenced = false ∧ take7.isParked = false) ∧
    ((tokS takeT).tokensUnderWay[0]? = some (0, 0, tk7) ∧ (∀ (e : Nat × Nat × Token), e ∈ List.take 0 (tokS
      takeT).tokensUnderWay → e.fst = 0 → e.snd.fst = 0 → e.snd.snd.tid ≠ tk7.tid) ∧ (tokS takeT).take tk7.tid =
      some takeT ∧ ((tokS takeT).die (0 / 1024 : Nat)).fenced = false ∧ takeT.isParked = true) ∧
    ((startS.plane 0).tokens = [tk7] ∧ tk7.colour ≠ 15 ∧ (startS.plane 0).running = false ∧ (startS.plane
      0).stopped = false ∧ startS.jobRuns (startS.plane 0).job = true ∧ (startS.plane 0).ownParks = [] ∧ (∀ (e :
      Nat × Take), e ∈ startS.takes → e.snd.parked = []) ∧ (startS.die (0 / 1024 : Nat)).fenced = false ∧ (∀ (o
      : MemOp), o ∈ (startS.plane 0).memq → o.dst ≠ Dest.sreg 1)) ∧
    (((hstS [op MemKind.load]).plane 0).tokens = [tk8] ∧ tk8.colour = 15 ∧ (hstS [op MemKind.load]).take tk8.tid
      = some take8 ∧ take8.record = some trp ∧ trp.pid = 0 ∧ (hstS [op MemKind.load]).take take8.serves = some
      takeT ∧ takeT.parked = [prk] ∧ prk.pid = 0 ∧ prk.queueOnly = false ∧ (∀ (e : Nat × Take), e ∈ (hstS [op
      MemKind.load]).takes → e.snd.isParked = true ∨ e.snd.parked = []) ∧ ((hstS [op MemKind.load]).plane
      0).running = false ∧ ((hstS [op MemKind.load]).plane 0).stopped = false ∧ (hstS [op MemKind.load]).jobRuns
      ((hstS [op MemKind.load]).plane 0).job = true ∧ ((hstS [op MemKind.load]).plane 0).ownParks = [] ∧ ((hstS
      [op MemKind.load]).die (0 / 1024 : Nat)).fenced = false ∧ ((((hstS [op MemKind.load]).plane 0).memq.any
      fun o => o.fid == prk.firing.fid && o.dst != Dest.none) = true)) ∧
    (((hstS []).plane 0).tokens = [tk8] ∧ tk8.colour = 15 ∧ (hstS []).take tk8.tid = some take8 ∧ take8.record =
      some trp ∧ trp.pid = 0 ∧ (hstS []).take take8.serves = some takeT ∧ takeT.parked = [prk] ∧ prk.pid = 0 ∧
      prk.queueOnly = false ∧ (∀ (e : Nat × Take), e ∈ (hstS []).takes → e.snd.isParked = true ∨ e.snd.parked =
      []) ∧ ((hstS []).plane 0).running = false ∧ ((hstS []).plane 0).stopped = false ∧ (hstS []).jobRuns ((hstS
      []).plane 0).job = true ∧ ((hstS []).plane 0).ownParks = [] ∧ ((hstS []).die (0 / 1024 : Nat)).fenced =
      false ∧ ((((hstS []).plane 0).memq.any fun o => o.fid == prk.firing.fid && o.dst != Dest.none) = false) ∧
      (∀ (o : MemOp), o ∈ ((hstS []).plane 0).memq → o.dst ≠ Dest.sreg 1)) ∧
    (killS.cores = [(0, x8)] ∧ x8.killQ = [(0, 7, {  })] ∧ x8.tokQ = [] ∧ (killS.plane 0).eotLeft = false ∧ (killS.die (0 / 1024 : Nat)).fenced = false) ∧
    ((hndS.core 0).trapQ = [7] ∧ find hndS.ctxs (0 * 16 + 15) = none ∧ hndS.take 7 = some takeT ∧ takeT.tid = 7
      ∧ takeT.traps = [trp] ∧ trp.cause ≠ 2 ∧ trp.cause ≠ 12 ∧ hndS.region takeT.region = some rgn ∧ rgn.key =
      takeT.region ∧ rgn.place = Placement.eligible ∧ rgn.driver = 0 ∧ rgn.image.handler = some 0 ∧ find rgn.nts
      0 = some 0 ∧ 7 ≠ hndS.serial ∧ (hndS.die (0 / 16 : Nat)).fenced = false) ∧
    (resS.takes = [(7, x9)] ∧ x9.tid = 7 ∧ x9.isParked = false ∧ x9.parked = [prk] ∧ prk.pid = 0 ∧ prk.queueOnly
      = false ∧ (resS.plane 0).running = false ∧ (resS.plane 0).stopped = false ∧ (∀ (e : Nat × Ring), e ∈
      resS.rings → e.snd.queue = [] ∧ e.snd.granted = []) ∧ (resS.die (0 / 1024 : Nat)).fenced = false) ∧
    ((takeS.die 0).fenced = false ∧ ((takeS.cell (0 * 256 + 0)).everIssued = false ∨ (takeS.cell (0 * 256 +
      0)).issuedAt ≠ takeS.clk) ∧ takeS.slotPlane 0 = none ∧ 1 ≤ 1 ∧ 1 ≤ 4 ∧ takeS.issuable (pidOf 0 0
      (((takeS.cell (0 * 256 + 0)).lastIssuer + 1) % 4)) = true ∧ (∀ (j : Nat), 1 ≤ j → j < 1 → takeS.issuable
      (pidOf 0 0 (((takeS.cell (0 * 256 + 0)).lastIssuer + j) % 4)) = false)) :=
  by
  and_intros <;> first
    | decide +kernel
    | intro j h1 h2; omega

/-- The hypotheses of TakesEnd can be met together, clause by clause. -/
theorem witness_TakesEnd :
    (x10.take 7 = some x11 ∧ x11.tid = 7 ∧ x10.drained x11 = true ∧ x10.groupServed x11 = true ∧ x11.colour ≠ 15
      ∧ x11.source = Source.slate ∧ x11.shadow = false) ∧
    ((endS failT).take 7 = some failT ∧ failT.tid = 7 ∧ failT.failing = true ∧ (∀ (e : Nat × Plane), e ∈ (endS
      failT).planes → ∀ (o : MemOp), o ∈ e.snd.memq → o.tid = 7 → o.isWrite = false) ∧ (endS failT).openMsgs 7 =
      false ∧ (endS failT).groupServed failT = true ∧ failT.colour ≠ 15 ∧ failT.source = Source.slate ∧
      failT.shadow = false ∧ failT.later = [] ∧ failT.slate.act0 = (0 : Word) ∧ failT.slate.act1 = (0 : Word) ∧
      failT.failCode < 2 ^ 16 ∧ failT.failCode ≠ 0 ∧ failT.job ≠ 0 ∧ (endS failT).job failT.job = some jb ∧
      ((endS failT).link jb.link).held = [] ∧ ((endS failT).link jb.link).heldBehind = [] ∧ ((endS failT).link
      jb.link).nextCq = none) ∧
    (x12.take 7 = some take7 ∧ take7.tid = 7 ∧ x12.boundOf take7 = some (100, 5, 9) ∧ take7.late = false ∧
      take7.shadow = false ∧ take7.colour ≠ 15 ∧ take7.born + 100 ≤ x12.clk) ∧
    (x13.job 1 = some jb ∧ jb.id = 1 ∧ jb.stopped = false ∧ jb.ended = false ∧ x13.stalled jb = true ∧
      jb.endpoints = []) ∧
    (x14.job 1 = some jbP ∧ 9 ∈ List.map Prod.fst jbP.endpoints ∧ 9 ≠ x14.pkg.endpoint ∧ jbP.stopped = false) ∧
    (exS.exits = [ex1] ∧ ex1.region = 2048 ∧ exS.take x15.tid = some x15 ∧ ex1.prim = [(x15.tid, 2, 0)] ∧ ex1.shad = [(x15.twin, 3, 1)] ∧ x15.pairOf = 0 ∧ exS.ring ex1.ring = some ra ∧ exS.ring ex1.shadowRing = some rb ∧ ex1.ring ≠ ex1.shadowRing ∧ exS.gran ra 2 = exS.gran rb 3 ∧ BitVec.toNat (exS.side ra 2) / 16 = BitVec.toNat (exS.side rb 3) / 16 ∧ ra.pid ≠ rb.pid ∧ (exS.plane ra.pid).eotLeft = false ∧ (exS.plane rb.pid).eotLeft = false ∧ ra.reclaim < 2 ∧ sideMark (exS.side rb 3) ≠ 4 ∧ sideMark (exS.side ra 2) ≠ 4 ∧ find ra.slots ra.reclaim = some {  } ∧ (∀ (x : Nat), x ∈ ra.leaving → sideMark (exS.side ra x) ≠ 4) ∧ (∀ (x : Nat), x ∈ rb.leaving → sideMark (exS.side rb x) ≠ 4) ∧ find ra.slots 2 = some {  } ∧ ra.live ≠ (0 : BitVec 8) ∧ (exS.die (ex1.comparator / 256)).fenced = false) :=
  by and_intros <;> decide +kernel

/-- The hypotheses of TrapsAreTaken can be met together, clause by clause. -/
theorem witness_TrapsAreTaken :
    (takeS.take takeS.pl.firing.tid = some take7 ∧ take7.tid = takeS.pl.firing.tid ∧ take7.colour ≠ 15 ∧
      takeS.region take7.region = some rgn ∧ rgn.image.handler = some 0) ∧
    (takeS.take takeS.pl.firing.tid = some take7 ∧ take7.tid = takeS.pl.firing.tid ∧ take7.colour ≠ 15 ∧
      takeS.region take7.region = some rgn ∧ rgn.image.handler = some 0 ∧ takeS.rP x16.g.toNat ^^^ x16.gn = (1 :
      BitVec 1)) ∧
    (takeS.take takeS.pl.firing.tid = some take7 ∧ take7.tid = takeS.pl.firing.tid ∧ take7.colour ≠ 15 ∧
      takeS.region take7.region = some rgn ∧ rgn.image.handler = some 0 ∧ takeS.rP x16.g.toNat ^^^ x16.gn = (1 :
      BitVec 1)) ∧
    (noHandler.take noHandler.pl.firing.tid = some take7 ∧ take7.tid = noHandler.pl.firing.tid ∧ take7.colour ≠
      15 ∧ (((noHandler.region take7.region).bind fun r => r.image.handler) = none) ∧ take7.failing = false ∧
      take7.twin = 0) :=
  by and_intros <;> decide +kernel

/-- The hypotheses of SystemRegisters can be met together, clause by clause. -/
theorem witness_SystemRegisters :
    (scal.rP x17.g.toNat ^^^ x17.gn = (1 : BitVec 1) ∧ (x18 ∈ [(0, scal.cur % 4), (1, scal.pl.firing.colour),
      (2, scal.pl.stage), (3, scal.cur / 1024 * 8192 + (scal.cur / 4 % 256 / 64 * 4 + scal.cur / 4 % 256 % 16 /
      4) * 512 + (scal.cur / 4 % 256 / 16 % 4 * 4 + scal.cur / 4 % 256 % 4) * 32), (4, scal.pl.region), (5,
      scal.pl.job), (16, scal.pl.firing.coord.row.toNat), (17, scal.pl.firing.coord.grp.toNat), (18,
      scal.pl.firing.coord.seq.toNat), (19, scal.pl.firing.clayer), (20, scal.pl.firing.entry), (256, if
      scal.pl.ftz = true then 1 else 0), (257, scal.pl.lfsr.toNat), (768, scal.clk / 256 % 64), (769,
      scal.clk)]) ∧ x17.kreg.toNat = x18.fst ∧ (x18.fst = 257 → scal.pl.drawsQueued = false)) ∧
    (scal.rP x19.g.toNat ^^^ x19.gn = (1 : BitVec 1) ∧ x19.kreg.toNat ∈ [512, 513, 514, 515] ∧
      scal.pl.firing.colour ≠ 15) ∧
    ((hndlS take8).rP x20.g.toNat ^^^ x20.gn = (1 : BitVec 1) ∧ (hndlS take8).pl.firing.colour = 15 ∧ (hndlS
      take8).take (hndlS take8).pl.firing.tid = some take8 ∧ take8.record = some trp ∧ x20.kreg = (513 : BitVec
      12) ∧ take8.tid = (hndlS take8).pl.firing.tid) ∧
    (scal.rP x21.g.toNat ^^^ x21.gn = (1 : BitVec 1) ∧ x21.kreg = (256 : BitVec 12)) ∧
    (drwS.rP x17.g.toNat ^^^ x17.gn = (1 : BitVec 1) ∧ x17.kreg = (257 : BitVec 12) ∧ drwS.pl.drawsQueued =
      true) ∧
    (scal.rP x17.g.toNat ^^^ x17.gn = (1 : BitVec 1) ∧ x17.kreg = (257 : BitVec 12) ∧ scal.pl.drawsQueued =
      false) ∧
    (scal.rP x20.g.toNat ^^^ x20.gn = (1 : BitVec 1) ∧ x20.kreg ≠ (256 : BitVec 12) ∧ x20.kreg ≠ (257 : BitVec
      12) ∧ (x20.kreg ≠ (513 : BitVec 12) ∨ scal.pl.firing.colour ≠ 15)) :=
  by and_intros <;> decide +kernel

/-- The hypotheses of HandlerAndSupervisorInstructions can be met together, clause by clause. -/
theorem witness_HandlerAndSupervisorInstructions :
    (scal.rP opY.g.toNat ^^^ opY.gn = (1 : BitVec 1) ∧ scal.pl.firing.colour ≠ 15) ∧
    (x23.rP opY.g.toNat ^^^ opY.gn = (1 : BitVec 1) ∧ x23.pl.firing.colour = 15 ∧ x23.take x23.pl.firing.tid =
      some x24 ∧ (x24.resolved = true ∨ x24.record = none) ∧ opY.d ≠ (0 : BitVec 5)) ∧
    ((hndlS take8).rP opY.g.toNat ^^^ opY.gn = (1 : BitVec 1) ∧ (hndlS take8).pl.firing.colour = 15 ∧ (hndlS
      take8).take (hndlS take8).pl.firing.tid = some take8 ∧ take8.tid = (hndlS take8).pl.firing.tid ∧
      take8.resolved = false ∧ take8.record = some trp ∧ (hndlS take8).take take8.serves = some takeT ∧
      takeT.tid = take8.serves ∧ takeT.tid ≠ take8.tid ∧ takeT.failing = false ∧ takeT.traps = [trp] ∧
      takeT.parked = [prk] ∧ prk.pid = trp.pid ∧ trp.cause ≠ 11 ∧ trp.unit.toNat % 32 ≠ 8 ∧ trp.pc ≠
      BitVec.allOnes 64 ∧ (hndlS take8).ownParked takeT = false ∧ (hndlS take8).released = true ∧ (hndlS
      take8).pl.stash = [] ∧ opY.imm.toNat % 2 = 0 ∧ opY.d ≠ (0 : BitVec 5)) ∧
    (x26.rP x25.g.toNat ^^^ x25.gn = (1 : BitVec 1) ∧ x25.d ≠ (0 : BitVec 5) ∧ BitVec.toNat (x26.rS x25.a.toNat)
      % 16 = 15) ∧
    (takeS.rP x25.g.toNat ^^^ x25.gn = (1 : BitVec 1) ∧ x25.d ≠ (0 : BitVec 5) ∧ BitVec.toNat (takeS.rS
      x25.a.toNat) % 16 ≠ 15 ∧ takeS.takeOf takeS.pl.owner (BitVec.toNat (takeS.rS x25.a.toNat) % 16) = none) ∧
    (x27.rP x25.g.toNat ^^^ x25.gn = (1 : BitVec 1) ∧ x25.d ≠ (0 : BitVec 5) ∧ BitVec.toNat (x27.rS x25.a.toNat)
      % 16 ≠ 15 ∧ x27.takeOf x27.pl.owner (BitVec.toNat (x27.rS x25.a.toNat) % 16) = some take7 ∧ x27.take
      take7.tid = some take7 ∧ take7.shadow = false) ∧
    (x28.rP opY.g.toNat ^^^ opY.gn = (1 : BitVec 1) ∧ ((if opY.a = (0 : BitVec 5) then x28.clk + opY.imm.toNat
      else BitVec.toNat (x28.rS opY.a.toNat)) ≤ x28.clk)) ∧
    (scal.rP opY.g.toNat ^^^ opY.gn = (1 : BitVec 1) ∧ (scal.clk < if opY.a = (0 : BitVec 5) then scal.clk +
      opY.imm.toNat else BitVec.toNat (scal.rS opY.a.toNat))) ∧
    ((x30.plane 0).running = true ∧ (x30.plane 0).firing.wait = WaitKind.idle ∧ (x30.plane 0).firing.waitArg ≤
      x30.clk ∧ (x30.die (0 / 1024 : Nat)).fenced = false) ∧
    (haltS.rP opY.g.toNat ^^^ opY.gn = (1 : BitVec 1) ∧ haltS.take haltS.pl.firing.tid = some take7 ∧ take7.job
      = haltS.pl.job ∧ haltS.job haltS.pl.job = some jb ∧ haltS.pl.job ≠ 0 ∧ haltS.pl.firing.retireAtEnd = [] ∧
      haltS.pl.eotLeft = false) ∧
    (takeS.rP opY.g.toNat ^^^ opY.gn = (1 : BitVec 1) ∧ takeS.pl.firing.colour ≠ 15 ∧ takeS.take
      takeS.pl.firing.tid = some take7 ∧ (takeS.ctx take7.ctx).tid = take7.tid) :=
  by and_intros <;> decide +kernel

end Sys2Proof.Tests.Takes
end

