-- ==== Sys2Proof/Tests/Waits.lean ====
section
/-!
SUPPORT. For each hypothesis list of the window, walk, queue, counter and barrier statements, a concrete state and operands that meet all of it together:
one conjunct for each clause of a statement.
-/
namespace Sys2Proof.Tests.Waits
open Sys2Proof Sys2Proof.Machine Sys2Proof.Tests
set_option maxRecDepth 20000
set_option Elab.async false

def x1 := {opW with kreg := 6}
def x4 := {opW with a := 5}
def x5 := (countS {wn true with state := .triggered} 60)
def x6 := (countS {wn true with state := .disarmed} 60)
def dis0 : Disarm := { at_ := 0, pid := 0, tid := 7, fid := 3, reg := 6, armed := true }
def x7 := (countS {wn true with state := .disarmed, dis := some dis0} 60)
def a0S (l : List Barrier) : State := { actS (wa 0 0x200) with regions := [(2048, rgn)], dies := [(0, { actions := [wa 0 0x200], barriers := l })] }
def wa1 : WinAct := { wa 1 64 with arg1 := 128 }
def a1S : State := { actS wa1 with mem := [(72, 1), (80, 2), (65536, 7)], dies := [(0, { actions := [wa1], queues := [que] })] }
def x9 := (missS {ms wt with walking := false} 0)
def x10 := {ms wt with walking := false}
def x11 := {opQ with a := 5}
def x12 := {opQ with b := 1}
def x13 := {opX with a := 7}
def x14 := {opT with a := 7}
def x16 := {opT with kreg := 1026}
def x17 := {ctrS with planes := [(0, {plG with firing := {fir with wait := .twait}, regs := {plG.regs with s := [(4, 7)]}, prog := [(4, 0xA4040C4004000000)]})]}
def nobar : List Barrier := []
def x18 := {opT with imm := 0x103}
def x19 := {opT with imm := 1}
def x20 := (barS {br2 with n := 1})
def x21 := {br2 with n := 1}
def brO : Barrier := {br2 with arrived := [(4,1),(0,3)]}
def x22 := {barS brO with planes := [(0, {plG with firing := {fir with wait := .bar}})]}
def x23 := {opT with imm := 3}
def x24 := {gmS with clk := 1000}
def x25 := {gm {plG with firing := {fir with wait := .yield, waitArg := 3}} with clk := 768}
def x26 := {opT with a := 6}
def x27 := {opT with kreg := 1027}
def x28 := {opT with kreg := 1026, a := 6}

/-- The hypotheses of ArrivalWindows can be met together, clause by clause. -/
theorem witness_ArrivalWindows :
    (winS.rP x1.g.toNat ^^^ x1.gn = (1 : BitVec 1) ∧ winS.pl.acquired winS.pl.firing.fid = true ∧ x1.d ≠ (0 :
      BitVec 5) ∧ winS.ownsWindow winS.pl.job ((x1.imm.toNat % 8 * 64 + x1.kreg.toNat / 64) * 64 + x1.kreg.toNat
      % 64) = false) ∧
    (winS.rP opW.g.toNat ^^^ opW.gn = (1 : BitVec 1) ∧ winS.pl.acquired winS.pl.firing.fid = true ∧ opW.d ≠ (0 :
      BitVec 5) ∧ winS.ownsWindow winS.pl.job ((opW.imm.toNat % 8 * 64 + opW.kreg.toNat / 64) * 64 +
      opW.kreg.toNat % 64) = true) ∧
    (winS.rP opW.g.toNat ^^^ opW.gn = (1 : BitVec 1) ∧ winS.pl.acquired winS.pl.firing.fid = true ∧ opW.d ≠ (0 :
      BitVec 5) ∧ BitVec.toNat (winS.rS opW.a.toNat) % 64 = 0 ∧ BitVec.toNat (winS.rS opW.a.toNat) < 2 ^ 52 ∧
      winS.lineBusy (BitVec.toNat (winS.rS opW.a.toNat)) 64 = false ∧ winS.pl.stash = [] ∧ winS.shadowed = false
      ∧ winS.tlbFind (translatingSlice winS.cur) (winS.asid winS.pl.job) (BitVec.toNat (winS.rS opW.a.toNat))
      false = some pg ∧ (physOf pg.pte pg.level (BitVec.toNat (winS.rS opW.a.toNat))).key = 64 ∧ (¬(64 / 64 :
      Nat) ∈ winS.poison) ∧ (winS.die (physOf pg.pte pg.level (BitVec.toNat (winS.rS opW.a.toNat))).die).fenced
      = false ∧ winS.served ((physOf pg.pte pg.level (BitVec.toNat (winS.rS opW.a.toNat))).die * 64 + homeSlice
      (64 % 2 ^ 64)) winS.pl.job = true) ∧
    (winS.rP x4.g.toNat ^^^ x4.gn = (1 : BitVec 1) ∧ winS.pl.acquired winS.pl.firing.fid = true ∧ x4.d ≠ (0 :
      BitVec 5) ∧ (BitVec.toNat (winS.rS x4.a.toNat) % 64 ≠ 0 ∨ 2 ^ 52 ≤ BitVec.toNat (winS.rS x4.a.toNat))) ∧
    ((x5.die 0).counts[0]? = some (5, 60) ∧ (x5.die 0).fenced = false ∧ (x5.win 5).state = WinState.triggered) ∧
    ((x6.die 0).counts[0]? = some (5, 60) ∧ (x6.die 0).fenced = false ∧ (x6.win 5).state = WinState.disarmed ∧
      (∀ (d : Disarm), (x6.win 5).dis = some d → d.at_ ≠ x6.clk)) ∧
    ((x7.die 0).counts[0]? = some (5, 60) ∧ (x7.die 0).fenced = false ∧ (x7.win 5).state = WinState.disarmed ∧
      (x7.win 5).dis = some dis0 ∧ dis0.at_ = x7.clk ∧ notParked x7 dis0.pid dis0.tid dis0.fid ∧ 0 < (x7.win
      5).total) ∧
    (((countS (wn true) 50).die 0).counts[0]? = some (5, 50) ∧ ((countS (wn true) 50).die 0).fenced = false ∧
      ((countS (wn true) 50).win 5).state = WinState.armed ∧ ((countS (wn true) 50).win 5).count + 50 < ((countS
      (wn true) 50).win 5).total) ∧
    (((countS (wn false) 60).die 0).counts[0]? = some (5, 60) ∧ ((countS (wn false) 60).die 0).fenced = false ∧
      ((countS (wn false) 60).win 5).state = WinState.armed ∧ ((countS (wn false) 60).win 5).total ≤ ((countS
      (wn false) 60).win 5).count + 60 ∧ ((countS (wn false) 60).win 5).rearm = false) ∧
    (((countS (wn true) 150).die 0).counts[0]? = some (5, 150) ∧ ((countS (wn true) 150).die 0).fenced = false ∧
      ((countS (wn true) 150).win 5).state = WinState.armed ∧ 0 < ((countS (wn true) 150).win 5).total ∧
      ((countS (wn true) 150).win 5).total ≤ ((countS (wn true) 150).win 5).count + 150 ∧ ((countS (wn true)
      150).win 5).rearm = true) ∧
    (((actS (wa 2 (3 : Word))).die 0).actions[0]? = some (wa 2 (3 : Word)) ∧ ((actS (wa 2 (3 : Word))).die
      0).fenced = false ∧ (wa 2 (3 : Word)).action = 2) ∧
    (((actS (wa 3 (4 : Word))).die 0).actions[0]? = some (wa 3 (4 : Word)) ∧ ((actS (wa 3 (4 : Word))).die
      0).fenced = false ∧ (wa 3 (4 : Word)).action = 3) ∧
    (((a0S []).die 0).actions[0]? = some (wa 0 (512 : Word)) ∧ ((a0S []).die 0).fenced = false ∧ (wa 0 (512 :
      Word)).action = 0 ∧ (a0S []).region (regionKey (wa 0 (512 : Word)).job (BitVec.toNat (wa 0 (512 :
      Word)).arg0 / 2 ^ 12 % 8) (BitVec.toNat (wa 0 (512 : Word)).arg0 % 256)) = some rgn ∧ rgn.place =
      Placement.eligible ∧ ((a0S []).die (BitVec.toNat (wa 0 (512 : Word)).arg0 / 2 ^ 12 % 8)).barriers = [] ∧
      ([] : List Barrier).length < 256 ∧ (∀ (b : Barrier), b ∈ [] → ¬(b.region = regionKey (wa 0 (512 :
      Word)).job (BitVec.toNat (wa 0 (512 : Word)).arg0 / 2 ^ 12 % 8) (BitVec.toNat (wa 0 (512 : Word)).arg0 %
      256) ∧ b.colour = BitVec.toNat (wa 0 (512 : Word)).arg0 / 256 % 16))) ∧
    (((a0S [br2]).die 0).actions[0]? = some (wa 0 (512 : Word)) ∧ ((a0S [br2]).die 0).fenced = false ∧ (wa 0
      (512 : Word)).action = 0 ∧ (a0S [br2]).region (regionKey (wa 0 (512 : Word)).job (BitVec.toNat (wa 0 (512
      : Word)).arg0 / 2 ^ 12 % 8) (BitVec.toNat (wa 0 (512 : Word)).arg0 % 256)) = some rgn ∧ rgn.place =
      Placement.eligible ∧ ((a0S [br2]).die (BitVec.toNat (wa 0 (512 : Word)).arg0 / 2 ^ 12 % 8)).barriers =
      [br2] ∧ br2.region = regionKey (wa 0 (512 : Word)).job (BitVec.toNat (wa 0 (512 : Word)).arg0 / 2 ^ 12 %
      8) (BitVec.toNat (wa 0 (512 : Word)).arg0 % 256) ∧ br2.colour = BitVec.toNat (wa 0 (512 : Word)).arg0 /
      256 % 16) ∧
    ((a1S.die 0).actions[0]? = some wa1 ∧ (a1S.die 0).fenced = false ∧ wa1.action = 1 ∧ a1S.placeOf wa1.job
      (BitVec.toNat wa1.arg1) false = some (physOf (7 : Word) 3 128) ∧ a1S.queueOf wa1.job (BitVec.toNat
      wa1.arg0) = some (0, que) ∧ (¬(physOf (7 : Word) 3 128).key / 64 ∈ a1S.poison) ∧ (a1S.die (physOf (7 :
      Word) 3 128).die).fenced = false ∧ (physOf (7 : Word) 3 128).slice < 64 ∧ slateBad (BitVec.ofNat 512
      (a1S.num (physOf (7 : Word) 3 128).key 64)) = false ∧ (a1S.num (que.key + 8) 8 + 2 ^ 64 - a1S.num que.key
      8) % 2 ^ 64 ≠ 2 ^ (a1S.num (que.key + 16) 1 % 32) ∧ a1S.placeOf wa1.job (que.va + 64 + 64 * (a1S.num
      (que.key + 8) 8 % 2 ^ (a1S.num (que.key + 16) 1 % 32))) true = some (physOf (7 : Word) 3 192) ∧ (∀ (p :
      Nat × Plane), p ∈ a1S.planes → p.snd.stash = [])) :=
  by
  and_intros <;> first
    | decide +kernel
    | unfold notParked; decide +kernel

/-- The hypotheses of PageWalks can be met together, clause by clause. -/
theorem witness_PageWalks :
    ((x9.die 0).misses = [] ++ [x10] ∧ (∀ (x : Miss), x ∈ [] → x.walking = true ∨ x.faulted = true) ∧
      x10.walking = false ∧ x10.faulted = false ∧ (¬x10 ∈ []) ∧ (¬x10 ∈ []) ∧ ((List.filter (fun x => x.walking)
      (x9.die 0).misses).length < 64) ∧ (x9.die 0).fenced = false) ∧
    (((missS (ms wt) 65536).die 0).misses[0]? = some (ms wt) ∧ (ms wt).walking = true ∧ (ms wt).who = [wt] ∧
      (needsWrite wt.access = false ∨ BitVec.getLsbD (7 : Word) 2 = true) ∧ (missS (ms wt) 65536).walk (ms
      wt).job ((ms wt).page * 65536) false = WalkOut.leaf (7 : Word) 1 ∧ ((missS (ms wt) 65536).slice
      wt.slice).tlb = [] ∧ ((missS (ms wt) 65536).die 0).fenced = false) ∧
    (((missS (ms wt) 0).die 0).misses[0]? = some (ms wt) ∧ (ms wt).walking = true ∧ (ms wt).who = [{ who := Requester.firing 0 3, slice := 0, access := 0, va := 64 }] ∧ (missS (ms wt) 0).walk (ms wt).job ((ms wt).page * 65536) false = WalkOut.fault 1 1 ∧ (∀ (x : Miss), x ∈ ((missS (ms wt) 0).die 0).misses → x.faulted = false) ∧ ((missS (ms wt) 0).plane 0).running = true ∧ ((missS (ms wt) 0).plane 0).firing.fid = 3 ∧ (missS (ms wt) 0).take ((missS (ms wt) 0).plane 0).firing.tid = some take7 ∧ take7.tid = ((missS (ms wt) 0).plane 0).firing.tid ∧ ((missS (ms wt) 0).die 0).fenced = false) :=
  by and_intros <;> decide +kernel

/-- The hypotheses of QueuePushes can be met together, clause by clause. -/
theorem witness_QueuePushes :
    (gmS.rP x11.g.toNat ^^^ x11.gn = (1 : BitVec 1) ∧ gmS.pl.acquired gmS.pl.firing.fid = true ∧ x11.d ≠ (0 :
      BitVec 5) ∧ (BitVec.toNat (gmS.rS x11.a.toNat) % 64 ≠ 0 ∨ 2 ^ 52 ≤ BitVec.toNat (gmS.rS x11.a.toNat))) ∧
    (gmS.rP opQ.g.toNat ^^^ opQ.gn = (1 : BitVec 1) ∧ gmS.pl.acquired gmS.pl.firing.fid = true ∧ opQ.d ≠ (0 :
      BitVec 5) ∧ BitVec.toNat (gmS.rS opQ.a.toNat) % 64 = 0 ∧ BitVec.toNat (gmS.rS opQ.a.toNat) < 2 ^ 52 ∧
      gmS.lineBusy (BitVec.toNat (gmS.rS opQ.a.toNat)) 64 = false ∧ (opQ.ord = (2 : BitVec 2) → gmS.released =
      true) ∧ gmS.shadowed = false ∧ (∀ (p : Nat × Plane), p ∈ gmS.planes → p.snd.stash = []) ∧ gmS.pl.stash =
      [] ∧ (gmS.slice (translatingSlice gmS.cur)).tlb = [pg] ∧ pg.covers (gmS.asid gmS.pl.job) (BitVec.toNat
      (gmS.rS opQ.a.toNat)) = true ∧ BitVec.getLsbD pg.pte 2 = true ∧ (¬(physOf pg.pte pg.level (BitVec.toNat
      (gmS.rS opQ.a.toNat))).key / 64 ∈ gmS.poison) ∧ (gmS.die (physOf pg.pte pg.level (BitVec.toNat (gmS.rS
      opQ.a.toNat))).die).fenced = false ∧ (physOf pg.pte pg.level (BitVec.toNat (gmS.rS opQ.a.toNat))).slice <
      64 ∧ gmS.queueOf gmS.pl.job (BitVec.toNat (gmS.rS opQ.a.toNat)) = none) ∧
    ((queS (1 : Byte)).rP opQ.g.toNat ^^^ opQ.gn = (1 : BitVec 1) ∧ (queS (1 : Byte)).pl.acquired (queS (1 :
      Byte)).pl.firing.fid = true ∧ opQ.d ≠ (0 : BitVec 5) ∧ BitVec.toNat ((queS (1 : Byte)).rS opQ.a.toNat) %
      64 = 0 ∧ BitVec.toNat ((queS (1 : Byte)).rS opQ.a.toNat) < 2 ^ 52 ∧ (queS (1 : Byte)).lineBusy
      (BitVec.toNat ((queS (1 : Byte)).rS opQ.a.toNat)) 64 = false ∧ (opQ.ord = (2 : BitVec 2) → (queS (1 :
      Byte)).released = true) ∧ (queS (1 : Byte)).shadowed = false ∧ (∀ (p : Nat × Plane), p ∈ (queS (1 :
      Byte)).planes → p.snd.stash = []) ∧ (queS (1 : Byte)).pl.stash = [] ∧ ((queS (1 : Byte)).slice
      (translatingSlice (queS (1 : Byte)).cur)).tlb = [pg] ∧ pg.covers ((queS (1 : Byte)).asid (queS (1 :
      Byte)).pl.job) (BitVec.toNat ((queS (1 : Byte)).rS opQ.a.toNat)) = true ∧ BitVec.getLsbD pg.pte 2 = true ∧
      (¬(physOf pg.pte pg.level (BitVec.toNat ((queS (1 : Byte)).rS opQ.a.toNat))).key / 64 ∈ (queS (1 :
      Byte)).poison) ∧ ((queS (1 : Byte)).die (physOf pg.pte pg.level (BitVec.toNat ((queS (1 : Byte)).rS
      opQ.a.toNat))).die).fenced = false ∧ (physOf pg.pte pg.level (BitVec.toNat ((queS (1 : Byte)).rS
      opQ.a.toNat))).slice < 64 ∧ (queS (1 : Byte)).queueOf (queS (1 : Byte)).pl.job (BitVec.toNat ((queS (1 :
      Byte)).rS opQ.a.toNat)) = some (0, que) ∧ slateBad (BitVec.extractLsb' 0 512 ((queS (1 : Byte)).rV
      (opQ.b.toNat % 16))) = false ∧ (¬((queS (1 : Byte)).num (que.key + 8) 8 + 2 ^ 64 - (queS (1 : Byte)).num
      que.key 8) % 2 ^ 64 = 2 ^ ((queS (1 : Byte)).num (que.key + 16) 1 % 32)) ∧ pg.covers ((queS (1 :
      Byte)).asid (queS (1 : Byte)).pl.job) (que.va + 64 + 64 * ((queS (1 : Byte)).num (que.key + 8) 8 % 2 ^
      ((queS (1 : Byte)).num (que.key + 16) 1 % 32))) = true ∧ (queS (1 : Byte)).served ((physOf pg.pte pg.level
      (que.va + 64 + 64 * ((queS (1 : Byte)).num (que.key + 8) 8 % 2 ^ ((queS (1 : Byte)).num (que.key + 16) 1 %
      32)))).die * 64 + (physOf pg.pte pg.level (que.va + 64 + 64 * ((queS (1 : Byte)).num (que.key + 8) 8 % 2 ^
      ((queS (1 : Byte)).num (que.key + 16) 1 % 32)))).slice) que.job = true ∧ (queS (1 : Byte)).served que.home
      que.job = true) ∧
    ((queS (4 : Byte)).rP opQ.g.toNat ^^^ opQ.gn = (1 : BitVec 1) ∧ (queS (4 : Byte)).pl.acquired (queS (4 :
      Byte)).pl.firing.fid = true ∧ opQ.d ≠ (0 : BitVec 5) ∧ BitVec.toNat ((queS (4 : Byte)).rS opQ.a.toNat) %
      64 = 0 ∧ BitVec.toNat ((queS (4 : Byte)).rS opQ.a.toNat) < 2 ^ 52 ∧ (queS (4 : Byte)).lineBusy
      (BitVec.toNat ((queS (4 : Byte)).rS opQ.a.toNat)) 64 = false ∧ (opQ.ord = (2 : BitVec 2) → (queS (4 :
      Byte)).released = true) ∧ (queS (4 : Byte)).shadowed = false ∧ (∀ (p : Nat × Plane), p ∈ (queS (4 :
      Byte)).planes → p.snd.stash = []) ∧ (queS (4 : Byte)).pl.stash = [] ∧ ((queS (4 : Byte)).slice
      (translatingSlice (queS (4 : Byte)).cur)).tlb = [pg] ∧ pg.covers ((queS (4 : Byte)).asid (queS (4 :
      Byte)).pl.job) (BitVec.toNat ((queS (4 : Byte)).rS opQ.a.toNat)) = true ∧ BitVec.getLsbD pg.pte 2 = true ∧
      (¬(physOf pg.pte pg.level (BitVec.toNat ((queS (4 : Byte)).rS opQ.a.toNat))).key / 64 ∈ (queS (4 :
      Byte)).poison) ∧ ((queS (4 : Byte)).die (physOf pg.pte pg.level (BitVec.toNat ((queS (4 : Byte)).rS
      opQ.a.toNat))).die).fenced = false ∧ (physOf pg.pte pg.level (BitVec.toNat ((queS (4 : Byte)).rS
      opQ.a.toNat))).slice < 64 ∧ (queS (4 : Byte)).queueOf (queS (4 : Byte)).pl.job (BitVec.toNat ((queS (4 :
      Byte)).rS opQ.a.toNat)) = some (0, que) ∧ slateBad (BitVec.extractLsb' 0 512 ((queS (4 : Byte)).rV
      (opQ.b.toNat % 16))) = false ∧ ((queS (4 : Byte)).num (que.key + 8) 8 + 2 ^ 64 - (queS (4 : Byte)).num
      que.key 8) % 2 ^ 64 = 2 ^ ((queS (4 : Byte)).num (que.key + 16) 1 % 32)) ∧
    ((queS (1 : Byte)).rP x12.g.toNat ^^^ x12.gn = (1 : BitVec 1) ∧ (queS (1 : Byte)).pl.acquired (queS (1 :
      Byte)).pl.firing.fid = true ∧ x12.d ≠ (0 : BitVec 5) ∧ BitVec.toNat ((queS (1 : Byte)).rS x12.a.toNat) %
      64 = 0 ∧ BitVec.toNat ((queS (1 : Byte)).rS x12.a.toNat) < 2 ^ 52 ∧ (queS (1 : Byte)).lineBusy
      (BitVec.toNat ((queS (1 : Byte)).rS x12.a.toNat)) 64 = false ∧ (x12.ord = (2 : BitVec 2) → (queS (1 :
      Byte)).released = true) ∧ (queS (1 : Byte)).shadowed = false ∧ (∀ (p : Nat × Plane), p ∈ (queS (1 :
      Byte)).planes → p.snd.stash = []) ∧ (queS (1 : Byte)).pl.stash = [] ∧ ((queS (1 : Byte)).slice
      (translatingSlice (queS (1 : Byte)).cur)).tlb = [pg] ∧ pg.covers ((queS (1 : Byte)).asid (queS (1 :
      Byte)).pl.job) (BitVec.toNat ((queS (1 : Byte)).rS x12.a.toNat)) = true ∧ BitVec.getLsbD pg.pte 2 = true ∧
      (¬(physOf pg.pte pg.level (BitVec.toNat ((queS (1 : Byte)).rS x12.a.toNat))).key / 64 ∈ (queS (1 :
      Byte)).poison) ∧ ((queS (1 : Byte)).die (physOf pg.pte pg.level (BitVec.toNat ((queS (1 : Byte)).rS
      x12.a.toNat))).die).fenced = false ∧ (physOf pg.pte pg.level (BitVec.toNat ((queS (1 : Byte)).rS
      x12.a.toNat))).slice < 64 ∧ (queS (1 : Byte)).queueOf (queS (1 : Byte)).pl.job (BitVec.toNat ((queS (1 :
      Byte)).rS x12.a.toNat)) = some (0, que) ∧ slateBad (BitVec.extractLsb' 0 512 ((queS (1 : Byte)).rV
      (x12.b.toNat % 16))) = true) :=
  by and_intros <;> decide +kernel

/-- The hypotheses of Counters can be met together, clause by clause. -/
theorem witness_Counters :
    (ctrS.rP x13.g.toNat ^^^ x13.gn = (1 : BitVec 1) ∧ ctrS.pl.acquired ctrS.pl.firing.fid = true ∧
      ctrS.released = true ∧ ctrS.pl.stash = [] ∧ x13.d ≠ (0 : BitVec 5) ∧ ctrS.ownsDep ctrS.pl.job
      (BitVec.toNat (ctrS.rS x13.a.toNat) / 2 ^ 12 % 8) (BitVec.toNat (ctrS.rS x13.a.toNat) % 2 ^ 12) = false) ∧
    (ctrS.rP opX.g.toNat ^^^ opX.gn = (1 : BitVec 1) ∧ ctrS.pl.acquired ctrS.pl.firing.fid = true ∧
      ctrS.released = true ∧ ctrS.pl.stash = [] ∧ opX.d ≠ (0 : BitVec 5) ∧ ctrS.ownsDep ctrS.pl.job
      (BitVec.toNat (ctrS.rS opX.a.toNat) / 2 ^ 12 % 8) (BitVec.toNat (ctrS.rS opX.a.toNat) % 2 ^ 12) = true ∧
      ctrS.shadowed = false) ∧
    (ctrS.rP opT.g.toNat ^^^ opT.gn = (1 : BitVec 1) ∧ opT.d ≠ (0 : BitVec 5) ∧ opT.kreg.toNat / 2 ^ 10 = 0) ∧
    (ctrS.rP x14.g.toNat ^^^ x14.gn = (1 : BitVec 1) ∧ x14.d ≠ (0 : BitVec 5) ∧ x14.kreg.toNat / 2 ^ 10 = 0 ∧
      ctrS.ownsTimeline ctrS.pl.job (x14.imm.toNat % 8) (x14.kreg.toNat % 256) = true) ∧
    (ctrS.rP x16.g.toNat ^^^ x16.gn = (1 : BitVec 1) ∧ x16.d ≠ (0 : BitVec 5) ∧ x16.kreg.toNat / 2 ^ 10 = 1 ∧
      ctrS.shadowed = false) ∧
    ((x17.plane 0).running = true ∧ (x17.plane 0).firing.wait = WaitKind.twait ∧ x17.fetchStage = Instr.twait
      opT ∧ x17.timelineOf opT = some 9 ∧ BitVec.toNat ((x17.plane 0).regs.rS opT.a.toNat) ≤ 9 ∧ (x17.die (0 /
      1024 : Nat)).fenced = false) ∧
    (ctrS.rP x19.g.toNat ^^^ x19.gn = (1 : BitVec 1) ∧ x19.d ≠ (0 : BitVec 5) ∧ x19.kreg.toNat / 2 ^ 10 = 0 ∧
      (¬ctrS.ownsTimeline ctrS.pl.job (x19.imm.toNat % 8) (x19.kreg.toNat % 256) = true)) ∧
    (ctrS.rP opT.g.toNat ^^^ opT.gn = (1 : BitVec 1) ∧ opT.d ≠ (0 : BitVec 5) ∧ opT.kreg.toNat / 2 ^ 10 = 0 ∧
      ctrS.ownsTimeline ctrS.pl.job (opT.imm.toNat % 8) (opT.kreg.toNat % 256) = true ∧ BitVec.toNat (ctrS.rS
      opT.a.toNat) ≤ BitVec.toNat (look (0 : Word) (ctrS.die (opT.imm.toNat % 8)).timelines (opT.kreg.toNat %
      256))) ∧
    (ctrS.rP x26.g.toNat ^^^ x26.gn = (1 : BitVec 1) ∧ x26.d ≠ (0 : BitVec 5) ∧ x26.kreg.toNat / 2 ^ 10 = 0 ∧
      ctrS.ownsTimeline ctrS.pl.job (x26.imm.toNat % 8) (x26.kreg.toNat % 256) = true ∧ BitVec.toNat (look (0 :
      Word) (ctrS.die (x26.imm.toNat % 8)).timelines (x26.kreg.toNat % 256)) < BitVec.toNat (ctrS.rS
      x26.a.toNat)) ∧
    (ctrS.rP x27.g.toNat ^^^ x27.gn = (1 : BitVec 1) ∧ x27.d ≠ (0 : BitVec 5) ∧ x27.kreg.toNat / 2 ^ 10 = 1 ∧
      ctrS.shadowed = false ∧ (¬((ctrS.stream ((x27.imm.toNat % 8 * 64 + x27.kreg.toNat / 16 % 64) * 32 +
      x27.kreg.toNat % 16)).job = ctrS.pl.job ∧ (ctrS.stream ((x27.imm.toNat % 8 * 64 + x27.kreg.toNat / 16 %
      64) * 32 + x27.kreg.toNat % 16)).job ≠ 0))) ∧
    (ctrS.rP x16.g.toNat ^^^ x16.gn = (1 : BitVec 1) ∧ x16.d ≠ (0 : BitVec 5) ∧ x16.kreg.toNat / 2 ^ 10 = 1 ∧
      ctrS.shadowed = false ∧ ((ctrS.stream ((x16.imm.toNat % 8 * 64 + x16.kreg.toNat / 16 % 64) * 32 +
      x16.kreg.toNat % 16)).job = ctrS.pl.job ∧ (ctrS.stream ((x16.imm.toNat % 8 * 64 + x16.kreg.toNat / 16 %
      64) * 32 + x16.kreg.toNat % 16)).job ≠ 0)) ∧
    (ctrS.rP x16.g.toNat ^^^ x16.gn = (1 : BitVec 1) ∧ x16.d ≠ (0 : BitVec 5) ∧ x16.kreg.toNat / 2 ^ 10 = 1 ∧
      ctrS.shadowed = false ∧ ((ctrS.stream ((x16.imm.toNat % 8 * 64 + x16.kreg.toNat / 16 % 64) * 32 +
      x16.kreg.toNat % 16)).job = ctrS.pl.job ∧ (ctrS.stream ((x16.imm.toNat % 8 * 64 + x16.kreg.toNat / 16 %
      64) * 32 + x16.kreg.toNat % 16)).job ≠ 0) ∧ BitVec.toNat (ctrS.rS x16.a.toNat) ≤ BitVec.toNat (ctrS.stream
      ((x16.imm.toNat % 8 * 64 + x16.kreg.toNat / 16 % 64) * 32 + x16.kreg.toNat % 16)).timeline) ∧
    (ctrS.rP x28.g.toNat ^^^ x28.gn = (1 : BitVec 1) ∧ x28.d ≠ (0 : BitVec 5) ∧ x28.kreg.toNat / 2 ^ 10 = 1 ∧
      ctrS.shadowed = false ∧ ((ctrS.stream ((x28.imm.toNat % 8 * 64 + x28.kreg.toNat / 16 % 64) * 32 +
      x28.kreg.toNat % 16)).job = ctrS.pl.job ∧ (ctrS.stream ((x28.imm.toNat % 8 * 64 + x28.kreg.toNat / 16 %
      64) * 32 + x28.kreg.toNat % 16)).job ≠ 0) ∧ BitVec.toNat (ctrS.stream ((x28.imm.toNat % 8 * 64 +
      x28.kreg.toNat / 16 % 64) * 32 + x28.kreg.toNat % 16)).timeline < BitVec.toNat (ctrS.rS x28.a.toNat)) :=
  by and_intros <;> decide +kernel

/-- The hypotheses of BarriersAndYields can be met together, clause by clause. -/
theorem witness_BarriersAndYields :
    (gmS.rP x18.g.toNat ^^^ x18.gn = (1 : BitVec 1) ∧ gmS.released = true ∧ gmS.pl.stash = [] ∧ (gmS.die
      (gmS.cur / 1024)).barriers = nobar ∧ nobar.length < 256 ∧ (∀ (b : Barrier), b ∈ nobar → ¬(b.region =
      gmS.pl.owner ∧ b.colour = gmS.pl.firing.colour))) ∧
    ((barS br2).rP x19.g.toNat ^^^ x19.gn = (1 : BitVec 1) ∧ (barS br2).released = true ∧ (barS br2).pl.stash =
      [] ∧ ((barS br2).die ((barS br2).cur / 1024)).barriers = [br2] ∧ br2.region = (barS br2).pl.owner ∧
      br2.colour = (barS br2).pl.firing.colour ∧ br2.n ≠ 0 ∧ br2.arrived.length < br2.n) ∧
    (x20.rP x19.g.toNat ^^^ x19.gn = (1 : BitVec 1) ∧ x20.released = true ∧ x20.pl.stash = [] ∧ (x20.die
      (x20.cur / 1024)).barriers = [x21] ∧ x21.region = x20.pl.owner ∧ x21.colour = x20.pl.firing.colour ∧ x21.n
      ≠ 0 ∧ x21.n ≤ x21.arrived.length) ∧
    ((x22.die 0).barriers[0]? = some brO ∧ brO.n ≠ 0 ∧ brO.n ≤ brO.arrived.length ∧ (brO.win = true →
      brO.releases ≠ 0) ∧ (0, 3) ∈ brO.arrived ∧ (x22.plane 0).running = true ∧ (x22.plane 0).firing.fid = 3 ∧
      (x22.plane 0).firing.wait = WaitKind.bar) ∧
    (x24.rP x23.g.toNat ^^^ x23.gn = (1 : BitVec 1)) ∧
    ((x25.plane 0).running = true ∧ (x25.plane 0).firing.wait = WaitKind.yield ∧ (x25.plane 0).firing.waitArg ≤
      x25.clk / 256 ∧ (x25.die (0 / 1024 : Nat)).fenced = false) :=
  by and_intros <;> decide +kernel

end Sys2Proof.Tests.Waits
end

section
/-!
SUPPORT. What a register write followed by the next place does (R52), and the equation of every scalar arithmetic, logic,
shift, count, move and bit-field instruction (R85 to R91).
-/
namespace Sys2Proof.Machine

/-! ## A register write, then the next place (R52) -/

@[simp] theorem State.rS_goto (s : State) (pc n : Nat) : (s.goto pc).rS n = s.rS n := by
  simp [State.rS, State.goto, State.modFiring, State.pl]
@[simp] theorem State.rP_goto (s : State) (pc n : Nat) : (s.goto pc).rP n = s.rP n := by
  simp [State.rP, State.goto, State.modFiring, State.pl]

theorem adv_of_wrote {s t : State} (h : wrote s t) : t.adv = t.goto (s.pc + 1) := by
  obtain ⟨-, -, hpl, -⟩ := h
  unfold State.adv State.pc
  rw [hpl]

/-- Writing S[d] reaches no other register, whatever place the firing goes on at. -/
theorem ranOn_wS_goto (s : State) (n : Nat) (v : Word) (pc : Nat) :
    ranOn s ((s.wS n v).goto pc) pc [n] [] [] [] false := by
  refine ranOn_of_wrote _ _ (wrote_wS s n v) (fun _ => lfsr_wS ..) ?_ ?_ ?_ ?_ <;> intro m hm <;>
    simp only [State.rS, State.rP, State.rV, State.rM, regs_wS, Regs.rP_wS, Regs.rV_wS, Regs.rM_wS]
  rw [Regs.rS_wS, if_neg (by simp_all)]

theorem ranOn_wP_goto (s : State) (n : Nat) (v : BitVec 1) (pc : Nat) :
    ranOn s ((s.wP n v).goto pc) pc [] [n] [] [] false := by
  refine ranOn_of_wrote _ _ (wrote_wP s n v) (fun _ => lfsr_wP ..) ?_ ?_ ?_ ?_ <;> intro m hm <;>
    simp only [State.rS, State.rP, State.rV, State.rM, regs_wP, Regs.rS_wP, Regs.rV_wP, Regs.rM_wP]
  rw [Regs.rP_wP, if_neg (by simp_all)]

theorem rS_wS_self (s : State) (n : Nat) (v : Word) : (s.wS n v).rS n = if n = 0 then 0 else v := by
  rw [State.rS, regs_wS, Regs.rS_wS]
  by_cases hn : n = 0 <;> simp [hn]

/-- Writing S[d] and going on (R52): S0 ignores the write and reads zero. -/
theorem wS_adv_effect (s : State) (d : BitVec 5) (v : Word) :
    (s.wS d.toNat v).adv.rS d.toNat = (if d = 0 then 0 else v)
      ∧ ranOn s (s.wS d.toNat v).adv (s.pc + 1) [d.toNat] [] [] [] false := by
  rw [adv_of_wrote (wrote_wS s d.toNat v)]
  refine ⟨?_, ranOn_wS_goto ..⟩
  rw [State.rS_goto, rS_wS_self]
  simp [BitVec.toNat_eq]

theorem rP_wP_self (s : State) (n : Nat) (v : BitVec 1) : (s.wP n v).rP n = if n = 0 then 1 else v := by
  rw [State.rP, regs_wP, Regs.rP_wP]
  by_cases hn : n = 0 <;> simp [hn]

/-! ## What each scalar instruction is (R85 to R90) -/

section Arms
variable (o : OpA) (s : State)

theorem exec_add : exec (.add o) s = regForm o s fun a b => a + b := rfl
theorem exec_sub : exec (.sub o) s = regForm o s fun a b => a - b := rfl
theorem exec_mul : exec (.mul o) s = regForm o s fun a b => a * b := rfl
theorem exec_mulh : exec (.mulh o) s = signedForm o s fun a b => a * b / (2 ^ scalarWidth o.w : Int) := rfl
theorem exec_mulhu : exec (.mulhu o) s = unsignedForm o s fun a b => a * b / 2 ^ scalarWidth o.w := rfl
theorem exec_min : exec (.min o) s = signedForm o s fun a b => if a ≤ b then a else b := rfl
theorem exec_max : exec (.max o) s = signedForm o s fun a b => if a ≤ b then b else a := rfl
theorem exec_minu : exec (.minu o) s = unsignedForm o s fun a b => if a ≤ b then a else b := rfl
theorem exec_maxu : exec (.maxu o) s = unsignedForm o s fun a b => if a ≤ b then b else a := rfl
theorem exec_div : exec (.div o) s = signedForm o s quotS := rfl
theorem exec_rem : exec (.rem o) s = signedForm o s remS := rfl
theorem exec_divu : exec (.divu o) s =
    unsignedForm o s fun a b => if b == 0 then 2 ^ scalarWidth o.w - 1 else a / b := rfl
theorem exec_remu : exec (.remu o) s = unsignedForm o s fun a b => if b == 0 then a else a % b := rfl
theorem exec_andS : exec (.andS o) s = regForm o s fun a b => a &&& b := rfl
theorem exec_andn : exec (.andn o) s = regForm o s fun a b => a &&& ~~~b := rfl
theorem exec_orS : exec (.orS o) s = regForm o s fun a b => a ||| b := rfl
theorem exec_xorS : exec (.xorS o) s = regForm o s fun a b => a ^^^ b := rfl
theorem exec_mov : exec (.mov o) s = regForm o s fun a _ => a := rfl
theorem exec_addsh (sh : BitVec 2) : exec (.addsh sh o) s = regForm o s fun a b => a + (b <<< sh.toNat) := rfl
theorem exec_sel : exec (.sel o) s = .next (s.wS o.d.toNat
    (scalarOut (scalarIn (s.rS (if s.guard o.g o.gn then o.a else o.b).toNat) o.w) o.w)).adv := rfl
theorem exec_shl : exec (.shl o) s = shiftForm o s shlN := rfl
theorem exec_shr : exec (.shr o) s = shiftForm o s shrN := rfl
theorem exec_sar : exec (.sar o) s = shiftForm o s sarN := rfl
theorem exec_rotl : exec (.rotl o) s = shiftForm o s rotlN := rfl
theorem exec_clz : exec (.clz o) s = countForm o s clzN := rfl
theorem exec_ctz : exec (.ctz o) s = countForm o s ctzN := rfl
theorem exec_popc : exec (.popc o) s = countForm o s popN := rfl
end Arms

section ImmediateArms
variable (o : OpI) (s : State)

theorem exec_addi : exec (.addi o) s = immForm o s (signImm o.imm) fun a b => a + b := rfl
theorem exec_andi : exec (.andi o) s = immForm o s (zeroImm o.imm) fun a b => a &&& b := rfl
theorem exec_ori : exec (.ori o) s = immForm o s (zeroImm o.imm) fun a b => a ||| b := rfl
theorem exec_xori : exec (.xori o) s = immForm o s (zeroImm o.imm) fun a b => a ^^^ b := rfl
theorem exec_shli : exec (.shli o) s = shiftImmForm o s shlN := rfl
theorem exec_shri : exec (.shri o) s = shiftImmForm o s shrN := rfl
theorem exec_sari : exec (.sari o) s = shiftImmForm o s sarN := rfl
theorem exec_rotli : exec (.rotli o) s = shiftImmForm o s rotlN := rfl
theorem exec_lui : exec (.lui o) s =
    stageS o.g o.gn s o.d fun s => o.imm ++ ((s.rS o.a.toNat).setWidth 32 : BitVec 32) := rfl
theorem exec_bfx : exec (.bfx o) s = stageS o.g o.gn s o.d fun s =>
    BitVec.ofInt 64 (toInt (bfLen o) (fld (s.rS o.a.toNat) (bfPos o) (bfLen o))) := rfl
theorem exec_bfxu : exec (.bfxu o) s = stageS o.g o.gn s o.d fun s =>
    w64 (fld (s.rS o.a.toNat) (bfPos o) (bfLen o)) := rfl
theorem exec_bfi : exec (.bfi o) s = stageS o.g o.gn s o.d fun s =>
    (s.rS o.d.toNat &&& ~~~w64 ((2 ^ bfLen o - 1) * 2 ^ bfPos o))
      ||| ((s.rS o.a.toNat <<< bfPos o) &&& w64 ((2 ^ bfLen o - 1) * 2 ^ bfPos o)) := rfl
end ImmediateArms

end Sys2Proof.Machine
end

section
/-!
PROOFS. Scalar values by width, and register arithmetic, division, logic, immediates and moves (R58, R84 to R87, R90).
-/
namespace Sys2Proof.Machine

/-! ## Values by width (R58, R84) -/

/-! The statements' readI, readU, widthN and written are the model's signedIn, unsignedIn, scalarWidth and scalarOut. -/

theorem scalarWidth_eq (w : BitVec 2) : scalarWidth w = widthN w := by
  simp [scalarWidth, widthN]

theorem widthN_cases (w : BitVec 2) : (w = 0 ∧ widthN w = 64) ∨ (w ≠ 0 ∧ widthN w = 32) := by
  unfold widthN; split <;> simp_all

theorem ofInt_congr {n : Nat} {a b : Int} (h : a ≡ b [ZMOD 2 ^ n]) : BitVec.ofInt n a = BitVec.ofInt n b := by
  apply BitVec.eq_of_toNat_eq
  simp only [BitVec.toNat_ofInt]
  rw [show ((2 ^ n : Nat) : Int) = 2 ^ n by push_cast; rfl]
  exact congrArg Int.toNat h

theorem setWidth_ofInt (v : Int) : (BitVec.ofInt 64 v).setWidth 32 = BitVec.ofInt 32 v := by
  apply BitVec.eq_of_toNat_eq
  simp only [BitVec.toNat_setWidth, BitVec.toNat_ofInt]
  omega

theorem scalarOut_ofInt (w : BitVec 2) (v : Int) : scalarOut (BitVec.ofInt 64 v) w = written w v := by
  simp [scalarOut, scalarIn, written, setWidth_ofInt]

theorem scalarOut_w64 (w : BitVec 2) (n : Nat) : scalarOut (w64 n) w = written w (n : Int) := by
  rw [← scalarOut_ofInt, w64, BitVec.ofInt_natCast]

theorem scalarOut_eq_written (x : Word) (w : BitVec 2) : scalarOut x w = written w x.toInt := by
  rw [← scalarOut_ofInt, BitVec.ofInt_toInt]

/-- A write keeps the low N bits alone (R58). -/
theorem written_congr {w : BitVec 2} {a b : Int} (h : a ≡ b [ZMOD 2 ^ widthN w]) : written w a = written w b := by
  unfold written
  obtain ⟨hw, hn⟩ | ⟨hw, hn⟩ := widthN_cases w <;> rw [hn] at h
  · simp only [if_pos hw]; exact ofInt_congr h
  · simp only [if_neg hw, ofInt_congr h]

theorem scalarIn_narrow (x : Word) {w : BitVec 2} (hw : w ≠ 0) :
    scalarIn x w = if w = 1 then (x.setWidth 32).signExtend 64 else (x.setWidth 32).setWidth 64 := by
  simp only [scalarIn, beq_iff_eq, if_neg hw]

/-- ScalarIn leaves the low N bits as they are. -/
theorem getLsbD_scalarIn (x : Word) {w : BitVec 2} {i : Nat} (h : i < widthN w) :
    (scalarIn x w).getLsbD i = x.getLsbD i := by
  obtain ⟨rfl, -⟩ | ⟨hw, hn⟩ := widthN_cases w
  · rfl
  · have h' : i < 64 := by omega
    rw [hn] at h
    rw [scalarIn_narrow x hw]
    split <;> simp [BitVec.getElem_signExtend, h, h']

theorem scalarOut_congr {x y : Word} {w : BitVec 2} (h : ∀ i < widthN w, x.getLsbD i = y.getLsbD i) :
    scalarOut x w = scalarOut y w := by
  unfold scalarOut
  obtain ⟨rfl, -⟩ | ⟨hw, hn⟩ := widthN_cases w
  · exact BitVec.eq_of_getLsbD_eq h
  · rw [hn] at h
    have : x.setWidth 32 = y.setWidth 32 := BitVec.eq_of_getLsbD_eq fun i hi => by simp [hi, h i hi]
    rw [scalarIn_narrow x hw, scalarIn_narrow y hw, this]

theorem toInt_scalarIn (x : Word) (w : BitVec 2) : (scalarIn x w).toInt ≡ readI w x [ZMOD 2 ^ widthN w] := by
  obtain ⟨rfl, -⟩ | ⟨hw, hn⟩ := widthN_cases w
  · rfl
  · rw [scalarIn_narrow x hw, readI, if_neg hw, hn]
    split
    · rw [BitVec.toInt_signExtend_of_le (by omega)]
    · simp only [BitVec.toInt_eq_toNat_cond, BitVec.toNat_setWidth, Int.ModEq]
      omega

theorem scalarOut_scalarIn (x : Word) (w : BitVec 2) : scalarOut (scalarIn x w) w = written w (readI w x) := by
  rw [scalarOut_eq_written, written_congr (toInt_scalarIn x w)]

theorem unsignedIn_eq (x : Word) (w : BitVec 2) : unsignedIn x w = readU w x := by
  rw [unsignedIn, readU, scalarWidth_eq]
  obtain ⟨rfl, -⟩ | ⟨hw, hn⟩ := widthN_cases w
  · exact Nat.mod_eq_of_lt x.isLt
  · rw [if_neg hw, hn]

theorem signedIn_eq (x : Word) (w : BitVec 2) : signedIn x w = readI w x := by
  simp [signedIn, readI]

/-! ## Register forms (R85 to R87) -/

theorem bmod_modEq (v : Int) (w : BitVec 2) : v.bmod (2 ^ 64) ≡ v [ZMOD 2 ^ widthN w] := by
  have h : v.bmod (2 ^ 64) ≡ v [ZMOD 2 ^ 64] := Int.bmod_emod
  refine h.of_dvd (pow_dvd_pow 2 ?_)
  obtain ⟨-, hn⟩ | ⟨-, hn⟩ := widthN_cases w <;> omega

section Forms
variable {i : Instr} {o : OpA} {s : State} {v : Int}

theorem writesS_regForm {f : Word → Word → Word} (h : exec i s = regForm o s f)
    (hv : (f (scalarIn (s.rS o.a.toNat) o.w) (scalarIn (s.rS o.b.toNat) o.w)).toInt ≡ v [ZMOD 2 ^ widthN o.w]) :
    writesS i s o.g o.gn o.d (written o.w v) := by
  rw [← written_congr hv, ← scalarOut_eq_written]
  exact writesS_stageS h

theorem writesS_signedForm {f : Int → Int → Int} (h : exec i s = signedForm o s f)
    (hv : f (readI o.w (s.rS o.a.toNat)) (readI o.w (s.rS o.b.toNat)) ≡ v [ZMOD 2 ^ widthN o.w]) :
    writesS i s o.g o.gn o.d (written o.w v) := by
  rw [← written_congr hv, ← scalarOut_ofInt, ← signedIn_eq, ← signedIn_eq]
  exact writesS_stageS h

theorem writesS_unsignedForm {f : Nat → Nat → Nat} {n : Nat} (h : exec i s = unsignedForm o s f)
    (hn : f (readU o.w (s.rS o.a.toNat)) (readU o.w (s.rS o.b.toNat)) = n) :
    writesS i s o.g o.gn o.d (written o.w n) := by
  rw [← hn, ← scalarOut_w64, ← unsignedIn_eq, ← unsignedIn_eq]
  exact writesS_stageS h
end Forms

/-- R86's three cases of a quotient, up to the bits that a write drops: all ones and -1 agree, and the overflow wraps. -/
theorem quotS_modEq (n : Nat) (hn : 0 < n) (a b : Int) :
    quotS a b ≡ (if b = 0 then 2 ^ n - 1 else if a = -(2 ^ (n - 1)) ∧ b = -1 then -(2 ^ (n - 1)) else a.tdiv b)
      [ZMOD 2 ^ n] := by
  unfold quotS
  by_cases hb : b = 0
  · simp [hb, Int.modEq_iff_dvd]
  by_cases ho : a = -(2 ^ (n - 1)) ∧ b = -1
  · obtain ⟨rfl, rfl⟩ := ho
    obtain ⟨m, rfl⟩ : ∃ m, n = m + 1 := ⟨n - 1, by omega⟩
    simp [Int.modEq_iff_dvd]
    exact ⟨-1, by ring⟩
  · simp [hb, ho]

/-- R86's three cases of a remainder; the overflow case leaves none, so it needs no case of its own in the model. -/
theorem remS_eq (n : Nat) (a b : Int) :
    remS a b = (if b = 0 then a else if a = -(2 ^ (n - 1)) ∧ b = -1 then 0 else a - a.tdiv b * b) := by
  unfold remS
  by_cases hb : b = 0
  · simp [hb]
  by_cases ho : a = -(2 ^ (n - 1)) ∧ b = -1
  · simp [ho]
  · simp [hb, ho, Int.tmod_def, mul_comm]

theorem widthN_pos (w : BitVec 2) : 0 < widthN w := by
  obtain ⟨-, hn⟩ | ⟨-, hn⟩ := widthN_cases w <;> omega

/-- Settles O8: each instruction's exact result and the one the model computes agree modulo 2^N, and a write by W keeps
no more than that. -/
theorem registerArithmeticAndDivision : Obligations.RegisterArithmeticAndDivision := by
  refine ⟨fun o s => ?arithmetic, fun o s => ?division⟩
  case arithmetic =>
    intro a b ua ub
    have ha := toInt_scalarIn (s.rS o.a.toNat) o.w
    have hb := toInt_scalarIn (s.rS o.b.toNat) o.w
    refine ⟨?add, ?sub, ?mul, ?mulh, ?mulhu, ?min, ?max, ?minu, ?maxu⟩
    case add => exact writesS_regForm (exec_add o s) (by rw [BitVec.toInt_add]; exact (bmod_modEq ..).trans (ha.add hb))
    case sub => exact writesS_regForm (exec_sub o s) (by rw [BitVec.toInt_sub]; exact (bmod_modEq ..).trans (ha.sub hb))
    case mul => exact writesS_regForm (exec_mul o s) (by rw [BitVec.toInt_mul]; exact (bmod_modEq ..).trans (ha.mul hb))
    case mulh =>
      refine writesS_signedForm (exec_mulh o s) ?_
      rw [scalarWidth_eq, Int.fdiv_eq_ediv_of_nonneg _ (by positivity)]
    case mulhu => exact writesS_unsignedForm (exec_mulhu o s) (by rw [scalarWidth_eq])
    case min => exact writesS_signedForm (exec_min o s) (by rw [← min_def])
    case max => exact writesS_signedForm (exec_max o s) (by rw [← max_def])
    case minu => exact writesS_unsignedForm (exec_minu o s) (min_def ..).symm
    case maxu => exact writesS_unsignedForm (exec_maxu o s) (max_def ..).symm
  case division =>
    intro n a b ua ub overflows q r
    refine ⟨?div, ?rem, ?divu, ?remu⟩
    case div => exact writesS_signedForm (exec_div o s) (quotS_modEq n (widthN_pos o.w) a b)
    case rem => exact writesS_signedForm (exec_rem o s) (by rw [remS_eq n])
    case divu =>
      refine writesS_unsignedForm (exec_divu o s) ?_
      simp only [scalarWidth_eq, beq_iff_eq]
      rfl
    case remu =>
      refine writesS_unsignedForm (exec_remu o s) ?_
      simp only [beq_iff_eq, Nat.mod_eq_sub_div_mul]
      rfl

/-! ## Logic, immediates, moves (R87, R90) -/

section Logic
variable {i : Instr} {s : State}

/-- A bitwise form may read its operands whole: the bits above N do not reach the bits below (R87). -/
theorem writesS_regForm_bits {o : OpA} {f : Word → Word → Word} (h : exec i s = regForm o s f)
    (hf : ∀ x y x' y' : Word, ∀ j, x.getLsbD j = x'.getLsbD j → y.getLsbD j = y'.getLsbD j →
      (f x y).getLsbD j = (f x' y').getLsbD j) :
    writesS i s o.g o.gn o.d (written o.w (f (s.rS o.a.toNat) (s.rS o.b.toNat)).toInt) := by
  rw [← scalarOut_eq_written,
    ← scalarOut_congr fun j hj => hf _ _ _ _ j (getLsbD_scalarIn _ hj) (getLsbD_scalarIn _ hj)]
  exact writesS_stageS h

theorem writesS_immForm {o : OpI} {z : Word} {f : Word → Word → Word} {v : Int} (h : exec i s = immForm o s z f)
    (hv : (f (scalarIn (s.rS o.a.toNat) o.w) z).toInt ≡ v [ZMOD 2 ^ widthN o.w]) :
    writesS i s o.g o.gn o.d (written o.w v) := by
  rw [← written_congr hv, ← scalarOut_eq_written]
  exact writesS_stageS h

theorem writesS_immForm_bits {o : OpI} {z : Word} {f : Word → Word → Word} (h : exec i s = immForm o s z f)
    (hf : ∀ x x' y : Word, ∀ j, x.getLsbD j = x'.getLsbD j → (f x y).getLsbD j = (f x' y).getLsbD j) :
    writesS i s o.g o.gn o.d (written o.w (f (s.rS o.a.toNat) z).toInt) := by
  rw [← scalarOut_eq_written, ← scalarOut_congr fun j hj => hf _ _ _ j (getLsbD_scalarIn _ hj)]
  exact writesS_stageS h
end Logic

theorem toInt_signImm (i : BitVec 32) : (signImm i).toInt = i.toInt := BitVec.toInt_signExtend_of_le (by omega)

theorem zeroImm_eq (i : BitVec 32) : zeroImm i = BitVec.ofNat 64 i.toNat := by
  apply BitVec.eq_of_toNat_eq
  simp [zeroImm]

theorem toInt_shiftLeft_modEq (x : Word) (k : Nat) (w : BitVec 2) :
    (x <<< k).toInt ≡ x.toInt * 2 ^ k [ZMOD 2 ^ widthN w] := by
  have : x <<< k = BitVec.ofInt 64 (x.toInt * (2 ^ k : Nat)) := by
    rw [BitVec.ofInt_mul, BitVec.ofInt_toInt, BitVec.ofInt_natCast]
    exact BitVec.eq_of_toNat_eq (by simp [Nat.shiftLeft_eq])
  rw [this, BitVec.toInt_ofInt]
  exact_mod_cast bmod_modEq ..

theorem imm_append_setWidth (i : BitVec 32) (x : Word) :
    i ++ (x.setWidth 32 : BitVec 32) = BitVec.ofNat 64 (i.toNat * 2 ^ 32 + x.toNat % 2 ^ 32) := by
  apply BitVec.eq_of_toNat_eq
  have hx : x.toNat % 2 ^ 32 < 2 ^ 32 := Nat.mod_lt _ (by norm_num)
  have hi := i.isLt
  rw [BitVec.toNat_append, BitVec.toNat_setWidth, ← Nat.shiftLeft_add_eq_or_of_lt hx, Nat.shiftLeft_eq,
    BitVec.toNat_ofNat]
  omega

/-- Settles O9: additions agree modulo 2^N, bitwise forms bit by bit below N. -/
theorem logicImmediatesAndMoves : Obligations.LogicImmediatesAndMoves := by
  refine ⟨⟨fun o s => ?registers, fun o s => ?immediates⟩, fun o s => ?moves, fun o s => ?lui⟩
  case registers =>
    refine ⟨writesS_regForm_bits (f := (· &&& ·)) (exec_andS o s) ?_,
      writesS_regForm_bits (f := (· &&& ~~~·)) (exec_andn o s) ?_,
      writesS_regForm_bits (f := (· ||| ·)) (exec_orS o s) ?_,
      writesS_regForm_bits (f := (· ^^^ ·)) (exec_xorS o s) ?_⟩ <;>
    · intro x y x' y' j hx hy
      simp [hx, hy]
  case immediates =>
    simp only [← zeroImm_eq]
    refine ⟨writesS_immForm (exec_addi o s) ?_, writesS_immForm_bits (f := (· &&& ·)) (exec_andi o s) ?_,
      writesS_immForm_bits (f := (· ||| ·)) (exec_ori o s) ?_, writesS_immForm_bits (f := (· ^^^ ·)) (exec_xori o s) ?_⟩
    · rw [BitVec.toInt_add, toInt_signImm]
      exact (bmod_modEq ..).trans ((toInt_scalarIn ..).add_right _)
    all_goals
      intro x x' y j hx
      simp [hx]
  case moves =>
    have ha := toInt_scalarIn (s.rS o.a.toNat) o.w
    have hb := toInt_scalarIn (s.rS o.b.toNat) o.w
    refine ⟨writesS_regForm (exec_mov o s) ha, fun sh => writesS_regForm (exec_addsh o s sh) ?_, ?sel⟩
    · rw [BitVec.toInt_add]
      exact (bmod_modEq ..).trans (ha.add ((toInt_shiftLeft_modEq ..).trans (hb.mul_right _)))
    case sel =>
      refine ⟨_, exec_sel o s, ?_⟩
      have hv : scalarOut (scalarIn (s.rS (if s.guard o.g o.gn then o.a else o.b).toNat) o.w) o.w = written o.w
          (if s.rP o.g.toNat ^^^ o.gn = 1 then readI o.w (s.rS o.a.toNat) else readI o.w (s.rS o.b.toNat)) := by
        simp only [scalarOut_scalarIn, State.guard, beq_iff_eq]
        split <;> rfl
      rw [← hv]
      exact wS_adv_effect ..
  case lui =>
    rw [← imm_append_setWidth]
    exact writesS_stageS (exec_lui o s)

end Sys2Proof.Machine
end

section
/-!
PROOFS. Shifts, rotates, bit counts and bit fields (R88, R89, R91).
-/
namespace Sys2Proof.Machine

/-! ## Shifts and rotates (R88) -/

section Shifts
variable {i : Instr} {s : State} {v : Int}

theorem writesS_shiftForm {o : OpA} {f : Nat → Nat → Nat → Nat} (h : exec i s = shiftForm o s f)
    (hv : f (widthN o.w) (readU o.w (s.rS o.a.toNat)) ((s.rS o.b.toNat).toNat % widthN o.w) ≡ v [ZMOD 2 ^ widthN o.w]) :
    writesS i s o.g o.gn o.d (written o.w v) := by
  rw [← written_congr hv, ← scalarOut_w64, ← unsignedIn_eq, ← scalarWidth_eq]
  exact writesS_stageS h

theorem writesS_shiftImmForm {o : OpI} {f : Nat → Nat → Nat → Nat} (h : exec i s = shiftImmForm o s f)
    (hv : f (widthN o.w) (readU o.w (s.rS o.a.toNat)) o.imm.toNat ≡ v [ZMOD 2 ^ widthN o.w]) :
    writesS i s o.g o.gn o.d (written o.w v) := by
  rw [← written_congr hv, ← scalarOut_w64, ← unsignedIn_eq, ← scalarWidth_eq]
  exact writesS_stageS h
end Shifts

theorem readU_lt (w : BitVec 2) (x : Word) : readU w x < 2 ^ widthN w := by
  rw [← unsignedIn_eq, unsignedIn, scalarWidth_eq]
  exact Nat.mod_lt _ (by positivity)

/-- The model's signed reading of n bits is that of a bit vector of n bits. -/
theorem toInt_eq_toInt_ofNat (n x : Nat) : toInt n x = (BitVec.ofNat n x).toInt := by
  rw [BitVec.toInt_eq_toNat_cond, BitVec.toNat_ofNat, toInt]
  push_cast
  split <;> split <;> omega

theorem toInt_readU (w : BitVec 2) (x : Word) : toInt (widthN w) (readU w x) = readI w x := by
  rw [toInt_eq_toInt_ofNat]
  obtain ⟨rfl, -⟩ | ⟨hw, hn⟩ := widthN_cases w
  · exact congrArg BitVec.toInt (BitVec.ofNat_toNat ..)
  · rw [hn, readU, readI, if_neg hw, if_neg hw]
    congr 1
    exact BitVec.eq_of_toNat_eq (by simp)

theorem ofInt_modEq (n : Nat) (v : Int) : (ofInt n v : Int) ≡ v [ZMOD 2 ^ n] := by
  rw [ofInt, Int.toNat_of_nonneg (Int.emod_nonneg _ (by positivity))]
  exact Int.mod_modEq ..

theorem shlN_modEq (n x k : Nat) : (shlN n x k : Int) ≡ (x * 2 ^ k : Nat) [ZMOD 2 ^ n] := by
  rw [shlN]
  push_cast
  exact Int.mod_modEq ..

theorem sarN_modEq (w : BitVec 2) (x : Word) (k : Nat) :
    (sarN (widthN w) (readU w x) k : Int) ≡ Int.fdiv (readI w x) (2 ^ k) [ZMOD 2 ^ widthN w] := by
  rw [sarN, toInt_readU, Int.fdiv_eq_ediv_of_nonneg _ (by positivity)]
  exact ofInt_modEq ..

/-- The two parts of a rotate have no bit in common, so their sum is their OR. -/
theorem rotlN_eq {n x k : Nat} (hx : x < 2 ^ n) (hk : k < n) : rotlN n x k = (x <<< k ||| x >>> (n - k)) % 2 ^ n := by
  have hlow : x >>> (n - k) < 2 ^ k := by
    rw [Nat.shiftRight_eq_div_pow, Nat.div_lt_iff_lt_mul (by positivity), ← pow_add]
    rwa [show k + (n - k) = n by omega]
  rw [← Nat.shiftLeft_add_eq_or_of_lt hlow, Nat.shiftLeft_eq, Nat.shiftRight_eq_div_pow, rotlN]

/-! ## Bit counts (R89) -/

theorem writesS_countForm {i : Instr} {o : OpA} {s : State} {f : Nat → Nat → Nat} (h : exec i s = countForm o s f) :
    writesS i s o.g o.gn o.d (BitVec.ofNat 64 (f (widthN o.w) (readU o.w (s.rS o.a.toNat)))) := by
  rw [← unsignedIn_eq, ← scalarWidth_eq]
  exact writesS_stageS h

/-- The highest 1 of x stands at bit N - 1 - CLZ. -/
theorem clzN_spec {n x : Nat} (hx : x < 2 ^ n) :
    clzN n x ≤ n ∧ if x = 0 then clzN n x = n
      else clzN n x < n ∧ x.testBit (n - 1 - clzN n x) = true ∧ ∀ j, n - 1 - clzN n x < j → x.testBit j = false := by
  by_cases h0 : x = 0
  · simp [clzN, h0]
  · have hlog : x.log2 < n := (Nat.log2_lt h0).mpr hx
    have hk : n - 1 - clzN n x = x.log2 := by simp only [clzN, beq_iff_eq, if_neg h0]; omega
    have hc : clzN n x < n := by simp only [clzN, beq_iff_eq, if_neg h0]; omega
    rw [if_neg h0, hk]
    refine ⟨hc.le, hc, Nat.testBit_log2 h0, fun j hj => ?_⟩
    exact Nat.testBit_lt_two_pow ((Nat.log2_lt h0).mp hj)

/-- The lowest 1 of x stands at bit CTZ. -/
theorem ctzN_spec (n : Nat) : ∀ x, x < 2 ^ n →
    ctzN n x ≤ n ∧ if x = 0 then ctzN n x = n
      else ctzN n x < n ∧ x.testBit (ctzN n x) = true ∧ ∀ j, j < ctzN n x → x.testBit j = false := by
  induction n with
  | zero => intro x hx; simp [ctzN, show x = 0 by omega]
  | succ n ih =>
    intro x hx
    obtain ⟨hle, hspec⟩ := ih (x / 2) (by omega)
    by_cases hodd : x % 2 = 1
    · have h0 : x ≠ 0 := by omega
      simp [ctzN, hodd, h0]
    · have hc : ctzN (n + 1) x = 1 + ctzN n (x / 2) := by simp [ctzN, hodd]
      rw [hc]
      by_cases h0 : x = 0
      · have hz : ctzN n (x / 2) = n := by simpa [h0] using hspec
        rw [if_pos h0, hz]
        omega
      · rw [if_neg (by omega)] at hspec
        obtain ⟨hlt, hbit, hlow⟩ := hspec
        rw [if_neg h0, add_comm 1, Nat.testBit_succ]
        refine ⟨by omega, by omega, hbit, fun j hj => ?_⟩
        cases j with
        | zero => simp [Nat.testBit_zero, hodd]
        | succ j => rw [Nat.testBit_succ]; exact hlow j (by omega)

theorem popN_eq (n : Nat) : ∀ x, popN n x = ((List.range n).filter fun j => x.testBit j).length := by
  induction n with
  | zero => intro x; rfl
  | succ n ih =>
    intro x
    rw [popN, ih, List.range_succ_eq_map, List.filter_cons, List.filter_map]
    have hrest : (fun j => x.testBit j) ∘ Nat.succ = fun j => (x / 2).testBit j := by
      funext j; exact Nat.testBit_succ ..
    rw [hrest, Nat.testBit_zero]
    by_cases hodd : x % 2 = 1
    · simp [hodd]; omega
    · simp [hodd]; omega

/-! ## Bit fields (R91) -/

theorem fld_eq_extract (x : Word) (p l : Nat) : fld x p l = (x.extractLsb' p l).toNat := by
  rw [fld, BitVec.extractLsb'_toNat, Nat.shiftRight_eq_div_pow]

theorem getLsbD_signField {x : Word} {p l j : Nat} (hl : 0 < l) (hj : j < 64) :
    (BitVec.ofInt 64 (toInt l (fld x p l))).getLsbD j = x.getLsbD (p + min j (l - 1)) := by
  rw [toInt_eq_toInt_ofNat, fld_eq_extract, BitVec.ofNat_toNat, BitVec.setWidth_eq]
  show ((x.extractLsb' p l).signExtend 64).getLsbD j = _
  rw [BitVec.getLsbD_signExtend]
  by_cases h : j < l
  · simp [hj, h, show min j (l - 1) = j by omega]
  · simp [hj, h, show min j (l - 1) = l - 1 by omega, BitVec.msb_eq_getLsbD_last, hl]

theorem getLsbD_zeroField {x : Word} {p l j : Nat} (hl : p + l ≤ 64) :
    (w64 (fld x p l)).getLsbD j = (decide (j < l) && x.getLsbD (p + j)) := by
  rw [fld_eq_extract, w64, BitVec.getLsbD_ofNat]
  by_cases h : j < l
  · rw [BitVec.testBit_toNat]
    simp [h, show j < 64 by omega]
  · simp [h, BitVec.testBit_toNat]

theorem getLsbD_fieldMask {p l j : Nat} (hl : p + l ≤ 64) :
    (w64 ((2 ^ l - 1) * 2 ^ p)).getLsbD j = decide (p ≤ j ∧ j < p + l) := by
  rw [w64, BitVec.getLsbD_ofNat, Nat.testBit_mul_two_pow, Nat.testBit_two_pow_sub_one]
  by_cases h : p ≤ j ∧ j < p + l
  · simp [h, show j < 64 by omega, show j - p < l by omega]
  · simp [h]; omega

theorem getLsbD_insertField {d x : Word} {p l j : Nat} (hl : p + l ≤ 64) :
    ((d &&& ~~~w64 ((2 ^ l - 1) * 2 ^ p)) ||| ((x <<< p) &&& w64 ((2 ^ l - 1) * 2 ^ p))).getLsbD j =
      (if p ≤ j ∧ j < p + l then x.getLsbD (j - p) else d.getLsbD j) := by
  simp only [BitVec.getLsbD_or, BitVec.getLsbD_and, BitVec.getLsbD_not, BitVec.getLsbD_shiftLeft, getLsbD_fieldMask hl]
  by_cases h : p ≤ j ∧ j < p + l
  · simp [h, show j < 64 by omega]
  · by_cases hj : j < 64
    · simp [h, hj]
    · simp [h, hj, BitVec.getLsbD_of_ge d j (by omega)]

/-! ## Immediates that do not decode (R88, R91) -/

/-- Whatever decodes is well formed (R50). -/
theorem wf_of_decodeStage {w : Word} {i : Instr} (h : decodeStage w = .ok i) : i.wf = true := by
  unfold decodeStage at h
  split at h
  · cases h
  · split at h
    · next hwf => cases h; exact (Bool.and_eq_true_iff.mp hwf).1
    · cases h

theorem shiftOk_iff (o : OpI) : o.shiftOk = true ↔ o.imm.toNat < widthN o.w := by
  simp [OpI.shiftOk, widthN]

/-- Settles O10: shifts agree modulo 2^N, counts and fields are read bit by bit, and a word with an immediate out of range is
not well formed. -/
theorem shiftsCountsAndBitFields : Obligations.ShiftsCountsAndBitFields := by
  refine ⟨⟨fun o s => ?byRegister, fun o s hk => ?byImmediate⟩, fun o s => ?counts, fun o s => ?fields,
    fun o w hk => ?shifts, fun o w hl => ?fieldsPast⟩
  case byRegister =>
    intro n k x
    exact ⟨writesS_shiftForm (exec_shl o s) (shlN_modEq ..), writesS_shiftForm (exec_shr o s) rfl,
      writesS_shiftForm (exec_sar o s) (sarN_modEq ..),
      writesS_shiftForm (exec_rotl o s) (by rw [rotlN_eq (readU_lt ..) (Nat.mod_lt _ (widthN_pos _))])⟩
  case byImmediate =>
    intro n k x
    exact ⟨writesS_shiftImmForm (exec_shli o s) (shlN_modEq ..), writesS_shiftImmForm (exec_shri o s) rfl,
      writesS_shiftImmForm (exec_sari o s) (sarN_modEq ..),
      writesS_shiftImmForm (exec_rotli o s) (by rw [rotlN_eq (readU_lt ..) hk])⟩
  case counts =>
    intro n x
    refine ⟨⟨clzN n x, writesS_countForm (exec_clz o s), clzN_spec (readU_lt ..)⟩,
      ⟨ctzN n x, writesS_countForm (exec_ctz o s), ctzN_spec _ _ (readU_lt ..)⟩, ?_⟩
    rw [← popN_eq]
    exact writesS_countForm (exec_popc o s)
  case fields =>
    intro p l a d hl
    have hp : bfPos o = p := by simp [bfPos, fld, p]
    have hlen : bfLen o = l := by simp [bfLen, fld, l]
    refine ⟨⟨_, writesS_stageS (exec_bfx o s), fun j hj => ?_⟩, ⟨_, writesS_stageS (exec_bfxu o s), fun j => ?_⟩,
      ⟨_, writesS_stageS (exec_bfi o s), fun j => ?_⟩⟩ <;> rw [hp, hlen]
    · exact getLsbD_signField (Nat.succ_pos _) hj
    · exact getLsbD_zeroField hl
    · exact getLsbD_insertField hl
  case shifts =>
    have hbad : o.shiftOk = false := Bool.eq_false_iff.mpr fun h => absurd ((shiftOk_iff o).mp h) (by omega)
    intro i hi hdec
    have hwf := wf_of_decodeStage hdec
    simp only [List.mem_cons, List.not_mem_nil, or_false] at hi
    obtain rfl | rfl | rfl | rfl := hi <;> simp [Instr.wf, hbad] at hwf
  case fieldsPast =>
    have hbad : o.bitFieldOk = false := by simp [OpI.bitFieldOk, fld]; omega
    intro i hi hdec
    have hwf := wf_of_decodeStage hdec
    simp only [List.mem_cons, List.not_mem_nil, or_false] at hi
    obtain rfl | rfl | rfl := hi <;> simp [Instr.wf, hbad] at hwf

end Sys2Proof.Machine
end

section
/-!
PROOFS. Compares and predicate logic (R92, R93).
-/
namespace Sys2Proof.Machine

/-! ## Compares and predicate logic (R92, R93) -/

section Predicates
variable (s : State)

theorem exec_cmp (cc : Cond) (o : OpC) : exec (.cmp cc o) s = stage o.g o.gn s fun s =>
    (s.wP o.pd.toNat (predBit (condHolds cc (s.rS o.a.toNat) (s.rS o.b.toNat)))).adv := rfl
theorem exec_cmpi (cc : Cond) (o : OpC) : exec (.cmpi cc o) s = stage o.g o.gn s fun s =>
    (s.wP o.pd.toNat (predBit (condHolds cc (s.rS o.a.toNat) (signImm o.imm)))).adv := rfl
theorem exec_pand (o : OpA) : exec (.pand o) s = predForm o s fun a b => a &&& b := rfl
theorem exec_por (o : OpA) : exec (.por o) s = predForm o s fun a b => a ||| b := rfl
theorem exec_pxor (o : OpA) : exec (.pxor o) s = predForm o s fun a b => a ^^^ b := rfl
theorem exec_pnot (o : OpA) : exec (.pnot o) s = predForm o s fun a _ => ~~~a := rfl
end Predicates

section
variable {i : Instr} {s : State} {v : Bool}

theorem writesP_stage {g : BitVec 3} {gn : BitVec 1} {d : Nat} {x : State → BitVec 1}
    (h : exec i s = stage g gn s fun s => (s.wP d (x s)).adv) (hv : x s = predBit v) : writesP i s g gn d v := by
  refine guarded_stage h fun _ => ?_
  rw [adv_of_wrote (wrote_wP s d (x s))]
  refine ⟨?_, ranOn_wP_goto ..⟩
  rw [State.rP_goto, rP_wP_self, hv, predBit]

theorem writesP_predForm {o : OpA} {f : BitVec 1 → BitVec 1 → BitVec 1} (h : exec i s = predForm o s f)
    (hv : f (s.rP o.a.toNat) (s.rP o.b.toNat) = predBit v) : writesP i s o.g o.gn o.d.toNat v :=
  writesP_stage (x := fun s => f (s.rP o.a.toNat) (s.rP o.b.toNat)) h hv
end

theorem condHolds_iff (cc : Cond) (a b : Word) : condHolds cc a b = true ↔ condAsks cc a b := by
  cases cc <;> simp [condHolds, condAsks, BitVec.slt_iff_toInt_lt, BitVec.sle_iff_toInt_le, BitVec.ult, BitVec.ule]

/-- A predicate that the condition settles is the one the compare writes. -/
theorem predBit_condHolds {cc : Cond} {a b : Word} {v : Bool} (h : v = true ↔ condAsks cc a b) :
    predBit (condHolds cc a b) = predBit v := by
  rw [Bool.eq_iff_iff.mpr ((condHolds_iff cc a b).trans h.symm)]

theorem and_eq_predBit : ∀ x y : BitVec 1, x &&& y = predBit (x == 1 && y == 1) := by decide
theorem or_eq_predBit : ∀ x y : BitVec 1, x ||| y = predBit (x == 1 || y == 1) := by decide
theorem xor_eq_predBit : ∀ x y : BitVec 1, x ^^^ y = predBit ((x == 1) != (y == 1)) := by decide
theorem not_eq_predBit : ∀ x : BitVec 1, ~~~x = predBit (!(x == 1)) := by decide

/-- Settles O11: the model's test of each condition is the comparison R92 asks for. -/
theorem comparesAndPredicateLogic : Obligations.ComparesAndPredicateLogic := by
  refine ⟨fun cc o s v => ⟨fun h => ?register, fun h => ?immediate⟩, fun o s _ => ⟨?and, ?or, ?xor, ?not⟩⟩
  case register => exact writesP_stage (exec_cmp s cc o) (predBit_condHolds h)
  case immediate => exact writesP_stage (exec_cmpi s cc o) (predBit_condHolds h)
  case and => exact writesP_predForm (exec_pand s o) (and_eq_predBit ..)
  case or => exact writesP_predForm (exec_por s o) (or_eq_predBit ..)
  case xor => exact writesP_predForm (exec_pxor s o) (xor_eq_predBit ..)
  case not => exact writesP_predForm (exec_pnot s o) (not_eq_predBit ..)

end Sys2Proof.Machine
end

section
/-!
PROOFS. Branches and the end of a firing (R83, R94, R95, R109, R28).
-/
namespace Sys2Proof.Machine

/-! ## Branches (R94, R95) -/

section Branches
variable (s : State)

theorem exec_br (o : OpB) : exec (.br o) s = stage o.g o.gn s fun s => s.branch (s.pc + o.off.toInt) false := rfl
theorem exec_bl (o : OpB) : exec (.bl o) s = stage o.g o.gn s fun s => s.branch (s.pc + o.off.toInt) true := rfl
theorem exec_ret (o : OpA) : exec (.ret o) s = stage o.g o.gn s fun s => s.branch (s.rS 31).toNat false := rfl
theorem exec_jmpr (o : OpA) : exec (.jmpr o) s = stage o.g o.gn s fun s => s.branch (s.rS o.a.toNat).toNat false := rfl
theorem exec_nop (o : OpA) : exec (.nop o) s = stage o.g o.gn s fun s => s.adv := rfl
end Branches

theorem stage_true {g : BitVec 3} {gn : BitVec 1} {s : State} (h : s.rP g.toNat ^^^ gn = 1) (body : State → State) :
    stage g gn s body = .next (body s) := by
  simp [stage, State.guard, h]

/-- A target inside the share: the firing goes on there. -/
theorem branch_inside {s : State} {t : Nat} (h : t < s.pl.progSize) : s.branch t false = s.goto t := by
  have h1 : ¬ (t : Int) < 0 := by omega
  have h2 : ¬ (s.pl.progSize : Int) ≤ t := by omega
  simp [State.branch, h1, h2]

theorem branch_link_inside {s : State} {t : Nat} (h : t < s.pl.progSize) :
    s.branch t true = (s.wS 31 (w64 (s.pc + 1))).goto t := by
  have h1 : ¬ (t : Int) < 0 := by omega
  have h2 : ¬ (s.pl.progSize : Int) ≤ t := by omega
  simp [State.branch, h1, h2]

/-- A target outside the share is ILLEGAL at the branch, linking or not (R51). -/
theorem branch_outside {s : State} {t : Int} (h : t < 0 ∨ (s.pl.progSize : Int) ≤ t) (link : Bool) :
    s.branch t link = s.trapAt s.cur 1 (w64 s.pc) (BitVec.ofInt 64 t) 0 := by
  simp [State.branch, h, State.trap]

theorem ofInt_natCast_toNat (x : Word) : BitVec.ofInt 64 (x.toNat : Int) = x := by
  rw [BitVec.ofInt_natCast, BitVec.ofNat_toNat, BitVec.setWidth_eq]

/-! ## The end of a firing (R83) -/

theorem exec_endFiring {o : OpA} {s : State} (hg : s.rP o.g.toNat ^^^ o.gn = 1)
    (hc : ∀ e ∈ s.pl.firing.claims, e.2 = []) : exec (.endFiring o) s = .next s.endFiring := by
  have hnone : s.pl.firing.claims.find? (fun c => !c.2.isEmpty) = none := by
    simpa using hc
  have harm : exec (.endFiring o) s = execEndFiring o s := rfl
  rw [harm, execEndFiring, stage_true hg, hnone]

/-- The plane of a firing that has ended. -/
def Plane.ended (p : Plane) (clk : Nat) : Plane :=
  { p with running := false, nextAt := clk + 1, firing := { p.firing with claims := [], counted := [], retireAtEnd := [] } }

/-- A firing of the take has ended, and the take's parse context counts it (R191). -/
def State.firingLeft (s : State) (tid : Nat) : State :=
  match s.take tid with
  | none => s
  | some t => s.modTakeCtx t fun c => { c with sent := c.sent - 1 }

/-- What telling the context changes: parse contexts, or the image of an evicted region. -/
theorem firingLeft_eq (s : State) (tid : Nat) : s.firingLeft tid =
    { s with ctxs := (s.firingLeft tid).ctxs, regions := (s.firingLeft tid).regions } := by
  unfold State.firingLeft State.modTakeCtx State.modRegion
  split
  · rfl
  · split
    · rfl
    · split <;> rfl

theorem firingLeft_of_take {s : State} {k : Take} {tid : Nat} (hk : s.take tid = some k) (hctx : (s.ctx k.ctx).tid = k.tid) :
    s.firingLeft tid = s.modCtx k.ctx fun c => { c with sent := c.sent - 1 } := by
  simp [State.firingLeft, State.modTakeCtx, hk, hctx]

theorem firingLeft_of_no_take {s : State} {tid : Nat} (hk : s.take tid = none) : s.firingLeft tid = s := by
  simp [State.firingLeft, hk]

/-- END as far as the freeing of its plane: the context is told and the plane is ready for its next token. -/
def State.firingDone (s : State) (tid : Nat) : State := (s.firingLeft tid).modPl fun p => p.ended s.clk

section FiringDone
variable (s : State) (tid : Nat)

theorem firingDone_eq : s.firingDone tid =
    { s with planes := (s.firingDone tid).planes, ctxs := (s.firingDone tid).ctxs, regions := (s.firingDone tid).regions } := by
  rw [State.firingDone, firingLeft_eq]; rfl
theorem firingDone_pl : (s.firingDone tid).pl = s.pl.ended s.clk := by
  rw [State.firingDone, State.pl_modPl, firingLeft_eq]; rfl
theorem firingDone_ring (k : Nat) : (s.firingDone tid).ring k = s.ring k := by rw [firingDone_eq]; rfl
theorem firingDone_byte (a : Nat) : (s.firingDone tid).byte a = s.byte a := by rw [firingDone_eq]; rfl
theorem firingDone_cur : (s.firingDone tid).cur = s.cur := by rw [firingDone_eq]
end FiringDone

/-- END retires what the firing has brought to zero, ends it, and frees the plane where it may be freed. -/
theorem endFiring_eq {s u : State} (hu : (s.fold s.pl.firing.retireAtEnd fun s id => s.endResidency s.cur id) = u) :
    s.endFiring = (u.firingDone s.pl.firing.tid).planeFree u.cur := by
  subst hu
  have hleft := firingLeft_eq (s.fold s.pl.firing.retireAtEnd fun s id => s.endResidency s.cur id) s.pl.firing.tid
  have hclk := congrArg State.clk hleft
  have hcur := congrArg State.cur hleft
  show ((State.firingLeft _ _).modPl fun p => p.ended (State.firingLeft _ _).clk).planeFree (State.firingLeft _ _).cur = _
  rw [hclk, hcur]
  rfl

theorem planeFree_of_eot_not_left {s : State} {pid : Nat} (h : (s.plane pid).eotLeft = false) : s.planeFree pid = s := by
  unfold State.planeFree
  dsimp only
  split <;> simp [h]

/-- With no EOT granule left END frees nothing. -/
theorem endFiring_of_eot_not_left {s u : State}
    (hu : (s.fold s.pl.firing.retireAtEnd fun s id => s.endResidency s.cur id) = u) (heot : u.pl.eotLeft = false) :
    s.endFiring = u.firingDone s.pl.firing.tid := by
  rw [endFiring_eq hu, planeFree_of_eot_not_left]
  rw [← firingDone_cur u s.pl.firing.tid]
  show (u.firingDone _).pl.eotLeft = false
  rw [firingDone_pl]
  exact heot

/-- With nothing to retire or free, END stops the firing and its take's context counts it. -/
theorem endFiring_of_take {s : State} {k : Take} (hret : s.pl.firing.retireAtEnd = []) (heot : s.pl.eotLeft = false)
    (hk : s.take s.pl.firing.tid = some k) (hctx : (s.ctx k.ctx).tid = k.tid) :
    s.endFiring = (s.modCtx k.ctx fun c => { c with sent := c.sent - 1 }).modPl fun p => p.ended s.clk := by
  rw [endFiring_of_eot_not_left (u := s) (by rw [hret]; rfl) heot, State.firingDone, firingLeft_of_take hk hctx]

/-! ## Retiring a resident window (R109) -/

theorem find_mapTab {α : Type} (f : Nat → α → α) (m : Tab α) (k : Nat) : find (mapTab f m) k = (find m k).map (f k) := by
  induction m with
  | nil => rfl
  | cons e m ih =>
    obtain ⟨k', v⟩ := e
    show find ((k', f k' v) :: mapTab f m) k = _
    by_cases h : k = k'
    · subst h; simp [find]
    · simp only [find, if_neg h, ih]

section Retire
variable (s : State) (key branch : Nat) (ns : List Nat)

@[simp] theorem State.plane_noteRing (q : Nat) : (s.noteRing key).plane q = s.plane q := by
  unfold State.noteRing; split
  · rfl
  · exact State.plane_modJob ..
@[simp] theorem State.ring_noteRing (k : Nat) : (s.noteRing key).ring k = s.ring k := by
  unfold State.noteRing; split
  · rfl
  · exact State.ring_modJob ..
@[simp] theorem State.noteRing_mem : (s.noteRing key).mem = s.mem := by
  unfold State.noteRing; split
  · rfl
  · exact State.modJob_mem ..
@[simp] theorem State.noteRing_cur : (s.noteRing key).cur = s.cur := by
  unfold State.noteRing; split
  · rfl
  · exact State.modJob_cur ..

@[simp] theorem State.plane_retire (q : Nat) : (s.retire key branch ns).plane q = s.plane q := by simp [State.retire]
@[simp] theorem State.retire_mem : (s.retire key branch ns).mem = s.mem := by simp [State.retire]
@[simp] theorem State.retire_cur : (s.retire key branch ns).cur = s.cur := by simp [State.retire]
theorem State.ring_retire_ne {k : Nat} (h : k ≠ key) : (s.retire key branch ns).ring k = s.ring k := by
  rw [State.retire, State.ring_modRing_ne _ _ h, State.ring_noteRing]

/-- Retiring is what R101 says of a branch: its slots are marked, and its detach clock restarts (R111). -/
theorem retiredBy_of_retire {t : State} (ht : t.ring key = (s.retire key branch ns).ring key) (hr : s.ring key ≠ none) :
    retiredBy s t key branch ns := by
  obtain ⟨r, hr⟩ := Option.ne_none_iff_exists'.mp hr
  rw [State.retire, State.ring_modRing_self, State.ring_noteRing, hr, Option.map_some] at ht
  refine ⟨r, _, hr, ht, rfl, fun n => ?_⟩
  simp only [find_mapTab, List.contains_iff_mem]
end Retire

/-- A plane whose handles no longer hold the residency `id`. -/
def Plane.clearResidency (p : Plane) (id : Nat) : Plane :=
  { p with h := mapTab (fun _ b => if b.resId == id then b.clear else b) p.h }

theorem clearResidency_handles (p : Plane) {id : Nat} (h0 : id ≠ 0) : ∀ e ∈ (p.clearResidency id).h, e.2.resId ≠ id := by
  intro e he
  simp only [Plane.clearResidency, mapTab, List.mem_map] at he
  obtain ⟨b, -, rfl⟩ := he
  by_cases hb : b.2.resId = id
  · simp [hb, Handle.clear, h0.symm]
  · simp [hb]

/-- A plane whose residency `id` has ended with its window retired. -/
def Plane.endedResidency (p : Plane) (id : Nat) : Plane := { p.clearResidency id with resid := del p.resid id }

section EndResidency
variable {s : State} {pid id : Nat} {x : Resid}

/-- A residency with nothing to hold it back: handles are cleared, the slots retired, and the window is gone. -/
theorem endResidency_eq (hx : find (s.plane pid).resid id = some x) (hbad : x.bad = false) (hslots : x.slots ≠ [])
    (hfree : (s.plane pid).holdsBack id x = false) : s.endResidency pid id =
      ((s.modPlane pid fun p => p.clearResidency id).retire x.key x.branch x.slots).modPlane pid
        fun p => { p with resid := del p.resid id } := by
  have hx' : find ((s.modPlane pid fun p => p.clearResidency id).plane pid).resid id = some x := by
    rw [State.plane_modPlane_self]; exact hx
  have hfree' : ((s.modPlane pid fun p => p.clearResidency id).plane pid).holdsBack id x = false := by
    rw [State.plane_modPlane_self]; exact hfree
  show State.dropResid (s.modPlane pid fun p => p.clearResidency id) pid id = _
  unfold State.dropResid
  simp only [hx', hfree', hbad, List.isEmpty_iff, hslots]
  rfl

theorem endResidency_effect (hx : find (s.plane pid).resid id = some x) (hbad : x.bad = false) (hslots : x.slots ≠ [])
    (hfree : (s.plane pid).holdsBack id x = false) (hring : s.ring x.key ≠ none) :
    (s.endResidency pid id).cur = s.cur ∧ (s.endResidency pid id).plane pid = (s.plane pid).endedResidency id
      ∧ retiredBy s (s.endResidency pid id) x.key x.branch x.slots
      ∧ (∀ k, k ≠ x.key → (s.endResidency pid id).ring k = s.ring k)
      ∧ ∀ a, (s.endResidency pid id).byte a = s.byte a := by
  rw [endResidency_eq hx hbad hslots hfree]
  refine ⟨by simp, by simp [Plane.endedResidency, Plane.clearResidency], ?_, fun k hk => ?_, fun a => ?_⟩
  · exact retiredBy_of_retire (s.modPlane pid fun p => p.clearResidency id) _ _ _ rfl hring
  · rw [State.ring_modPlane, State.ring_retire_ne _ _ _ _ hk, State.ring_modPlane]
  · simp [State.byte]
end EndResidency

/-- END with one residency whose count has come to zero. -/
theorem endFiring_retires {s : State} {id : Nat} {x : Resid} (hret : s.pl.firing.retireAtEnd = [id]) (h0 : id ≠ 0)
    (hx : find s.pl.resid id = some x) (hbad : x.bad = false) (hslots : x.slots ≠ [])
    (hfree : s.pl.holdsBack id x = false) (hring : s.ring x.key ≠ none) (heot : s.pl.eotLeft = false) :
    let t := s.endFiring
    t.pl.running = false ∧ retiredBy s t x.key x.branch x.slots ∧ find t.pl.resid id = none
      ∧ (∀ e ∈ t.pl.h, e.2.resId ≠ id) ∧ (∀ k, k ≠ x.key → t.ring k = s.ring k) ∧ ∀ a, t.byte a = s.byte a := by
  intro t
  have hu : (s.fold s.pl.firing.retireAtEnd fun s id => s.endResidency s.cur id) = s.endResidency s.cur id := by
    rw [hret]; rfl
  obtain ⟨hcur, hplane, ⟨r, r', hr, hr', hback⟩, hrings, hbytes⟩ :=
    endResidency_effect (pid := s.cur) hx hbad hslots hfree hring
  have hpl : (s.endResidency s.cur id).pl = s.pl.endedResidency id := by rw [State.pl, hcur]; exact hplane
  have ht : t = (s.endResidency s.cur id).firingDone s.pl.firing.tid :=
    endFiring_of_eot_not_left hu (by rw [hpl]; exact heot)
  have htpl : t.pl = (s.pl.endedResidency id).ended (s.endResidency s.cur id).clk := by rw [ht, firingDone_pl, hpl]
  refine ⟨?_, ⟨r, r', hr, ?_, hback⟩, ?_, ?_, fun k hk => ?_, fun a => ?_⟩
  · rw [htpl]; rfl
  · rw [ht, firingDone_ring]; exact hr'
  · rw [htpl]; exact find_del_self ..
  · rw [htpl]; exact clearResidency_handles s.pl h0
  · rw [ht, firingDone_ring]; exact hrings k hk
  · rw [ht, firingDone_byte]; exact hbytes a

/-! ## Freeing a plane and its region (R28) -/

theorem writeBack_of_no_stash {s : State} {pid : Nat} (h : (s.plane pid).stash = []) : s.writeBack pid = s := by
  rw [State.writeBack, h]; rfl

/-- What stays of a plane that is freed: memory operations and commits already issued, with the horizons these meet. -/
def Plane.freed (p : Plane) : Plane :=
  { ({} : Plane) with
    memq := p.memq, commits := p.commits, kills := p.kills.filter fun k => p.commits.any fun c => c.tid == k.1 }

section Freeing
variable {s : State} {pid key : Nat} {r : Region}

/-- The plane's rings and log entries go, and the plane is as at reset but for what it has already issued. -/
theorem freePlane_eq (h : (s.plane pid).stash = []) : s.freePlane pid =
    ({ s.forgetLog pid with rings := s.rings.filter fun e => !(e.2.pid == pid) }).modPlane pid Plane.freed := by
  rw [State.freePlane, writeBack_of_no_stash h]; rfl

theorem region_freePlane (h : (s.plane pid).stash = []) (k : Nat) : (s.freePlane pid).region k = s.region k := by
  rw [freePlane_eq h]; rfl
theorem mem_freePlane (h : (s.plane pid).stash = []) : (s.freePlane pid).mem = s.mem := by
  rw [freePlane_eq h]; rfl
theorem cur_freePlane (h : (s.plane pid).stash = []) : (s.freePlane pid).cur = s.cur := by
  rw [freePlane_eq h]; rfl
theorem plane_freePlane (h : (s.plane pid).stash = []) : (s.freePlane pid).plane pid = (s.plane pid).freed := by
  rw [freePlane_eq h, State.plane_modPlane_self]; rfl

theorem tearDown_of_region (hr : s.region key = some r) : s.tearDown key =
    { s with exits := s.exits.filter fun e => !(e.region == key) }.modRegion key
      fun r => { r with place := .torn, cellsLeft := [], condemned := false } := by
  simp [State.tearDown, hr]

/-- The last cell of a region takes the region with it. -/
theorem freeCell_last (hr : s.region key = some r) (hlast : r.cellsLeft = [cellNoOf pid])
    (hstash : (s.plane pid).stash = []) :
    (s.freeCell key pid).region key = some { r with place := .torn, cellsLeft := [], condemned := false }
      ∧ (s.freeCell key pid).plane pid = (s.plane pid).freed
      ∧ (s.freeCell key pid).cur = s.cur ∧ (s.freeCell key pid).mem = s.mem := by
  let left := (s.freePlane pid).modRegion key fun r =>
    { r with cellsLeft := r.cellsLeft.filter fun c => !(c == cellNoOf pid) }
  have hleft : left.region key = some { r with cellsLeft := [] } := by
    simp [left, region_freePlane hstash, hr, hlast]
  have hcell : s.freeCell key pid = left.tearDown key := by
    unfold State.freeCell
    dsimp only
    split
    · next hnone => exact absurd (hleft.symm.trans hnone) (by simp)
    · next r' hsome => rw [if_pos]; cases hleft.symm.trans hsome; rfl
  rw [hcell, tearDown_of_region hleft]
  refine ⟨?_, ?_, ?_, ?_⟩
  · rw [State.region_modRegion_self]
    show (left.region key).map _ = _
    rw [hleft]; rfl
  · rw [State.plane_modRegion]
    show left.plane pid = _
    rw [State.plane_modRegion, plane_freePlane hstash]
  · simp [left, cur_freePlane hstash]
  · simp [left, mem_freePlane hstash]

/-- PLANE_FREE on the last cell of a region. -/
theorem planeFree_last (hr : s.region (s.plane pid).owner = some r) (hkey : r.key = (s.plane pid).owner)
    (heot : (s.plane pid).eotLeft = true) (hidle : s.planeIdle pid = true) (hplace : r.place = .eligible)
    (hlast : r.cellsLeft = [cellNoOf pid]) (hstash : (s.plane pid).stash = []) :
    s.planeFree pid = s.freeCell r.key pid := by
  rw [← hkey] at hr
  obtain ⟨hregion, -⟩ := freeCell_last hr hlast hstash
  unfold State.planeFree
  simp only [← hkey, hr, heot, hidle, hplace, hregion]
  simp [State.ringLeft, State.fold]

/-- END on the last cell of a region whose EOT granule has left: the plane and its region go. -/
theorem endFiring_frees (hret : s.pl.firing.retireAtEnd = []) (heot : s.pl.eotLeft = true)
    (hr : s.region s.pl.owner = some r) (hkey : r.key = s.pl.owner) (hplace : r.place = .eligible)
    (hlast : r.cellsLeft = [cellNoOf s.cur]) (hstash : s.pl.stash = []) (htake : s.take s.pl.firing.tid = none)
    (hidle : (s.modPl fun p => p.ended s.clk).planeIdle s.cur = true) :
    let t := s.endFiring
    t.pl.owner = 0 ∧ t.pl.running = false ∧ (t.region r.key).map Region.place = some .torn
      ∧ ∀ a, t.byte a = s.byte a := by
  intro t
  let d := s.modPl fun p => p.ended s.clk
  have hpl : d.plane s.cur = s.pl.ended s.clk := State.pl_modPl ..
  have hdstash : (d.plane s.cur).stash = [] := by rw [hpl]; exact hstash
  have hdr : d.region r.key = some r := by rw [hkey]; exact hr
  have ht : t = d.freeCell r.key s.cur := by
    have hend : t = (s.firingDone s.pl.firing.tid).planeFree s.cur := endFiring_eq (u := s) (by rw [hret]; rfl)
    rw [hend, State.firingDone, firingLeft_of_no_take htake]
    exact planeFree_last (by rw [hpl]; exact hr) (by rw [hpl]; exact hkey) (by rw [hpl]; exact heot) hidle hplace hlast hdstash
  obtain ⟨hregion, hplane, hcur, hmem⟩ := freeCell_last hdr hlast hdstash
  rw [← ht] at hregion hplane hcur hmem
  have htpl : t.pl = (d.plane s.cur).freed := by rw [State.pl, hcur]; exact hplane
  refine ⟨?_, ?_, ?_, fun a => ?_⟩
  · rw [htpl]; rfl
  · rw [htpl]; rfl
  · rw [hregion]; rfl
  · rw [State.byte, hmem]; rfl
end Freeing

theorem endFiring_of_false_guard {o : OpA} {s : State} (hg : s.rP o.g.toNat ^^^ o.gn = 0) :
    completes (.endFiring o) s fun t => ranOn s t (s.pc + 1) [] [] [] [] false :=
  (guarded_stage (P := fun _ => True) (show exec (.endFiring o) s = execEndFiring o s from rfl) fun _ => trivial).1 hg

/-- Settles O12: a branch is a goto inside the share and a trap outside it, and END is taken apart into the retiring of
residencies, the count at the parse context and the freeing of the plane. -/
theorem branchesAndTheEndOfAFiring : Obligations.BranchesAndTheEndOfAFiring := by
  refine ⟨⟨fun o s t ht hin => ?inside, fun o s => ?jumpsInside⟩, ⟨fun o s hg hout => ?outside, fun o s hg => ?jumpsOutside⟩,
    fun o s => ⟨?nop, ?ends⟩, ?retires, ?frees⟩
  case inside =>
    refine ⟨guarded_stage (exec_br s o) fun _ => ?_, guarded_stage (exec_bl s o) fun _ => ?_⟩ <;> rw [← ht]
    · rw [branch_inside hin]
      exact ranOn_goto ..
    · rw [branch_link_inside hin]
      refine ⟨?_, ranOn_wS_goto ..⟩
      rw [State.rS_goto, rS_wS_self]
      rfl
  case jumpsInside =>
    refine ⟨fun hin => guarded_stage (exec_ret s o) fun _ => ?_, fun hin => guarded_stage (exec_jmpr s o) fun _ => ?_⟩ <;>
    · rw [branch_inside hin]
      exact ranOn_goto ..
  case outside =>
    exact ⟨by rw [exec_br, stage_true hg, branch_outside hout], by rw [exec_bl, stage_true hg, branch_outside hout]⟩
  case jumpsOutside =>
    refine ⟨fun hout => ?_, fun hout => ?_⟩
    · rw [exec_ret, stage_true hg, branch_outside (.inr (by exact_mod_cast hout)), ofInt_natCast_toNat]
    · rw [exec_jmpr, stage_true hg, branch_outside (.inr (by exact_mod_cast hout)), ofInt_natCast_toNat]
  case nop => exact guarded_stage (exec_nop s o) fun _ => ranOn_goto ..
  case ends =>
    intro k hc hret heot hk hctx
    refine ⟨endFiring_of_false_guard, fun hg => ⟨_, exec_endFiring hg hc, ?_⟩⟩
    rw [endFiring_of_take hret heot hk hctx]
    refine ⟨rfl, fun q hq => State.plane_modPl_ne _ _ hq, State.pl_modPl .., fun c hne => ?_, ?_⟩
    · exact State.ctx_modCtx_ne s (fun c => { c with sent := c.sent - 1 }) hne
    · exact State.ctx_modCtx_self s k.ctx fun c => { c with sent := c.sent - 1 }
  case retires =>
    intro o s id x hg hc hret h0 hx hbad hslots hfree hring heot
    exact ⟨_, exec_endFiring hg hc, endFiring_retires hret h0 hx hbad hslots hfree hring heot⟩
  case frees =>
    intro o s r hg hc hret heot hr hkey hplace hlast htok hmq hstash hown hur hud hhr hhd hrings htakes hcores
    have hidle : (s.modPl fun p => p.ended s.clk).planeIdle s.cur = true := by
      have hpl : (s.modPl fun p => p.ended s.clk).plane s.cur = s.pl.ended s.clk := State.pl_modPl ..
      simp only [State.planeIdle, hpl]
      simp [Plane.ended, htok, hmq, hown, hur, hud, hhr, hhd, hrings, htakes, hcores, State.core, look, find]
    exact ⟨_, exec_endFiring hg (by simp [hc]),
      endFiring_frees hret heot hr hkey hplace hlast hstash (by rw [State.take, htakes]; rfl) hidle⟩

end Sys2Proof.Machine
end

section
/-!
PROOFS. Elements of vector registers, the run of an element function over them, and the integer and bitwise instructions
(R126, R130 to R132).
-/
namespace Sys2Proof.Machine

/-! ## Tags and elements (R52, R58) -/

@[simp] theorem widthOf_toNat (t : BitVec 3) : widthOf t.toNat = elemWidth t := by simp [widthOf]

@[simp] theorem isFlt_toNat (t : BitVec 3) : isFlt t.toNat = isFloatTag t := by
  revert t; decide

@[simp] theorem lanesOf_toNat (t : BitVec 3) : lanesOf t.toNat = 1024 / elemWidth t := by simp [lanesOf]

theorem elemWidth_cases (t : BitVec 3) : elemWidth t = 4 ∨ elemWidth t = 8 ∨ elemWidth t = 16 ∨ elemWidth t = 32 := by
  revert t; decide

theorem elemWidth_pos (t : BitVec 3) : 0 < elemWidth t := by
  obtain h | h | h | h := elemWidth_cases t <;> omega

/-- The elements of a tag fill the register. -/
theorem lane_fits {t : BitVec 3} {k : Nat} (hk : k < 1024 / elemWidth t) : k * elemWidth t + elemWidth t ≤ 1024 := by
  obtain h | h | h | h := elemWidth_cases t <;> rw [h] at hk ⊢ <;> omega

theorem elem_eq_lane (v : Vec) (k w : Nat) : elem v k w = lane v w k := rfl

theorem lane_lt (v : Vec) (w k : Nat) : lane v w k < 2 ^ w := Nat.mod_lt _ (by positivity)

theorem lane_mod (v : Vec) (w k : Nat) : lane v w k % 2 ^ w = lane v w k := Nat.mod_eq_of_lt (lane_lt v w k)

theorem toInt_lane (v : Vec) (w k : Nat) : toInt w (lane v w k) = laneI v w k := toInt_eq_toInt_ofNat ..

theorem ofInt_eq_toNat (w : Nat) (v : Int) : ofInt w v = (BitVec.ofInt w v).toNat := by
  simp [ofInt]

/-- The encoding of an element's number is the element. -/
theorem ofInt_laneI (v : Vec) (w k : Nat) : (BitVec.ofInt w (laneI v w k)).toNat = lane v w k := by
  rw [laneI, BitVec.ofInt_toInt, BitVec.toNat_ofNat, lane_mod]

/-- The mask bit that R58 names for an element, for each width of element. -/
theorem maskBit_eq_active {w : Nat} (hw : w = 4 ∨ w = 8 ∨ w = 16 ∨ w = 32) (m : Word) (k : Nat) :
    maskBit m k w = active m w k := by
  have hbit : (if 16 ≤ w then k else if w == 8 then k / 2 else k / 4) = if 16 ≤ w then k else k * w / 16 := by
    obtain rfl | rfl | rfl | rfl := hw <;> simp <;> omega
  rw [maskBit, active, hbit]

@[simp] theorem maskBit_elemWidth (t : BitVec 3) (m : Word) (k : Nat) :
    maskBit m k (elemWidth t) = active m (elemWidth t) k := maskBit_eq_active (elemWidth_cases t) m k

/-- The elements of a register that is listed from its low end. -/
theorem lane_foldr (w : Nat) (xs : List Nat) (k : Nat) :
    xs.foldr (fun x acc => acc * 2 ^ w + x % 2 ^ w) 0 / 2 ^ (k * w) % 2 ^ w = xs[k]?.getD 0 % 2 ^ w := by
  induction xs generalizing k with
  | nil => simp
  | cons x xs ih =>
    have hlow : x % 2 ^ w < 2 ^ w := Nat.mod_lt _ (by positivity)
    cases k with
    | zero => simp
    | succ k =>
      rw [List.foldr_cons, Nat.succ_mul, Nat.add_comm (k * w), Nat.pow_add, ← Nat.div_div_eq_div_mul,
        Nat.mul_comm _ (2 ^ w), Nat.mul_add_div (by positivity), Nat.div_eq_of_lt hlow, Nat.add_zero, ih]
      simp

theorem lane_vecOf {w k : Nat} (hk : k * w + w ≤ 1024) (xs : List Nat) :
    lane (vecOf w xs) w k = xs[k]?.getD 0 % 2 ^ w := by
  rw [← lane_foldr, lane, vecOf, BitVec.toNat_ofNat]
  apply Nat.eq_of_testBit_eq
  intro i
  simp only [Nat.testBit_mod_two_pow, Nat.testBit_div_two_pow]
  by_cases hi : i < w
  · simp [hi, show i + k * w < 1024 by omega]
  · simp [hi]

/-- A register that is listed by a function of the element's index. -/
theorem lane_vecOf_map_range {t : BitVec 3} {k : Nat} (hk : k < 1024 / elemWidth t) (f : Nat → Nat) :
    lane (vecOf (elemWidth t) ((List.range (1024 / elemWidth t)).map f)) (elemWidth t) k = f k % 2 ^ elemWidth t := by
  rw [lane_vecOf (lane_fits hk), List.getElem?_map, List.getElem?_range hk]
  rfl

/-! ## The run of an element function (R65) -/

/-- The LFSR after the first `k` elements, each of which takes its steps after the one before. -/
def lfsrAfter (f : Nat → BitVec 32 → Drawn) (l : BitVec 32) : Nat → BitVec 32
  | 0 => l
  | k + 1 => (f k (lfsrAfter f l k)).2

theorem runLanes_append_one (f : Nat → BitVec 32 → Drawn) (ks : List Nat) (k : Nat) (l : BitVec 32) :
    runLanes f (ks ++ [k]) l =
      ((runLanes f ks l).1 ++ [(f k (runLanes f ks l).2).1], (f k (runLanes f ks l).2).2) := by
  induction ks generalizing l with
  | nil => rfl
  | cons j ks ih => simp [runLanes, ih]

theorem runLanes_range (f : Nat → BitVec 32 → Drawn) (n : Nat) (l : BitVec 32) :
    runLanes f (List.range n) l = ((List.range n).map fun k => (f k (lfsrAfter f l k)).1, lfsrAfter f l n) := by
  induction n with
  | zero => rfl
  | succ n ih => rw [List.range_succ, runLanes_append_one, ih]; simp [lfsrAfter]

/-- Elements that draw nothing leave the LFSR as it is. -/
theorem lfsrAfter_add_of_kept {f : Nat → BitVec 32 → Drawn} {a n : Nat}
    (hf : ∀ k, a ≤ k → k < a + n → ∀ l, (f k l).2 = l) (l : BitVec 32) : lfsrAfter f l (a + n) = lfsrAfter f l a := by
  induction n with
  | zero => rfl
  | succ n ih =>
    rw [← Nat.add_assoc, lfsrAfter, hf _ (by omega) (by omega), ih fun k hk hkn => hf k hk (by omega)]

theorem lfsrAfter_of_kept {f : Nat → BitVec 32 → Drawn} {n : Nat} (hf : ∀ k, k < n → ∀ l, (f k l).2 = l) (l : BitVec 32) :
    lfsrAfter f l n = l := by
  have h := lfsrAfter_add_of_kept (f := f) (a := 0) (n := n) (fun k _ hk => hf k (by omega)) l
  rwa [Nat.zero_add] at h

/-! ## What a vector instruction does (R126, R145) -/

@[simp] theorem State.rV_goto (s : State) (pc n : Nat) : (s.goto pc).rV n = s.rV n := by
  simp [State.rV, State.goto, State.modFiring, State.pl]

@[simp] theorem State.lfsr_goto (s : State) (pc : Nat) : (s.goto pc).pl.lfsr = s.pl.lfsr := by
  simp [State.goto, State.modFiring, State.pl]

/-- Without a queued draw a vector instruction runs its body (R145). -/
theorem guarded_vec {i : Instr} {o : OpV} {s : State} {body : State → State} {P : State → Prop}
    (h : exec i s = vec o s body) (hq : o.rm = 5 → s.pl.drawsQueued = false) (hP : P (body s)) :
    guarded i s o.g o.gn P := by
  refine guarded_stage h fun _ => ?_
  have hrun : ¬(o.rm == 5 && s.pl.drawsQueued) = true := by
    intro hwait
    obtain ⟨h5, hdraws⟩ := Bool.and_eq_true_iff.mp hwait
    rw [hq (eq_of_beq h5)] at hdraws
    exact absurd hdraws (by decide)
  rwa [if_neg hrun]

/-- RM 0 draws nothing. -/
theorem not_draws {o : OpV} {b : Bool} (hrm : o.rm = 0) : o.rm = 5 → b = false := by
  rw [hrm]; exact fun h => absurd h (by decide)

/-- A write of a V register and of the LFSR, then the next place. -/
theorem putV_effect (s : State) (d : Nat) (v : Vec) (l : BitVec 32) :
    (s.putV d v l).rV d = v ∧ (s.putV d v l).pl.lfsr = l
      ∧ ranOn s (s.putV d v l) (s.pc + 1) [] [] [d] [] true
      ∧ (l = s.pl.lfsr → ranOn s (s.putV d v l) (s.pc + 1) [] [] [d] [] false) := by
  have hw : wrote s ((s.wV d v).modPl fun p => { p with lfsr := l }) :=
    wrote_trans (wrote_wV s d v) (wrote_lfsr _ l)
  have hregs : ((s.wV d v).modPl fun p => { p with lfsr := l }).pl.regs = s.pl.regs.wV d v := by
    rw [State.pl_modPl, ← regs_wV]
  have hran : ∀ lf, (lf = false → l = s.pl.lfsr) → ranOn s (s.putV d v l) (s.pc + 1) [] [] [d] [] lf := by
    intro lf hlf
    rw [State.putV, adv_of_wrote hw]
    refine ranOn_of_wrote _ lf hw ?_ ?_ ?_ ?_ ?_
    · simpa [State.pl_modPl] using hlf
    all_goals intro n hn; simp only [State.rS, State.rP, State.rV, State.rM, hregs, Regs.rS_wV, Regs.rP_wV, Regs.rM_wV]
    rw [Regs.rV_wV, if_neg (by simpa using hn)]
  refine ⟨?_, ?_, hran true (by simp), fun h => hran false fun _ => h⟩
  · rw [State.putV, State.adv, State.rV_goto, State.rV, hregs, Regs.rV_wV, if_pos rfl]
  · rw [State.putV, State.adv, State.lfsr_goto, State.pl_modPl]

/-- A write of V[d] whose elements of a tag an element function gives, lowest first. -/
def State.putRun (s : State) (d : Nat) (t : BitVec 3) (f : Nat → BitVec 32 → Drawn) : State :=
  s.putV d (vecOf (elemWidth t) (runLanes f (List.range (1024 / elemWidth t)) s.pl.lfsr).1)
    (runLanes f (List.range (1024 / elemWidth t)) s.pl.lfsr).2

theorem putRun_effect (s : State) (d : Nat) {t : BitVec 3} {f : Nat → BitVec 32 → Drawn}
    (hf : ∀ k l, (f k l).1 < 2 ^ elemWidth t) :
    (∀ k, k < 1024 / elemWidth t →
      lane ((s.putRun d t f).rV d) (elemWidth t) k = (f k (lfsrAfter f s.pl.lfsr k)).1)
    ∧ (s.putRun d t f).pl.lfsr = lfsrAfter f s.pl.lfsr (1024 / elemWidth t)
    ∧ ranOn s (s.putRun d t f) (s.pc + 1) [] [] [d] [] true
    ∧ ((∀ k l, (f k l).2 = l) → ranOn s (s.putRun d t f) (s.pc + 1) [] [] [d] [] false) := by
  rw [State.putRun, runLanes_range]
  obtain ⟨hV, hl, hran, hran'⟩ := putV_effect s d
    (vecOf (elemWidth t) ((List.range (1024 / elemWidth t)).map fun k => (f k (lfsrAfter f s.pl.lfsr k)).1))
    (lfsrAfter f s.pl.lfsr (1024 / elemWidth t))
  refine ⟨fun k hk => ?_, hl, hran, fun hkeeps => hran' (lfsrAfter_of_kept (fun k _ => hkeeps k) _)⟩
  rw [hV, lane_vecOf_map_range hk, Nat.mod_eq_of_lt (hf ..)]

/-- An active element takes its value and its LFSR steps, an inactive one keeps the destination's (R126). -/
def State.maskedStep (s : State) (o : OpV) (f : Nat → BitVec 32 → Drawn) (k : Nat) (l : BitVec 32) : Drawn :=
  if active (s.rM o.m.toNat) (elemWidth o.t) k then f k l else (lane (s.rV o.vd.toNat) (elemWidth o.t) k, l)

theorem lanes_eq_putRun (o : OpV) (s : State) (f : Nat → BitVec 32 → Drawn) :
    lanes o s f = s.putRun o.vd.toNat o.t (s.maskedStep o f) := by
  simp only [lanes, widthOf_toNat, lanesOf_toNat, maskBit_elemWidth]
  rfl

/-- A vector instruction whose element operation draws nothing writes the active elements alone. -/
theorem writesLanes_vec {i : Instr} {o : OpV} {s : State} {body : State → State} {f : Nat → BitVec 32 → Drawn}
    {r : Nat → Nat} (h : exec i s = vec o s body) (hbody : body s = lanes o s f) (hrm : o.rm = 0)
    (hf : ∀ k l, f k l = (r k, l)) (hr : ∀ k, r k < 2 ^ elemWidth o.t) : writesLanes i s o r := by
  have hstep : ∀ k l, s.maskedStep o f k l =
      (if active (s.rM o.m.toNat) (elemWidth o.t) k then r k else lane (s.rV o.vd.toNat) (elemWidth o.t) k, l) := by
    intro k l
    rw [State.maskedStep, hf]
    split <;> rfl
  have hlt : ∀ k l, (s.maskedStep o f k l).1 < 2 ^ elemWidth o.t := by
    intro k l
    rw [State.maskedStep, hf]
    split
    · exact hr k
    · exact lane_lt ..
  refine guarded_vec h (not_draws hrm) ?_
  rw [hbody, lanes_eq_putRun]
  obtain ⟨hlane, -, -, hran⟩ := putRun_effect s o.vd.toNat hlt
  exact ⟨fun k hk => by rw [hlane k hk, hstep], hran fun k l => by rw [hstep]⟩

/-! ## What each lane-wise instruction is (R130 to R132) -/

section Arms
variable (o : OpV) (s : State)

theorem exec_vadd : exec (.vadd o) s = arith o s (fun a b _ => a.add o.rm.toNat b) fun a b _ => a + b := rfl
theorem exec_vsub : exec (.vsub o) s = arith o s (fun a b _ => a.add o.rm.toNat b.neg) fun a b _ => a - b := rfl
theorem exec_vmul : exec (.vmul o) s = arith o s (fun a b _ => a.mul b) fun a b _ => a * b := rfl
theorem exec_vfma : exec (.vfma o) s =
    arith o s (fun a b c => (a.mul b).add o.rm.toNat c) fun a b c => a * b + c := rfl
theorem exec_vfms : exec (.vfms o) s =
    arith o s (fun a b c => (a.mul b).add o.rm.toNat c.neg) fun a b c => a * b - c := rfl
theorem exec_vadds : exec (.vadds o) s = lanes2 o s fun a b =>
    clampInt (widthOf o.t.toNat) (toInt (widthOf o.t.toNat) a + toInt (widthOf o.t.toNat) b) := rfl
theorem exec_vmin : exec (.vmin o) s = lanes2 o s (choose o.t.toNat s.pl.ftz false) := rfl
theorem exec_vmax : exec (.vmax o) s = lanes2 o s (choose o.t.toNat s.pl.ftz true) := rfl
theorem exec_vabs : exec (.vabs o) s = lanes2 o s fun a _ =>
    if isFlt o.t.toNat then a % 2 ^ (widthOf o.t.toNat - 1)
    else ofInt (widthOf o.t.toNat) (toInt (widthOf o.t.toNat) a).natAbs := rfl
theorem exec_vneg : exec (.vneg o) s = lanes2 o s fun a _ =>
    if isFlt o.t.toNat then (a + 2 ^ (widthOf o.t.toNat - 1)) % 2 ^ widthOf o.t.toNat
    else ofInt (widthOf o.t.toNat) (-toInt (widthOf o.t.toNat) a) := rfl
theorem exec_vand : exec (.vand o) s = lanes2 o s fun a b => a &&& b := rfl
theorem exec_vor : exec (.vor o) s = lanes2 o s fun a b => a ||| b := rfl
theorem exec_vxor : exec (.vxor o) s = lanes2 o s fun a b => a ^^^ b := rfl
theorem exec_vshl : exec (.vshl o) s = lanes2 o s fun a b =>
    a * 2 ^ (b % widthOf o.t.toNat) % 2 ^ widthOf o.t.toNat := rfl
theorem exec_vshr : exec (.vshr o) s = lanes2 o s fun a b => a / 2 ^ (b % widthOf o.t.toNat) := rfl
theorem exec_vsar : exec (.vsar o) s = lanes2 o s fun a b =>
    ofInt (widthOf o.t.toNat) (toInt (widthOf o.t.toNat) a / (2 ^ (b % widthOf o.t.toNat) : Int)) := rfl
end Arms

/-! ## Lane-wise forms -/

section Forms
variable {i : Instr} {o : OpV} {s : State} {r : Nat → Nat}

/-- An operation on the elements of VA, VB and VC that draws nothing. -/
theorem writesLanes_lanes3 {f : Nat → Nat → Nat → BitVec 32 → Drawn} (h : exec i s = lanes3 o s f) (hrm : o.rm = 0)
    (hf : ∀ k l, f (lane (s.rV o.va.toNat) (elemWidth o.t) k) (lane (s.rV o.vb.toNat) (elemWidth o.t) k)
      (lane (s.rV o.vc.toNat) (elemWidth o.t) k) l = (r k, l))
    (hr : ∀ k, r k < 2 ^ elemWidth o.t) : writesLanes i s o r := by
  refine writesLanes_vec h rfl hrm (fun k l => ?_) hr
  rw [widthOf_toNat]
  exact hf k l

theorem writesLanes_lanes2 {f : Nat → Nat → Nat} (h : exec i s = lanes2 o s f) (hrm : o.rm = 0)
    (hf : ∀ k, f (lane (s.rV o.va.toNat) (elemWidth o.t) k) (lane (s.rV o.vb.toNat) (elemWidth o.t) k) = r k)
    (hr : ∀ k, r k < 2 ^ elemWidth o.t) : writesLanes i s o r :=
  writesLanes_lanes3 h hrm (fun k _ => by rw [hf k]) hr

/-- An integer element takes the low bits of the exact result (R130, R131). -/
theorem writesLanes_lanes2_int {f : Nat → Nat → Nat} {v : Nat → Int} (h : exec i s = lanes2 o s f) (hrm : o.rm = 0)
    (hf : ∀ k, f (lane (s.rV o.va.toNat) (elemWidth o.t) k) (lane (s.rV o.vb.toNat) (elemWidth o.t) k) =
      (BitVec.ofInt (elemWidth o.t) (v k)).toNat) :
    writesLanes i s o fun k => (BitVec.ofInt (elemWidth o.t) (v k)).toNat :=
  writesLanes_lanes2 h hrm hf fun _ => BitVec.isLt _

theorem writesLanes_arith {f : Num → Num → Num → Num} {g : Int → Int → Int → Int} (h : exec i s = arith o s f g)
    (hrm : o.rm = 0) (hint : isFloatTag o.t = false) :
    writesLanes i s o fun k => (BitVec.ofInt (elemWidth o.t) (g (laneI (s.rV o.va.toNat) (elemWidth o.t) k)
      (laneI (s.rV o.vb.toNat) (elemWidth o.t) k) (laneI (s.rV o.vc.toNat) (elemWidth o.t) k))).toNat := by
  unfold arith at h
  refine writesLanes_lanes3 h hrm (fun k l => ?_) fun _ => BitVec.isLt _
  simp only [isFlt_toNat, hint, widthOf_toNat, toInt_lane, ofInt_eq_toNat, Bool.false_eq_true, if_false]
end Forms

/-- A clamped sum lies between the smallest and the largest number of its width (R66, R131). -/
theorem clampInt_eq {w : Nat} (hw : 0 < w) (v : Int) :
    clampInt w v = (BitVec.ofInt w (max (-(2 ^ (w - 1))) (min (2 ^ (w - 1) - 1) v))).toNat := by
  obtain ⟨n, rfl⟩ : ∃ n, w = n + 1 := ⟨w - 1, by omega⟩
  have hpos : (0 : Int) < 2 ^ n := by positivity
  have hdouble : (2 : Int) ^ (n + 1) = 2 * 2 ^ n := by ring
  have hcast : ((2 ^ n : Nat) : Int) = 2 ^ n := by push_cast; rfl
  rw [clampInt, ← ofInt_eq_toNat, Nat.add_sub_cancel]
  by_cases hlow : v < -(2 ^ n)
  · rw [if_pos hlow, min_eq_right (by omega), max_eq_left (by omega), ofInt, hdouble, Int.emod_eq_add_self_emod,
      Int.emod_eq_of_lt (by omega) (by omega)]
    omega
  · rw [if_neg hlow]
    by_cases hhigh : 2 ^ n - 1 < v
    · rw [if_pos hhigh, min_eq_left (by omega), max_eq_right (by omega), ofInt, hdouble,
        Int.emod_eq_of_lt (by omega) (by omega)]
      omega
    · rw [if_neg hhigh, min_eq_right (by omega), max_eq_right (by omega)]

/-- VMIN and VMAX of integer elements write the operand whose number is the smaller or the larger (R131). -/
theorem choose_lanes {t : BitVec 3} (hint : isFloatTag t = false) (ftz larger : Bool) (a b : Vec) (k : Nat) :
    choose t.toNat ftz larger (lane a (elemWidth t) k) (lane b (elemWidth t) k) =
      (BitVec.ofInt (elemWidth t) (if larger then max (laneI a (elemWidth t) k) (laneI b (elemWidth t) k)
        else min (laneI a (elemWidth t) k) (laneI b (elemWidth t) k))).toNat := by
  simp only [choose, isFlt_toNat, hint, widthOf_toNat, toInt_lane, Bool.false_eq_true, if_false]
  cases larger with
  | true =>
    simp only [if_true]
    split
    · next hab => rw [max_eq_right hab.le, ofInt_laneI]
    · next hab => rw [max_eq_left (not_lt.mp hab), ofInt_laneI]
  | false =>
    simp only [Bool.false_eq_true, if_false]
    split
    · next hba => rw [min_eq_right hba.le, ofInt_laneI]
    · next hba => rw [min_eq_left (not_lt.mp hba), ofInt_laneI]

/-- Settles O13: an integer instruction computes the number whose low bits it writes, and a bitwise one stays within the
element's bits. -/
theorem vectorIntegerLanes : Obligations.VectorIntegerLanes := by
  intro o s hrm w a b c ua ub put
  have hua : ∀ k, ua k < 2 ^ w := lane_lt _ _
  have hub : ∀ k, ub k < 2 ^ w := lane_lt _ _
  refine ⟨fun hint => ⟨?add, ?sub, ?mul, ?fma, ?fms, ?adds, ?min, ?max, ?abs, ?neg, ?shl, ?shr, ?sar⟩, ?and, ?or, ?xor⟩
  case add => exact writesLanes_arith (exec_vadd o s) hrm hint
  case sub => exact writesLanes_arith (exec_vsub o s) hrm hint
  case mul => exact writesLanes_arith (exec_vmul o s) hrm hint
  case fma => exact writesLanes_arith (exec_vfma o s) hrm hint
  case fms => exact writesLanes_arith (exec_vfms o s) hrm hint
  case adds =>
    refine writesLanes_lanes2_int (exec_vadds o s) hrm fun k => ?_
    rw [widthOf_toNat, toInt_lane, toInt_lane, clampInt_eq (elemWidth_pos o.t)]
  case min => exact writesLanes_lanes2_int (exec_vmin o s) hrm fun k => choose_lanes hint _ false _ _ k
  case max => exact writesLanes_lanes2_int (exec_vmax o s) hrm fun k => choose_lanes hint _ true _ _ k
  case abs =>
    refine writesLanes_lanes2_int (exec_vabs o s) hrm fun k => ?_
    rw [isFlt_toNat, hint, if_neg Bool.false_ne_true, widthOf_toNat, toInt_lane, ofInt_eq_toNat]
  case neg =>
    refine writesLanes_lanes2_int (exec_vneg o s) hrm fun k => ?_
    rw [isFlt_toNat, hint, if_neg Bool.false_ne_true, widthOf_toNat, toInt_lane, ofInt_eq_toNat]
  case shl =>
    refine writesLanes_lanes2 (exec_vshl o s) hrm (fun k => ?_) fun k => Nat.mod_lt _ (by positivity)
    rw [widthOf_toNat]
  case shr =>
    refine writesLanes_lanes2 (exec_vshr o s) hrm (fun k => ?_) fun k => (Nat.div_le_self ..).trans_lt (hua k)
    rw [widthOf_toNat]
  case sar =>
    refine writesLanes_lanes2_int (exec_vsar o s) hrm fun k => ?_
    rw [widthOf_toNat, toInt_lane, ofInt_eq_toNat, Int.fdiv_eq_ediv_of_nonneg _ (by positivity)]
  case and => exact writesLanes_lanes2 (exec_vand o s) hrm (fun _ => rfl) fun k => Nat.and_lt_two_pow _ (hub k)
  case or => exact writesLanes_lanes2 (exec_vor o s) hrm (fun _ => rfl) fun k => Nat.or_lt_two_pow (hua k) (hub k)
  case xor => exact writesLanes_lanes2 (exec_vxor o s) hrm (fun _ => rfl) fun k => Nat.xor_lt_two_pow (hua k) (hub k)

end Sys2Proof.Machine
end

section
/-!
PROOFS. The range of RoundTo, and element moves, granule moves and VCVT (R61, R66, R135, R141, R142).
-/
namespace Sys2Proof.Machine

/-! ## RoundTo stays within its tag (R58, R63 to R67) -/

/-- A floating tag's encodings, and the one above the largest finite value where the tag has infinities or NaNs, lie below
the sign bit (R59). -/
theorem fmtOf_bounds : ∀ t : BitVec 3, isFloatTag t = true →
    (fmtOf t.toNat).width = elemWidth t ∧ (fmtOf t.toNat).maxEnc < 2 ^ (elemWidth t - 1)
      ∧ ((fmtOf t.toNat).hasInf = true ∨ (fmtOf t.toNat).hasNan = true →
          (fmtOf t.toNat).maxEnc + 1 < 2 ^ (elemWidth t - 1)) := by
  decide

theorem canonNan_lt : ∀ t : BitVec 3, canonNan t.toNat < 2 ^ elemWidth t := by decide

theorem infEnc_lt : ∀ (t : BitVec 3) (neg sat : Bool), infEnc t.toNat neg sat < 2 ^ elemWidth t := by decide

theorem signBit_add_lt {w : Nat} (hw : 0 < w) (neg : Bool) {e : Nat} (he : e < 2 ^ (w - 1)) :
    signBit w neg + e < 2 ^ w := by
  have hdouble : 2 ^ w = 2 ^ (w - 1) * 2 := by rw [← Nat.pow_succ, Nat.succ_eq_add_one, Nat.sub_add_cancel hw]
  rw [signBit]
  split <;> omega

theorem ieeeOverflow_lt {f : Fmt} (hw : 0 < f.width) (he : f.maxEnc + 1 < 2 ^ (f.width - 1)) (neg : Bool) (rm : Nat) :
    ieeeOverflow f neg rm < 2 ^ f.width := by
  have hbelow : ∀ toMax : Bool, (if toMax then f.maxEnc else f.maxEnc + 1) < 2 ^ (f.width - 1) := by
    intro toMax; split <;> omega
  exact signBit_add_lt hw neg (hbelow _)

/-- The result of a magnitude above the largest finite value (R66). -/
def overflowEnc (t : Nat) (neg sat : Bool) (rm : Nat) : Nat :=
  let f := fmtOf t
  let sg := signBit f.width neg
  if !f.hasInf then (if f.hasNan && !sat then sg + f.maxEnc + 1 else sg + f.maxEnc)
  else if t != 0 && sat then sg + f.maxEnc
  else if t == 4 then sg + f.maxEnc + 1
  else ieeeOverflow f neg rm

theorem overflowEnc_lt {t : BitVec 3} (hflt : isFloatTag t = true) (neg sat : Bool) (rm : Nat) :
    overflowEnc t.toNat neg sat rm < 2 ^ elemWidth t := by
  obtain ⟨hwidth, hmax, hnext⟩ := fmtOf_bounds t hflt
  have hw := elemWidth_pos t
  simp only [overflowEnc, hwidth, Nat.add_assoc]
  split
  case isTrue hinf =>
    split
    · next hnan => exact signBit_add_lt hw neg (hnext (.inr (Bool.and_eq_true_iff.mp hnan).1))
    · exact signBit_add_lt hw neg hmax
  case isFalse hinf =>
    have hnext := hnext (.inl (by simpa using hinf))
    split
    · exact signBit_add_lt hw neg hmax
    split
    · exact signBit_add_lt hw neg hnext
    · rw [← hwidth] at hw hnext ⊢
      exact ieeeOverflow_lt hw hnext neg rm

/-- A finite value rounds to an encoding that overflows, that FTZ flushes, or that is written with its sign (R63, R66,
R68). -/
theorem roundTo_fin_float {t : Nat} (hflt : isFlt t = true) (neg : Bool) (mag : Nat) (more : Bool) (rm : Nat)
    (sat ftz : Bool) (l : BitVec 32) :
    ∃ enc l', roundTo (.fin neg mag more) t rm sat ftz l =
      if (fmtOf t).maxEnc < enc then (overflowEnc t neg sat rm, l')
      else if ftz && t ≤ 2 && enc < 2 ^ (fmtOf t).frac then (signBit (fmtOf t).width neg, l')
      else (signBit (fmtOf t).width neg + enc, l') := by
  rw [roundTo, if_pos hflt]
  exact ⟨_, _, rfl⟩

theorem clampInt_lt {w : Nat} (hw : 0 < w) (v : Int) : clampInt w v < 2 ^ w := by
  rw [clampInt_eq hw]
  exact BitVec.isLt _

theorem roundTo_lt (x : Num) (t : BitVec 3) (rm : Nat) (sat ftz : Bool) (l : BitVec 32) :
    (roundTo x t.toNat rm sat ftz l).1 < 2 ^ elemWidth t := by
  cases x with
  | nan => exact canonNan_lt t
  | inf neg => exact infEnc_lt t neg sat
  | fin neg mag more =>
    by_cases hflt : isFloatTag t = true
    · obtain ⟨hwidth, hmax, -⟩ := fmtOf_bounds t hflt
      have hw := elemWidth_pos t
      obtain ⟨enc, l', hround⟩ := roundTo_fin_float (by rwa [isFlt_toNat]) neg mag more rm sat ftz l
      rw [hround, hwidth]
      split
      · exact overflowEnc_lt hflt ..
      split
      · exact signBit_add_lt hw neg (e := 0) (by positivity)
      · exact signBit_add_lt hw neg (by omega)
    · rw [roundTo, isFlt_toNat, if_neg hflt, widthOf_toNat]
      exact clampInt_lt (elemWidth_pos t) _

/-! ## Element moves (R141) -/

section Arms
variable (o : OpV) (s : State)

theorem exec_vperm : exec (.vperm o) s = vec o s fun s => lanes o s fun k l =>
    (elem (s.rV o.va.toNat) (elem (s.rV o.vb.toNat) k (widthOf o.t.toNat) % lanesOf o.t.toNat) (widthOf o.t.toNat), l) := rfl
theorem exec_vsplat : exec (.vsplat o) s = vec o s fun s => lanes o s fun _ l => (s.splat o, l) := rfl
theorem exec_vext : exec (.vext o) s = vec o s fun s =>
    (s.wS (fld o.imm 0 5) (if isFlt o.t.toNat then w64 (elem (s.rV o.va.toNat) (fld o.imm 5 8) (widthOf o.t.toNat))
      else BitVec.ofInt 64 (toInt (widthOf o.t.toNat)
        (elem (s.rV o.va.toNat) (fld o.imm 5 8) (widthOf o.t.toNat))))).adv := rfl
theorem exec_vins : exec (.vins o) s = vec o s fun s =>
    s.putV o.vd.toNat (vecOf (widthOf o.t.toNat) ((List.range (lanesOf o.t.toNat)).map fun k =>
      if k == fld o.imm 5 8 then (s.rS (fld o.imm 0 5)).toNat % 2 ^ widthOf o.t.toNat
      else elem (s.rV o.vd.toNat) k (widthOf o.t.toNat))) s.pl.lfsr := rfl
theorem exec_vpack : exec (.vpack o) s = vec o s fun s =>
    s.putV o.vd.toNat (half (s.rV o.vb.toNat) 0 ++ half (s.rV o.va.toNat) 0) s.pl.lfsr := rfl
theorem exec_vunpk : exec (.vunpk o) s = vec o s fun s =>
    s.putV o.vd.toNat ((half (s.rV o.va.toNat) (fld o.imm 0 1)).setWidth 1024) s.pl.lfsr := rfl
end Arms

/-- The register that the low five bits of an immediate name. -/
theorem immReg_eq (i : BitVec 20) : fld i 0 5 = (BitVec.ofNat 5 i.toNat).toNat := by simp [fld]

theorem immIndex_eq (i : BitVec 20) : fld i 5 8 = i.toNat / 2 ^ 5 % 256 := rfl

/-- VSPLAT of a register takes its low bits (R141). -/
theorem splat_of_register {o : OpV} (s : State) (himm : o.imm.toNat < 2 ^ 19) :
    s.splat o = (s.rS (BitVec.ofNat 5 o.imm.toNat).toNat).toNat % 2 ^ elemWidth o.t := by
  have hreg : (fld o.imm 19 1 == 0) = true := by rw [fld, Nat.div_eq_of_lt himm]; rfl
  rw [State.splat, if_pos hreg, immReg_eq, widthOf_toNat]

/-- VSPLAT of a constant: the high half of FP32, sign-extended to INT32, and as it stands in a narrow tag (R141). -/
theorem splat_of_constant {o : OpV} (s : State) (himm : 2 ^ 19 ≤ o.imm.toNat) :
    s.splat o =
      if o.t = 0 then o.imm.toNat % 2 ^ 16 * 2 ^ 16
      else if o.t = 7 then (BitVec.ofInt 32 (BitVec.ofNat 16 (o.imm.toNat % 2 ^ 16)).toInt).toNat
      else o.imm.toNat % 2 ^ 16 % 2 ^ elemWidth o.t := by
  have hone : o.imm.toNat / 2 ^ 19 = 1 := by have := o.imm.isLt; omega
  have hconst : ¬(fld o.imm 19 1 == 0) = true := by rw [fld, hone]; decide
  have h0 : (o.t.toNat == 0) = true ↔ o.t = 0 := by simp [BitVec.toNat_eq]
  have h7 : (o.t.toNat == 7) = true ↔ o.t = 7 := by simp [BitVec.toNat_eq]
  have himm16 : fld o.imm 0 16 = o.imm.toNat % 2 ^ 16 := by simp [fld]
  simp only [State.splat, if_neg hconst, himm16, h0, h7, ofInt_eq_toNat, toInt_eq_toInt_ofNat, widthOf_toNat]

theorem splat_lt (o : OpV) (s : State) : s.splat o < 2 ^ elemWidth o.t := by
  by_cases himm : o.imm.toNat < 2 ^ 19
  · rw [splat_of_register s himm]
    exact Nat.mod_lt _ (by positivity)
  · rw [splat_of_constant s (by omega)]
    by_cases h0 : o.t = 0
    · rw [if_pos h0, h0]; show _ < 2 ^ 32; omega
    by_cases h7 : o.t = 7
    · rw [if_neg h0, if_pos h7, h7]; exact BitVec.isLt _
    · rw [if_neg h0, if_neg h7]; exact Nat.mod_lt _ (by positivity)

/-! ## Granule moves (R142) -/

theorem toNat_extractLsb'_eq_div {n : Nat} (v : BitVec n) (p l : Nat) :
    (v.extractLsb' p l).toNat = v.toNat / 2 ^ p % 2 ^ l := by
  rw [BitVec.extractLsb'_toNat, Nat.shiftRight_eq_div_pow]

theorem toNat_half (v : Vec) (n : Nat) : (half v n).toNat = v.toNat / 2 ^ (512 * n) % 2 ^ 512 :=
  toNat_extractLsb'_eq_div v (512 * n) 512

theorem toNat_append_eq_add {m n : Nat} (x : BitVec m) (y : BitVec n) :
    (x ++ y).toNat = y.toNat + x.toNat * 2 ^ n := by
  rw [BitVec.toNat_append, ← Nat.shiftLeft_add_eq_or_of_lt y.isLt, Nat.shiftLeft_eq, Nat.add_comm]

theorem toNat_packed (a b : Vec) :
    (half b 0 ++ half a 0 : Vec).toNat = a.toNat % 2 ^ 512 + b.toNat % 2 ^ 512 * 2 ^ 512 := by
  have hlow : ∀ v : Vec, (half v 0).toNat = v.toNat % 2 ^ 512 := fun v => by
    rw [toNat_half, Nat.mul_zero, Nat.pow_zero, Nat.div_one]
  rw [← hlow a, ← hlow b]
  exact toNat_append_eq_add (half b 0) (half a 0)

theorem toNat_unpacked (v : Vec) (n : Nat) :
    ((half v n).setWidth 1024).toNat = v.toNat / 2 ^ (512 * n) % 2 ^ 512 :=
  (BitVec.toNat_setWidth_of_le (by decide)).trans (toNat_half v n)

/-! ## Conversion (R135) -/

/-- VCVT's destination tag, the number of elements it converts, and the part it fills or reads (R135). -/
def cvtTag (o : OpV) : BitVec 3 := BitVec.ofNat 3 o.imm.toNat
def cvtCount (o : OpV) : Nat := 1024 / max (elemWidth o.t) (elemWidth (cvtTag o))
def cvtPart (o : OpV) : Nat := o.imm.toNat / 8 % 8

/-- The source and the destination of VCVT's element `j`. -/
def cvtFrom (o : OpV) (j : Nat) : Nat :=
  if elemWidth (cvtTag o) ≤ elemWidth o.t then j else cvtPart o * cvtCount o + j
def cvtBase (o : OpV) : Nat := if elemWidth (cvtTag o) ≤ elemWidth o.t then cvtPart o * cvtCount o else 0

theorem cvtDest_eq (o : OpV) (j : Nat) :
    (if elemWidth (cvtTag o) ≤ elemWidth o.t then cvtPart o * cvtCount o + j else j) = cvtBase o + j := by
  rw [cvtBase]
  split <;> simp

/-- VCVT's element `j`, converted, and the destination's element `d` after it. -/
def State.cvtElem (s : State) (o : OpV) (j : Nat) (l : BitVec 32) : Drawn :=
  roundTo (value o.t.toNat s.pl.ftz (lane (s.rV o.va.toNat) (elemWidth o.t) (cvtFrom o j))) (cvtTag o).toNat o.rm.toNat
    (o.sat == 1) s.pl.ftz l
def State.cvtStep (s : State) (o : OpV) (d : Nat) (l : BitVec 32) : Drawn :=
  if cvtBase o ≤ d && d - cvtBase o < cvtCount o
      && active (s.rM o.m.toNat) (max (elemWidth o.t) (elemWidth (cvtTag o))) (d - cvtBase o) then s.cvtElem o (d - cvtBase o) l
  else (lane (s.rV o.vd.toNat) (elemWidth (cvtTag o)) d, l)

theorem max_elemWidth_cases (t u : BitVec 3) :
    let w := max (elemWidth t) (elemWidth u)
    w = 4 ∨ w = 8 ∨ w = 16 ∨ w = 32 := by
  obtain h | h := max_choice (elemWidth t) (elemWidth u) <;> rw [h] <;> exact elemWidth_cases _

theorem exec_vcvt (o : OpV) (s : State) :
    exec (.vcvt o) s = vec o s fun s => s.putRun o.vd.toNat (cvtTag o) (s.cvtStep o) := by
  have htag : fld o.imm 0 3 = (cvtTag o).toNat := by simp [fld, cvtTag]
  have hpart : fld o.imm 3 3 = cvtPart o := rfl
  have hmask := maskBit_eq_active (max_elemWidth_cases o.t (cvtTag o))
  show execVcvt o s = _
  unfold execVcvt
  congr 1
  funext u
  simp only [htag, hpart, widthOf_toNat, lanesOf_toNat, hmask]
  rfl

theorem cvtStep_lt (s : State) (o : OpV) (d : Nat) (l : BitVec 32) : (s.cvtStep o d l).1 < 2 ^ elemWidth (cvtTag o) := by
  rw [State.cvtStep]
  split
  · exact roundTo_lt ..
  · exact lane_lt ..

/-- The elements beside the part keep their value and draw nothing. -/
theorem cvtStep_outside (s : State) {o : OpV} {d : Nat} (hd : d < cvtBase o ∨ cvtBase o + cvtCount o ≤ d) (l : BitVec 32) :
    s.cvtStep o d l = (lane (s.rV o.vd.toNat) (elemWidth (cvtTag o)) d, l) := by
  rw [State.cvtStep, if_neg]
  simp only [Bool.and_eq_true, decide_eq_true_eq]
  omega

/-- Within the part an active element is converted and an inactive one keeps its value. -/
theorem cvtStep_inside (s : State) {o : OpV} {j : Nat} (hj : j < cvtCount o) (l : BitVec 32) :
    s.cvtStep o (cvtBase o + j) l =
      if active (s.rM o.m.toNat) (max (elemWidth o.t) (elemWidth (cvtTag o))) j then s.cvtElem o j l
      else (lane (s.rV o.vd.toNat) (elemWidth (cvtTag o)) (cvtBase o + j), l) := by
  simp only [State.cvtStep, Nat.add_sub_cancel_left, Nat.le_add_right, hj, decide_true, Bool.true_and]

/-- A part lies within the destination (R135). -/
theorem cvtBase_fits {o : OpV}
    (hpart : cvtPart o < max (elemWidth o.t / elemWidth (cvtTag o)) (elemWidth (cvtTag o) / elemWidth o.t)) :
    cvtBase o + cvtCount o ≤ 1024 / elemWidth (cvtTag o) := by
  have hd := elemWidth_pos (cvtTag o)
  by_cases hle : elemWidth (cvtTag o) ≤ elemWidth o.t
  · rw [max_eq_left (Nat.div_le_div hle hle hd.ne')] at hpart
    rw [cvtBase, if_pos hle, cvtCount, max_eq_left hle, ← Nat.succ_mul, Nat.le_div_iff_mul_le hd]
    calc (cvtPart o).succ * (1024 / elemWidth o.t) * elemWidth (cvtTag o)
        ≤ elemWidth o.t / elemWidth (cvtTag o) * (1024 / elemWidth o.t) * elemWidth (cvtTag o) := by gcongr; exact hpart
      _ = elemWidth o.t / elemWidth (cvtTag o) * elemWidth (cvtTag o) * (1024 / elemWidth o.t) := by ring
      _ ≤ elemWidth o.t * (1024 / elemWidth o.t) := by gcongr; exact Nat.div_mul_le_self ..
      _ ≤ 1024 := Nat.mul_div_le ..
  · rw [cvtBase, if_neg hle, cvtCount, max_eq_right (not_le.mp hle).le, Nat.zero_add]

/-- The LFSR before VCVT's element `j`. -/
def State.cvtLfsr (s : State) (o : OpV) (j : Nat) : BitVec 32 := lfsrAfter (s.cvtStep o) s.pl.lfsr (cvtBase o + j)

theorem cvtLfsr_zero (s : State) (o : OpV) : s.cvtLfsr o 0 = s.pl.lfsr :=
  lfsrAfter_of_kept (fun _ hd l => by rw [cvtStep_outside s (.inl hd) l]) _

theorem cvtLfsr_last {o : OpV} (s : State) (hfits : cvtBase o + cvtCount o ≤ 1024 / elemWidth (cvtTag o)) :
    lfsrAfter (s.cvtStep o) s.pl.lfsr (1024 / elemWidth (cvtTag o)) = s.cvtLfsr o (cvtCount o) := by
  obtain ⟨n, hn⟩ := Nat.exists_eq_add_of_le hfits
  rw [hn]
  exact lfsrAfter_add_of_kept (fun _ hd _ l => by rw [cvtStep_outside s (.inr hd) l]) _

theorem vcvt_effect {o : OpV} (s : State) (hq : o.rm = 5 → s.pl.drawsQueued = false)
    (hfits : cvtBase o + cvtCount o ≤ 1024 / elemWidth (cvtTag o)) :
    guarded (.vcvt o) s o.g o.gn fun t =>
      t.pl.lfsr = s.cvtLfsr o (cvtCount o)
      ∧ (∀ j, j < cvtCount o → (lane (t.rV o.vd.toNat) (elemWidth (cvtTag o)) (cvtBase o + j), s.cvtLfsr o (j + 1)) =
          if active (s.rM o.m.toNat) (max (elemWidth o.t) (elemWidth (cvtTag o))) j then s.cvtElem o j (s.cvtLfsr o j)
          else (lane (s.rV o.vd.toNat) (elemWidth (cvtTag o)) (cvtBase o + j), s.cvtLfsr o j))
      ∧ (∀ d, d < 1024 / elemWidth (cvtTag o) → (d < cvtBase o ∨ cvtBase o + cvtCount o ≤ d) →
          lane (t.rV o.vd.toNat) (elemWidth (cvtTag o)) d = lane (s.rV o.vd.toNat) (elemWidth (cvtTag o)) d)
      ∧ ranOn s t (s.pc + 1) [] [] [o.vd.toNat] [] true := by
  refine guarded_vec (exec_vcvt o s) hq ?_
  obtain ⟨hlane, hl, hran, -⟩ := putRun_effect s o.vd.toNat (cvtStep_lt s o)
  refine ⟨hl.trans (cvtLfsr_last s hfits), fun j hj => ?_, fun d hd hout => ?_, hran⟩
  · rw [hlane _ (by omega), ← cvtStep_inside s hj]
    rfl
  · rw [hlane d hd, cvtStep_outside s hout]

/-- Settles O17: the moves list their elements or halves, and VCVT's elements are those of one part, each converted with
the LFSR that the one before left. -/
theorem vectorMovesAndConversion : Obligations.VectorMovesAndConversion := by
  refine ⟨fun o s hrm => ?moves, fun o s hq => ?conversion⟩
  case moves =>
    intro w n a b imm r idx i16
    refine ⟨?perm, fun himm => ?splat, fun himm => ?constant, fun _ => ⟨?ext, ?ins⟩, ?pack, ?unpk⟩
    case perm =>
      refine writesLanes_vec (exec_vperm o s) rfl hrm (fun k l => ?_) fun _ => lane_lt ..
      rw [widthOf_toNat, lanesOf_toNat]
      rfl
    case splat =>
      exact writesLanes_vec (exec_vsplat o s) rfl hrm (fun _ _ => by rw [splat_of_register s himm]) fun _ =>
        Nat.mod_lt _ (by positivity)
    case constant =>
      refine writesLanes_vec (exec_vsplat o s) rfl hrm (fun _ _ => by rw [splat_of_constant s himm]) fun _ => ?_
      rw [← splat_of_constant s himm]
      exact splat_lt o s
    case ext =>
      refine guarded_vec (exec_vext o s) (not_draws hrm) ?_
      simp only [immReg_eq, immIndex_eq, isFlt_toNat, widthOf_toNat, elem_eq_lane, toInt_lane]
      exact wS_adv_effect ..
    case ins =>
      refine guarded_vec (exec_vins o s) (not_draws hrm) ?_
      simp only [immReg_eq, immIndex_eq, widthOf_toNat, lanesOf_toNat, elem_eq_lane, beq_iff_eq]
      obtain ⟨hV, -, -, hran⟩ := putV_effect s o.vd.toNat _ s.pl.lfsr
      refine ⟨fun k hk => ?_, hran rfl⟩
      rw [hV, lane_vecOf_map_range hk, Nat.mod_eq_of_lt]
      split
      · exact Nat.mod_lt _ (by positivity)
      · exact lane_lt ..
    case pack =>
      refine guarded_vec (exec_vpack o s) (not_draws hrm) ?_
      obtain ⟨hV, -, -, hran⟩ := putV_effect s o.vd.toNat (half b 0 ++ half a 0) s.pl.lfsr
      exact ⟨(congrArg BitVec.toNat hV).trans (toNat_packed a b), hran rfl⟩
    case unpk =>
      refine guarded_vec (exec_vunpk o s) (not_draws hrm) ?_
      obtain ⟨hV, -, -, hran⟩ := putV_effect s o.vd.toNat ((half a (fld o.imm 0 1)).setWidth 1024) s.pl.lfsr
      refine ⟨(congrArg BitVec.toNat hV).trans ((toNat_unpacked a _).trans ?_), hran rfl⟩
      rw [show fld o.imm 0 1 = imm % 2 by simp [fld, imm]]
  case conversion =>
    intro td part ws wd c hpart
    refine ⟨fun hg => (vcvt_effect s hq (cvtBase_fits hpart)).1 hg, fun hg => ?_⟩
    obtain ⟨t, hexec, hl, hin, hout, hran⟩ := (vcvt_effect s hq (cvtBase_fits hpart)).2 hg
    refine ⟨t, hexec, ⟨s.cvtLfsr o, cvtLfsr_zero s o, hl, fun j hj => ?_⟩, fun d hd hnarrow hwide => ?_, hran⟩
    · intro si di
      rw [show di = cvtBase o + j from cvtDest_eq o j]
      by_cases hact : active (s.rM o.m.toNat) (max ws wd) j = true
      · rw [if_pos hact]
        exact (hin j hj).trans (if_pos hact)
      · rw [if_neg hact]
        exact Prod.mk.inj ((hin j hj).trans (if_neg hact))
    · refine hout d hd ?_
      by_cases hle : wd ≤ ws
      · rw [show cvtBase o = part * c from if_pos hle]
        exact hnarrow hle
      · rw [show cvtBase o = 0 from if_neg hle, Nat.zero_add]
        exact .inr (hwide (not_le.mp hle))

end Sys2Proof.Machine
end

section
/-!
PROOFS. VCOMP's gathered groups and VMRG's merge of two runs of pairs (R143, R144).
-/
namespace Sys2Proof.Machine

/-! ## A V, an S and a P register written together (R52) -/

theorem wrote_wV_wS (s : State) (d n : Nat) (v : Vec) (x : Word) : wrote s ((s.wV d v).wS n x) :=
  wrote_trans (wrote_wV s d v) (wrote_wS _ n x)

theorem regs_wV_wS (s : State) (d n : Nat) (v : Vec) (x : Word) :
    ((s.wV d v).wS n x).pl.regs = (s.pl.regs.wV d v).wS n x := by
  rw [regs_wS, regs_wV]

theorem wV_wS_adv_effect (s : State) (d n : Nat) (v : Vec) (x : Word) :
    ((s.wV d v).wS n x).adv.rV d = v ∧ ((s.wV d v).wS n x).adv.rS n = (if n = 0 then 0 else x)
      ∧ ranOn s ((s.wV d v).wS n x).adv (s.pc + 1) [n] [] [d] [] false := by
  rw [adv_of_wrote (wrote_wV_wS s d n v x)]
  refine ⟨?_, ?_, ranOn_of_wrote _ _ (wrote_wV_wS s d n v x) (fun _ => by simp) ?_ ?_ ?_ ?_⟩
  · rw [State.rV_goto, State.rV, regs_wV_wS, Regs.rV_wS, Regs.rV_wV, if_pos rfl]
  · rw [State.rS_goto, rS_wS_self]
  all_goals
    intro m hm
    simp only [State.rS, State.rP, State.rV, State.rM, regs_wV_wS, Regs.rP_wS, Regs.rV_wS, Regs.rM_wS, Regs.rP_wV,
      Regs.rM_wV]
  · rw [Regs.rS_wS, if_neg (by simp_all), Regs.rS_wV]
  · rw [Regs.rV_wV, if_neg (by simpa using hm)]

theorem wV_wS_wP_adv_effect (s : State) (d n p : Nat) (v : Vec) (x : Word) (b : BitVec 1) :
    let t := (((s.wV d v).wS n x).wP p b).adv
    t.rV d = v ∧ t.rS n = (if n = 0 then 0 else x) ∧ t.rP p = (if p = 0 then 1 else b)
      ∧ ranOn s t (s.pc + 1) [n] [p] [d] [] false := by
  have hw : wrote s (((s.wV d v).wS n x).wP p b) := wrote_trans (wrote_wV_wS s d n v x) (wrote_wP _ p b)
  have hregs : (((s.wV d v).wS n x).wP p b).pl.regs = ((s.pl.regs.wV d v).wS n x).wP p b := by rw [regs_wP, regs_wV_wS]
  intro t
  rw [show t = _ from adv_of_wrote hw]
  refine ⟨?_, ?_, ?_, ranOn_of_wrote _ _ hw (fun _ => by simp) ?_ ?_ ?_ ?_⟩
  · rw [State.rV_goto, State.rV, hregs, Regs.rV_wP, Regs.rV_wS, Regs.rV_wV, if_pos rfl]
  · rw [State.rS_goto, ← rS_wS_self (s.wV d v)]
    simp only [State.rS, hregs, regs_wV_wS, Regs.rS_wP]
  · rw [State.rP_goto, rP_wP_self]
  all_goals
    intro m hm
    simp only [State.rS, State.rP, State.rV, State.rM, hregs, Regs.rS_wP, Regs.rV_wP, Regs.rM_wP, Regs.rV_wS, Regs.rM_wS,
      Regs.rM_wV]
  · rw [Regs.rS_wS, if_neg (by simp_all), Regs.rS_wV]
  · rw [Regs.rP_wP, if_neg (by simp_all), Regs.rP_wS, Regs.rP_wV]
  · rw [Regs.rV_wV, if_neg (by simpa using hm)]

/-! ## Blocks of one length laid end to end -/

theorem getElem?_flatMap_of_length {α β : Type} {g : Nat} (hg : 0 < g) {f : α → List β} (hf : ∀ x, (f x).length = g)
    (xs : List α) (q : Nat) : (xs.flatMap f)[q]? = xs[q / g]?.bind fun x => (f x)[q % g]? := by
  induction xs generalizing q with
  | nil => simp
  | cons x xs ih =>
    rw [List.flatMap_cons]
    by_cases hq : q < g
    · rw [List.getElem?_append_left (by rwa [hf]), Nat.div_eq_of_lt hq, Nat.mod_eq_of_lt hq]
      rfl
    · obtain ⟨p, rfl⟩ := Nat.exists_eq_add_of_le (not_lt.mp hq)
      rw [List.getElem?_append_right (by rw [hf]; omega), hf, Nat.add_sub_cancel_left, ih, Nat.add_mod_left,
        Nat.add_div_left _ hg]
      rfl

/-! ## Compaction (R143) -/

/-- The groups that VCOMP selects, lowest first. -/
def State.compSel (s : State) (o : OpV) : List Nat :=
  (List.range (1024 / elemWidth o.t / 2 ^ fld o.imm 8 3)).filter fun j =>
    active (s.rM o.m.toNat) (elemWidth o.t) (j * 2 ^ fld o.imm 8 3 + fld o.imm 11 7)

/-- The elements of the selected groups. -/
def State.compOut (s : State) (o : OpV) : List Nat :=
  (s.compSel o).flatMap fun j => (List.range (2 ^ fld o.imm 8 3)).map fun e =>
    lane (s.rV o.va.toNat) (elemWidth o.t) (j * 2 ^ fld o.imm 8 3 + e)

theorem exec_vcomp (o : OpV) (s : State) : exec (.vcomp o) s = vec o s fun s =>
    (((s.wV o.vd.toNat (vecOf (elemWidth o.t) (s.compOut o))).wS (fld o.imm 0 5) (w64 (s.compSel o).length)).wP
      (fld o.imm 5 3) (predBit (0 < (s.compSel o).length))).adv := by
  show execVcomp o s = _
  simp only [execVcomp, widthOf_toNat, lanesOf_toNat, maskBit_elemWidth]
  rfl

theorem lane_compOut {o : OpV} (s : State) {q : Nat} (hq : q < 1024 / elemWidth o.t) :
    lane (vecOf (elemWidth o.t) (s.compOut o)) (elemWidth o.t) q =
      (((s.compSel o)[q / 2 ^ fld o.imm 8 3]?.map fun j =>
        lane (s.rV o.va.toNat) (elemWidth o.t) (j * 2 ^ fld o.imm 8 3 + q % 2 ^ fld o.imm 8 3)).getD 0) := by
  have hg : 0 < 2 ^ fld o.imm 8 3 := by positivity
  rw [lane_vecOf (lane_fits hq), State.compOut, getElem?_flatMap_of_length hg (by simp)]
  cases (s.compSel o)[q / 2 ^ fld o.imm 8 3]? with
  | none => simp
  | some j => simp [List.getElem?_range (Nat.mod_lt q hg), lane_mod]

theorem predBit_length_pos {α : Type} (xs : List α) [Decidable (xs = [])] :
    predBit (0 < xs.length) = if xs = [] then 0 else 1 := by
  cases xs <;> simp [predBit]

theorem compact_fits_of_wf {o : OpV} (hwf : (Instr.vcomp o).wf = true) :
    2 ^ (o.imm.toNat / 2 ^ 8 % 8) ≤ 1024 / elemWidth o.t ∧ o.imm.toNat / 2 ^ 11 % 128 < 2 ^ (o.imm.toNat / 2 ^ 8 % 8) := by
  simp only [Instr.wf, OpV.compactOk, Bool.and_eq_true, decide_eq_true_eq] at hwf
  obtain ⟨-, ⟨-, hgroup⟩, hlead⟩ := hwf
  exact ⟨hgroup, hlead⟩

/-! ## Merge (R144) -/

section Merge
variable {α : Type} {le : α → α → Bool} {x y : α} {a b : List α}

/-- A merge takes the head of its first run unless the second run's head comes strictly before it. -/
theorem merge_cons_left (hb : ∀ y ∈ b.head?, le x y = true) : List.merge (x :: a) b le = x :: List.merge a b le := by
  cases b with
  | nil => simp
  | cons y b => exact List.cons_merge_cons_pos _ _ _ (hb y rfl)

theorem merge_cons_right (ha : ∀ x ∈ a.head?, ¬le x y = true) : List.merge a (y :: b) le = y :: List.merge a b le := by
  cases a with
  | nil => simp
  | cons x a => exact List.cons_merge_cons_neg _ _ _ (ha x rfl)

theorem mem_head?_of_mem_head?_take {n : Nat} (h : x ∈ (a.take n).head?) : x ∈ a.head? := by
  rw [List.head?_take] at h
  split at h
  · cases h
  · exact h
end Merge

/-- `m` is the first k pairs of the merge of two runs, and the numbers of pairs that it takes of each (R144). -/
structure MergeTakes (le : Nat × Nat → Nat × Nat → Bool) (k : Nat) (a b : List (Nat × Nat))
    (m : List (Nat × Nat) × Nat × Nat) : Prop where
  left_le : m.2.1 ≤ a.length
  right_le : m.2.2 ≤ b.length
  sum : m.2.1 + m.2.2 = min k (a.length + b.length)
  take : (List.merge a b le).take k = m.1
  parts : List.merge (a.take m.2.1) (b.take m.2.2) le = m.1

section MergeTakes
variable {le : Nat × Nat → Nat × Nat → Bool} {k i j : Nat} {a b r : List (Nat × Nat)}

theorem MergeTakes.cons_left {x : Nat × Nat} (h : MergeTakes le k a b (r, i, j)) (hb : ∀ y ∈ b.head?, le x y = true) :
    MergeTakes le (k + 1) (x :: a) b (x :: r, i + 1, j) where
  left_le := Nat.succ_le_succ h.left_le
  right_le := h.right_le
  sum := by have := h.sum; simp only [List.length_cons] at *; omega
  take := by rw [merge_cons_left hb, List.take_succ_cons, h.take]
  parts := by
    rw [List.take_succ_cons, merge_cons_left fun y hy => hb y (mem_head?_of_mem_head?_take hy), h.parts]

theorem MergeTakes.cons_right {y : Nat × Nat} (h : MergeTakes le k a b (r, i, j)) (ha : ∀ x ∈ a.head?, ¬le x y = true) :
    MergeTakes le (k + 1) a (y :: b) (y :: r, i, j + 1) where
  left_le := h.left_le
  right_le := Nat.succ_le_succ h.right_le
  sum := by have := h.sum; simp only [List.length_cons] at *; omega
  take := by rw [merge_cons_right ha, List.take_succ_cons, h.take]
  parts := by
    rw [List.take_succ_cons, merge_cons_right fun x hx => ha x (mem_head?_of_mem_head?_take hx), h.parts]
end MergeTakes

theorem mergeTakes_merge (le : Nat → Nat → Bool) (k : Nat) (a b : List (Nat × Nat)) :
    MergeTakes (fun x y => le x.1 y.1) k a b (merge le k a b) := by
  fun_induction merge le k a b with
  | case1 a b => constructor <;> simp
  | case2 k => constructor <;> simp
  | case3 k x a r i j h ih => exact (h ▸ ih).cons_left (by simp)
  | case4 k y b r i j h ih => exact (h ▸ ih).cons_right (by simp)
  | case5 k x a y b hle r i j h ih => exact (h ▸ ih).cons_left (by simpa using hle)
  | case6 k x a y b hle r i j h ih => exact (h ▸ ih).cons_right (by simpa using hle)

/-- The pairs of a register, key in the lower lane (R144). -/
theorem pairs_eq (v : Vec) (n : Nat) :
    pairs v n = (List.range (min n 16)).map fun p => (lane v 32 (2 * p), lane v 32 (2 * p + 1)) := rfl

theorem pairs_lt {v : Vec} {n : Nat} {x : Nat × Nat} (hx : x ∈ pairs v n) : x.1 < 2 ^ 32 ∧ x.2 < 2 ^ 32 := by
  rw [pairs_eq, List.mem_map] at hx
  obtain ⟨p, -, rfl⟩ := hx
  exact ⟨lane_lt .., lane_lt ..⟩

/-- A register that is listed pair after pair. -/
theorem lane_vecOf_pairs {xs : List (Nat × Nat)} (hxs : ∀ x ∈ xs, x.1 < 2 ^ 32 ∧ x.2 < 2 ^ 32) {p : Nat} (hp : p < 16) :
    (lane (vecOf 32 (xs.flatMap fun x => [x.1, x.2])) 32 (2 * p),
      lane (vecOf 32 (xs.flatMap fun x => [x.1, x.2])) 32 (2 * p + 1)) = xs[p]?.getD (0, 0) := by
  rw [lane_vecOf (by omega), lane_vecOf (by omega), getElem?_flatMap_of_length (g := 2) (by omega) (fun _ => rfl),
    getElem?_flatMap_of_length (g := 2) (by omega) (fun _ => rfl), show 2 * p / 2 = p by omega,
    show (2 * p + 1) / 2 = p by omega, show 2 * p % 2 = 0 by omega, show (2 * p + 1) % 2 = 1 by omega]
  cases hx : xs[p]? with
  | none => rfl
  | some x =>
    obtain ⟨hkey, hpayload⟩ := hxs x (List.mem_of_getElem? hx)
    exact Prod.ext (Nat.mod_eq_of_lt hkey) (Nat.mod_eq_of_lt hpayload)

/-- VMRG's order of two keys (R144). -/
def mrgLe (o : OpV) (a b : Nat) : Bool :=
  if fld o.imm 10 1 == 1 then decide (a ≤ b) else decide (toInt 32 a ≤ toInt 32 b)

/-- VMRG's merge of its two runs. -/
def State.mrgOut (s : State) (o : OpV) : List (Nat × Nat) × Nat × Nat :=
  merge (mrgLe o) 16 (pairs (s.rV o.va.toNat) (fld (s.rS (fld o.imm 5 5)) 0 5))
    (pairs (s.rV o.vb.toNat) (fld (s.rS (fld o.imm 5 5)) 8 5))

theorem exec_vmrg (o : OpV) (s : State) : exec (.vmrg o) s = vec o s fun s =>
    ((s.wV o.vd.toNat (vecOf 32 ((s.mrgOut o).1.flatMap fun x => [x.1, x.2]))).wS (fld o.imm 0 5)
      (w64 ((s.mrgOut o).2.2 * 256 + (s.mrgOut o).2.1))).adv := by
  have hle : (fun a b => if fld o.imm 10 1 == 1 then decide (a ≤ b) else decide (toInt 32 a ≤ toInt 32 b)) = mrgLe o := rfl
  show execVmrg o s = _
  simp only [execVmrg, hle, State.mrgOut]

/-- Settles O18: blocks of one length laid end to end give VCOMP's elements; VMRG's counts say which pairs of each run its
merge takes. -/
theorem vectorCompactionAndMerge : Obligations.VectorCompactionAndMerge := by
  refine ⟨fun o s hrm => ?compaction, fun o w hbad hdec => hbad (compact_fits_of_wf (wf_of_decodeStage hdec)),
    fun o s hrm => ?merging⟩
  case compaction =>
    intro w n g lead sd pd sel _ _
    have himm : fld o.imm 0 5 = sd := by simp [fld, sd]
    have hsel : s.compSel o = sel := rfl
    refine guarded_vec (exec_vcomp o s) (not_draws hrm) ?_
    obtain ⟨hV, hS, hP, hran⟩ := wV_wS_wP_adv_effect s o.vd.toNat (fld o.imm 0 5) (fld o.imm 5 3)
      (vecOf (elemWidth o.t) (s.compOut o)) (w64 (s.compSel o).length) (predBit (0 < (s.compSel o).length))
    rw [himm, hsel] at *
    refine ⟨fun q hq => ?_, hS, ?_, hran⟩
    · rw [hV, lane_compOut s hq, hsel]
      show ((sel[q / g]?.map _).getD 0) = _
      cases sel[q / g]? <;> rfl
    · rw [← predBit_length_pos]; exact hP
  case merging =>
    intro sn sd run pa pb le
    have himm : fld o.imm 0 5 = sd := by simp [fld, sd]
    have hle : (fun x y : Nat × Nat => mrgLe o x.1 y.1) = le := by
      funext x y
      simp only [mrgLe, toInt_eq_toInt_ofNat, beq_iff_eq]
      rfl
    have hpa : pairs (s.rV o.va.toNat) (fld (s.rS (fld o.imm 5 5)) 0 5) = pa := by
      rw [pairs_eq, fld, Nat.pow_zero, Nat.div_one]; rfl
    have hpb : pairs (s.rV o.vb.toNat) (fld (s.rS (fld o.imm 5 5)) 8 5) = pb := rfl
    have hmerge := mergeTakes_merge (mrgLe o) 16 pa pb
    have hout : s.mrgOut o = merge (mrgLe o) 16 pa pb := by rw [State.mrgOut, hpa, hpb]
    rw [← hout, hle] at hmerge
    have hlt : ∀ x ∈ (s.mrgOut o).1, x.1 < 2 ^ 32 ∧ x.2 < 2 ^ 32 := by
      intro x hx
      rw [← hmerge.take] at hx
      obtain hx | hx := List.mem_merge.mp (List.mem_of_mem_take hx)
      · exact pairs_lt (hpa ▸ hx)
      · exact pairs_lt (hpb ▸ hx)
    refine guarded_vec (exec_vmrg o s) (not_draws hrm) ?_
    obtain ⟨hV, hS, hran⟩ := wV_wS_adv_effect s o.vd.toNat (fld o.imm 0 5)
      (vecOf 32 ((s.mrgOut o).1.flatMap fun x => [x.1, x.2])) (w64 ((s.mrgOut o).2.2 * 256 + (s.mrgOut o).2.1))
    rw [himm] at *
    refine ⟨_, _, hmerge.left_le, hmerge.right_le, hmerge.sum, hmerge.take.trans hmerge.parts.symm, fun p hp => ?_, hS, hran⟩
    rw [hV, lane_vecOf_pairs hlt hp, ← hmerge.take, List.getElem?_take_of_lt hp]

end Sys2Proof.Machine
end
